-- ==== Sys2Proof/Word.lean ====
section
/-! DEFINITION. The names and plain values the whole model shares: bytes and identifiers, bay and channel
numbers, and the enumerations of the spec. -/

namespace Sys2Proof

/-- One byte of the host line or of the loop (R195). -/
abbrev Byte := BitVec 8
/-- An asset ID, 8 bytes (R55). -/
abbrev AssetId := BitVec 64
/-- A holder badge, 4 bytes (R78). -/
abbrev Badge := BitVec 32
/-- A node serial, 6 bytes (R137). -/
abbrev Serial := BitVec 48
/-- A value of the seconds counter, 32 bits wide and wrapping (R192). -/
abbrev Secs := BitVec 32
/-- A bay by its 0-based bay index: bay index 0 is bay 1 (00_scope, Numbering). -/
abbrev BayIx := Fin 36
/-- A channel by its 0-based index: index 0 is channel 1. -/
abbrev ChanIx := Fin 4

/-- The inlet condition of R2. -/
inductive InletCond | lost | normal | brownout
deriving DecidableEq, Repr

/-- The cart power states, in the order of the table of chapter 1. -/
inductive PowerState | serving | riding | draining | transit | settling
deriving DecidableEq, Repr

/-- The link states of chapter 7, in the order of their table. -/
inductive LinkState | linked | lost | absent | dark
deriving DecidableEq, Repr

/-- The bolt position of a status block, in the order of its codes (chapter 12). -/
inductive Bolt | retracted | engaged | between
deriving DecidableEq, Repr

/-- The direction of a bolt movement, in the order of the LOCK codes (chapter 12). -/
inductive Dir | engage | retract
deriving DecidableEq, Repr

/-- The Held reasons, in the order of the table of custody states. -/
inductive HeldReason | noTag | unknown | wrongHome | duplicate | swapped
deriving DecidableEq, Repr

/-- The state a bay was in when it jammed (R69). -/
inductive JamOrigin
  | securing | releasing | clearing | vacant | held (r : HeldReason) | released
deriving DecidableEq, Repr

/-- The nine custody states of chapter 3; the Held reason and the Jammed record are parts of the state. -/
inductive Custody
  | vacant | seating | securing | locked | releasing | released | clearing
  | held (r : HeldReason) | jammed (d : Dir) (o : JamOrigin)
deriving DecidableEq, Repr

/-- The standing of an asset field (R55). -/
inductive Standing | docked | foreign | unbound
deriving DecidableEq, Repr

/-- The lamp colours, in the order of their codes (chapter 12). -/
inductive Colour | off | amber | green | greenBlinking | red | redBlinking
deriving DecidableEq, Repr

/-- The four causes of a rebuild (R145). -/
inductive RebuildCause | start | settle | host | auto
deriving DecidableEq, Repr

/-- The phases of a rebuild (chapter 7). -/
inductive RebuildPhase | draining | powerOff | booting | discovering | probing
deriving DecidableEq, Repr

/-- The causes of a start (R193), in the order of their codes. -/
inductive StartCause | cold | warmPin | warmRestart
deriving DecidableEq, Repr

/-- The two kinds of drain (chapter 8). -/
inductive DrainKind | cart | rebuild
deriving DecidableEq, Repr

/-- The round states of R34. -/
inductive RoundState | idle | lowering | raising | holdoff
deriving DecidableEq, Repr

/-- The two pulse slots of R100. -/
inductive PulseSlot | a | b
deriving DecidableEq, Repr

/-- The session classes of R117, in the order of their codes. -/
inductive SessClass | image | update | inventory
deriving DecidableEq, Repr

/-- The session states of R115. -/
inductive SessState | queued | linking | active | draining
deriving DecidableEq, Repr

/-- The channel states of R111. -/
inductive ChanState | off | free | linking | busy | draining
deriving DecidableEq, Repr

/-- The session outcomes, in the order of their table (chapter 6). -/
inductive SessOutcome
  | completed | failed | linkTimeout | expired | aborted | forced | withdrawn | removed
  | interrupted | reset
deriving DecidableEq, Repr

/-- The two cases of a reconciliation (chapter 8). -/
inductive ReconCase | warm | cold
deriving DecidableEq, Repr

/-- The kinds of notice, in the order of the table of R181. -/
inductive NoticeKind
  | started | inletLost | inletBack | transitEntered | transitLeft | brownout | inletOverdraw
  | inletFaultLatched | derating | thermalCutoff | holdupLow | bayOverdraw | bayHot | bayLost
  | loopRebuilt | nodeReplaced | tamper | custodyMismatch | tabletHeld | returned | wrongHome
  | taken | notTaken | releaseCancelled | localRelease | readySetChanged | jammed
  | sessionStarted | sessionEnded | standalone
deriving DecidableEq, Repr

/-- Every reason a notice may carry (R181, last columns). -/
inductive Reason
  | storeLoaded | storeDefaults | sensorFault | temperature | overdraw | short | misses | absent
  | removed | bolt | jammed | swapped | recovered | admitted | inWindow | late | early | unlocked
  | expired | transit | rebuild | custody | lost | fault | host | drain | engage | retract
  | held (r : HeldReason) | outcome (o : SessOutcome) | cause (c : RebuildCause)
deriving DecidableEq, Repr

/-- The result codes of R173. -/
inductive Result
  | done | accepted | clamped | unknownKind | badLength | badValue | noBay | wrongState | inSession
  | reserved | jammed | noneReady | transit | unknown | full | duplicate | noRoute | faulted
  | lost | busy
deriving DecidableEq, Repr

/-- The six node results of R138. -/
inductive NodeResult | ok | badOp | badArg | busy | noTag | readOnly
deriving DecidableEq, Repr

end Sys2Proof
end

