-- ==== Sys2Proof/Config.lean ====
section
/-! DEFINITION. What is fixed for the machine: the settings with their numbers, ranges and defaults (R189), the
default notice levels (R181), the defaults of the channel table (R112), and the values the spec leaves open, each
a constant with no body. -/

namespace Sys2Proof

/-- The numbered settings of R189 that are no channel field, in the order of the table. -/
inductive SettingId
  | irate | headroom | efficiency | pfix | ppulse | qcap | rideThrough | drainLimit | settle
  | pport | fsess | batch | spacing | seatSettle | foreignPolicy | wrongHomePolicy | window
  | bestMin | readyThreshold | pulseLength | linkTimer | drainSettle | bayCount | scanPeriod
  | autoRebuild | rebuildHoldoff | silence | attention
deriving DecidableEq, Repr

namespace Config

/-- The place of a setting in the table of R189. -/
def settingIx : SettingId → Fin 28
  | .irate => 0 | .headroom => 1 | .efficiency => 2 | .pfix => 3 | .ppulse => 4 | .qcap => 5
  | .rideThrough => 6 | .drainLimit => 7 | .settle => 8 | .pport => 9 | .fsess => 10 | .batch => 11
  | .spacing => 12 | .seatSettle => 13 | .foreignPolicy => 14 | .wrongHomePolicy => 15
  | .window => 16 | .bestMin => 17 | .readyThreshold => 18 | .pulseLength => 19 | .linkTimer => 20
  | .drainSettle => 21 | .bayCount => 22 | .scanPeriod => 23 | .autoRebuild => 24
  | .rebuildHoldoff => 25 | .silence => 26 | .attention => 27

/-- The settings in the order of the table of R189. -/
def allSettings : List SettingId :=
  [.irate, .headroom, .efficiency, .pfix, .ppulse, .qcap, .rideThrough, .drainLimit, .settle,
   .pport, .fsess, .batch, .spacing, .seatSettle, .foreignPolicy, .wrongHomePolicy, .window,
   .bestMin, .readyThreshold, .pulseLength, .linkTimer, .drainSettle, .bayCount, .scanPeriod,
   .autoRebuild, .rebuildHoldoff, .silence, .attention]

/-- One row of the table of R189: setting number, lowest and highest value, default. -/
structure SettingRow where
  number : Nat
  lo : Nat
  hi : Nat
  dflt : Nat
deriving DecidableEq, Repr

/-- The table of R189. -/
def settingRow : SettingId → SettingRow
  | .irate => ⟨0x01, 40, 160, 100⟩
  | .headroom => ⟨0x02, 0, 30, 10⟩
  | .efficiency => ⟨0x03, 70, 95, 88⟩
  | .pfix => ⟨0x04, 0, 60, 20⟩
  | .ppulse => ⟨0x05, 4, 12, 8⟩
  | .qcap => ⟨0x06, 50, 2000, 400⟩
  | .rideThrough => ⟨0x08, 50, 1000, 200⟩
  | .drainLimit => ⟨0x09, 5, 30, 15⟩
  | .settle => ⟨0x0A, 2, 32, 8⟩
  | .pport => ⟨0x10, 10, 45, 30⟩
  | .fsess => ⟨0x11, 10, 25, 15⟩
  | .batch => ⟨0x12, 2, 12, 6⟩
  | .spacing => ⟨0x13, 1, 10, 2⟩
  | .seatSettle => ⟨0x18, 1, 10, 2⟩
  | .foreignPolicy => ⟨0x19, 0, 1, 0⟩
  | .wrongHomePolicy => ⟨0x1A, 0, 1, 1⟩
  | .window => ⟨0x1B, 5, 120, 30⟩
  | .bestMin => ⟨0x1C, 0, 100, 50⟩
  | .readyThreshold => ⟨0x1D, 0, 100, 80⟩
  | .pulseLength => ⟨0x1E, 100, 500, 300⟩
  | .linkTimer => ⟨0x20, 5, 60, 20⟩
  | .drainSettle => ⟨0x21, 1, 10, 2⟩
  | .bayCount => ⟨0x28, 1, 36, 36⟩
  | .scanPeriod => ⟨0x29, 250, 2000, 500⟩
  | .autoRebuild => ⟨0x2A, 0, 1, 1⟩
  | .rebuildHoldoff => ⟨0x2B, 5, 60, 10⟩
  | .silence => ⟨0x30, 0, 3600, 300⟩
  | .attention => ⟨0x31, 1, 7, 4⟩

/-- A setting that takes 0 or 1 only (R189: the policies and auto rebuild). -/
def enumerated : SettingId → Bool
  | .foreignPolicy | .wrongHomePolicy | .autoRebuild => true
  | _ => false

/-- The kinds of notice in the order of the table of R181. -/
def allKinds : List NoticeKind :=
  [.started, .inletLost, .inletBack, .transitEntered, .transitLeft, .brownout, .inletOverdraw,
   .inletFaultLatched, .derating, .thermalCutoff, .holdupLow, .bayOverdraw, .bayHot, .bayLost,
   .loopRebuilt, .nodeReplaced, .tamper, .custodyMismatch, .tabletHeld, .returned, .wrongHome,
   .taken, .notTaken, .releaseCancelled, .localRelease, .readySetChanged, .jammed,
   .sessionStarted, .sessionEnded, .standalone]

/-- The place of a kind in the table of R181. -/
def kindIx : NoticeKind → Fin 30
  | .started => 0 | .inletLost => 1 | .inletBack => 2 | .transitEntered => 3 | .transitLeft => 4
  | .brownout => 5 | .inletOverdraw => 6 | .inletFaultLatched => 7 | .derating => 8
  | .thermalCutoff => 9 | .holdupLow => 10 | .bayOverdraw => 11 | .bayHot => 12 | .bayLost => 13
  | .loopRebuilt => 14 | .nodeReplaced => 15 | .tamper => 16 | .custodyMismatch => 17
  | .tabletHeld => 18 | .returned => 19 | .wrongHome => 20 | .taken => 21 | .notTaken => 22
  | .releaseCancelled => 23 | .localRelease => 24 | .readySetChanged => 25 | .jammed => 26
  | .sessionStarted => 27 | .sessionEnded => 28 | .standalone => 29

/-- Kind code and default level (R181). -/
def kindRow : NoticeKind → Nat × Nat
  | .started => (0x01, 6) | .inletLost => (0x02, 5) | .inletBack => (0x03, 4)
  | .transitEntered => (0x04, 5) | .transitLeft => (0x05, 4) | .brownout => (0x06, 5)
  | .inletOverdraw => (0x07, 7) | .inletFaultLatched => (0x08, 7) | .derating => (0x09, 3)
  | .thermalCutoff => (0x0A, 7) | .holdupLow => (0x0B, 6) | .bayOverdraw => (0x10, 5)
  | .bayHot => (0x11, 4) | .bayLost => (0x18, 5) | .loopRebuilt => (0x19, 4)
  | .nodeReplaced => (0x1A, 4) | .tamper => (0x20, 7) | .custodyMismatch => (0x21, 7)
  | .tabletHeld => (0x22, 4) | .returned => (0x23, 2) | .wrongHome => (0x24, 3)
  | .taken => (0x25, 2) | .notTaken => (0x26, 3) | .releaseCancelled => (0x27, 3)
  | .localRelease => (0x28, 4) | .readySetChanged => (0x29, 2) | .jammed => (0x2A, 6)
  | .sessionStarted => (0x30, 2) | .sessionEnded => (0x31, 3) | .standalone => (0x38, 6)

/-- The kinds fixed at level 7 (R183). -/
def fixedLevel : NoticeKind → Bool
  | .inletOverdraw | .inletFaultLatched | .thermalCutoff | .tamper | .custodyMismatch => true
  | _ => false

/-- The product code Identify reports (chapter 12, Central Reply Payloads). -/
def productCode : Nat := 0x0436

/-- The major number of the firmware version (R175). The spec gives no value: free (L7). -/
opaque firmwareMajor : Byte

/-- The minor number of the firmware version (R175). The spec gives no value: free (L7). -/
opaque firmwareMinor : Byte

/-- The byte at an offset of an OK response's payload that the node left out (R137 states what an OK response
carries, not what the part takes where it carries less): free (L9). -/
opaque absentByte : Nat → Byte

end Config

/-- The numbered settings of R189 with their values, in the order of the table. -/
structure Settings where
  vals : Vector Nat 28
deriving DecidableEq, Repr

namespace Settings

/-- The live value of a setting. -/
def get (c : Settings) (i : SettingId) : Nat := c.vals[Config.settingIx i]

/-- A setting's value replaced. -/
def set (c : Settings) (i : SettingId) (v : Nat) : Settings :=
  ⟨c.vals.set (Config.settingIx i).1 v (Config.settingIx i).2⟩

/-- Every setting at its default (R189). -/
def defaults : Settings :=
  Config.allSettings.foldl (fun c i => c.set i (Config.settingRow i).dflt) ⟨Vector.replicate 28 0⟩

end Settings

/-- The four configuration fields of a channel (R111). The base is a 0-based bay index. -/
structure ChanCfg where
  enabled : Bool
  base : Nat
  size : Nat
  restricted : Bool
deriving DecidableEq, Repr

/-- The defaults of the channel table (R112). -/
def ChanCfg.dflt : ChanIx → ChanCfg
  | 0 => ⟨true, 0, 16, false⟩
  | 1 => ⟨true, 16, 16, false⟩
  | 2 => ⟨true, 32, 4, false⟩
  | 3 => ⟨true, 0, 64, true⟩

/-- The level of every kind of notice (R183). -/
structure Levels where
  vals : Vector Nat 30
deriving DecidableEq, Repr

namespace Levels

/-- The level of a kind. -/
def get (l : Levels) (k : NoticeKind) : Nat := l.vals[Config.kindIx k]

/-- A kind's level replaced. -/
def set (l : Levels) (k : NoticeKind) (v : Nat) : Levels :=
  ⟨l.vals.set (Config.kindIx k).1 v (Config.kindIx k).2⟩

/-- Every kind at its default level (R181). -/
def defaults : Levels :=
  Config.allKinds.foldl (fun l k => l.set k (Config.kindRow k).2) ⟨Vector.replicate 30 0⟩

end Levels

/-- What the settings image holds when its check word holds (R191). -/
structure SettingsImage where
  settings : Settings
  channels : Vector ChanCfg 4
  levels : Levels
deriving DecidableEq, Repr

/-- What the store did with the write of a Save Settings (R191): the read-back agrees and the check word holds; or
the write failed, leaving an image whose check word holds or one whose check word fails (none). -/
inductive StoreWrite
  | taken
  | failed (left : Option SettingsImage)
deriving DecidableEq, Repr

end Sys2Proof
end

