-- ==== Sys2Proof/Syntax.lean ====
section
/-! DEFINITION. The commands: one constructor for each row of spec/opcode_table.json, in the table's order. The
table gives its rows no operands; each operand here is what the rule of the row takes from outside the part (L1). -/

namespace Sys2Proof

/-- The commands of the part. A `resp` is the bytes of a node's response frame; `t` is a temperature reading in
degrees Celsius; `key` is the level of the service keyswitch input as the event finds it (L31). -/
inductive Instr
  | voltageSample (volts amps : Nat)
  | inletRestored (volts amps : Nat)
  | strike (volts amps : Nat)
  | strikeAgeOut
  | strikeHoldoffExpiry
  | temperatureReading (t : Int)
  | poolRecompute
  | trimAudit
  | rideThroughExpiry
  | drainLimitExpiry
  | settleExpiry
  | roundBegin
  | loopTransactionBegin
  | placementAppended
  | responseWaitExpiry
  | linkLost
  | status (resp : List Byte) (key : Bool)
  | grant (resp : List Byte)
  | tag (resp : List Byte)
  | lock (resp : List Byte)
  | lamp (resp : List Byte)
  | shed
  | identify (resp : List Byte)
  | assign (resp : List Byte)
  | pass (resp : List Byte)
  | nodereset (resp : List Byte)
  | scanPassStart
  | scanStatusPlace
  | rebuildPowerOffEnd
  | rebuildBootEnd
  | autoRebuildCheck
  | travelWaitExpiry (slot : PulseSlot)
  | busyRetryExpiry (slot : PulseSlot)
  | cooldownExpiry (slot : PulseSlot)
  | seatSettleExpiry (bay : BayIx)
  | tagRetryDelayExpiry (bay : BayIx)
  | refusedDisplayEnd (bay : BayIx)
  | releaseWindowExpiry (bay : BayIx)
  | overdrawFault (resp : List Byte) (key : Bool)
  | linkTimerExpiry (session : Nat)
  | idleTimerExpiry (session : Nat)
  | drainSettleExpiry (session : Nat)
  | frameArrival (byte : Byte) (gap : Nat)
  | replySent (t : Int)
  | hostSilenceExpiry
  | holdupSense (charge : Nat)
  | secondsTick
  | powerOn (kept : Bool) (t : Int)
  | resetPinAssert
  | resetPinRelease (t : Int)
  | unknownKind
  | identifyRequest
  | cartStatus (key : Bool)
  | bayStatus
  | baySummary
  | poolStatus
  | setSetting
  | getSetting
  | saveSettings (write : StoreWrite)
  | setQuiet
  | rosterPut
  | rosterDrop
  | rosterGet
  | rosterList
  | releaseBay
  | releaseAsset
  | releaseBest
  | cancelRelease
  | admitBay
  | prepareReadySet
  | clearReadySet
  | readySetStatus
  | openSession
  | linkUp
  | progress
  | finishSession
  | abortSession
  | sessionStatus
  | setBayCharge
  | clearFault
  | rebuildLoop
  | restart
  | fetchNotices
  | setNoticeLevel
  | byteReceived (byte : Byte) (gap : Nat)
  | lineError
  | clearLineChange (level : Bool) (begun : Nat)
  | responseNotValid (resp : List Byte)
deriving DecidableEq, Repr

end Sys2Proof
end

