-- ==== Sys2Proof/Machine/State.lean ====
section
/-! DEFINITION. The state of the part, block by block as the spec's Block Overview gives it, as plain data, and its
value right after a cold start. A time called `due` is an absolute millisecond of the model's clock `now` (L2). -/

namespace Sys2Proof.Machine

/-! ### Inlet, pool and power (chapter 1) -/

/-- One strike of the strike record: the seconds counter at the strike, and the time it leaves the record (R15). -/
structure Strike where
  time : Secs
  due : Nat
deriving DecidableEq, Repr

/-- The Inlet Monitor (R1 to R5, R12 to R16). The rings are oldest first. -/
structure Inlet where
  voltRing : List Nat
  currRing : List Nat
  cond : InletCond
  restoreCount : Nat
  tc : Int
  derate : Nat
  sensorFault : Bool
  highCount : Nat
  strikes : List Strike
  holdoffDue : Option Nat
  latch : Bool
  trim : Int
  sampleDue : Nat
  tempDue : Nat
  auditDue : Nat
deriving DecidableEq, Repr

/-- The Pool Calculator (R6 to R9). -/
structure Pool where
  inForce : Nat
  atLast : Nat
  quiet : Bool
  recomputeDue : Nat
deriving DecidableEq, Repr

/-- The drain record (chapter 8, The Drain). -/
structure Drain where
  kind : DrainKind
  stage : Nat
  due : Nat
deriving DecidableEq, Repr

/-- The Power Supervisor (R17 to R22, R154). `settleCause` is the cause of the rebuild that the present Settling
leads to and `nextCause` that of the next one: Start for the first Settling after a start, Settle later (R145). -/
structure Power where
  state : PowerState
  rideDue : Option Nat
  settleDue : Option Nat
  drain : Option Drain
  settleCause : RebuildCause
  nextCause : RebuildCause
deriving DecidableEq, Repr

/-! ### Charge allocation (chapter 2) -/

/-- Cap, floor and tier of a bay (R26, R27). -/
structure Share where
  cap : Nat
  floor : Nat
  tier : Nat
deriving DecidableEq, Repr

/-- An outstanding GRANT: the value it carries and the commanded grant it replaced (R29). -/
structure Outstanding where
  watts : Nat
  replaced : Nat
deriving DecidableEq, Repr

/-- The round record of R34 and the allocator's cart-wide marks. `toRaise` are the bays to be raised when the
lowering has ended; `lowering` and `raising` the bays whose GRANT of that phase has not ended; `cut` says the round
was cut short (R41). -/
structure Round where
  state : RoundState
  pending : Bool
  atOnce : Bool
  lastEnd : Option Nat
  suspended : Bool
  lastGrantChange : Nat
  snapPool : Nat
  snapAlloc : Nat
  targets : Vector Nat 36
  toRaise : List BayIx
  lowering : List BayIx
  raising : List BayIx
  cut : Bool
  backlog : Nat
  raiseUnsent : Bool
deriving DecidableEq, Repr

/-! ### Bay records (R54) -/

/-- The window of a release record (R78): not started, running to a time, or stopped with milliseconds left. -/
inductive WindowClock
  | notStarted | running (due : Nat) | stopped (left : Nat)
deriving DecidableEq, Repr

/-- Who asked for a release (R78). -/
inductive ReleaseOrigin | host | button
deriving DecidableEq, Repr

/-- The release record of R78; the window length is in seconds. -/
structure Release where
  length : Nat
  window : WindowClock
  holder : Option Badge
  origin : ReleaseOrigin
  cancel : Bool
  late : Bool
deriving DecidableEq, Repr

/-- The reconciliation mark of a bay (R160): none, pending or deferred, with the number of reconciliation STATUS in
a row that ended in a protocol fault. -/
inductive ReconMark
  | none | pending (faults : Nat) | deferred
deriving DecidableEq, Repr

/-- One bay record: the Loop Master's, the Charge Allocator's, the Custody Unit's and the Session Scheduler's fields
(R54, R24, R78, R115). `gone` is the model's own: a report has shown the tablet of a Securing or Jammed bay taken, and
none has shown one since (L18). -/
structure Bay where
  link : LinkState
  serial : Option Serial
  miss : Nat
  lostAt : Option Secs
  resync : Bool
  soc : Option Nat
  pneg : Nat
  applied : Nat
  commanded : Nat
  measured : Nat
  overTemp : Bool
  short : Bool
  share : Share
  kept : Option Share
  overdraw : Bool
  overdrawCount : Nat
  hot : Bool
  hotTime : Option Secs
  chargeOn : Bool
  outstanding : Option Outstanding
  eligible : Bool
  custody : Custody
  admission : Bool
  assetId : Option AssetId
  standing : Option Standing
  presence : Option Bool
  bolt : Option Bolt
  gone : Bool
  seatDue : Option Nat
  tagTries : Nat
  tagRetryDue : Option Nat
  release : Option Release
  lampShown : Option Colour
  lampDerived : Colour
  displayDue : Option Nat
  recon : ReconMark
  lastOutcome : Option (SessOutcome × Nat)
deriving DecidableEq, Repr

/-- A bay record right after a cold start (R53, R77, R132, R153). Cap, floor and tier are those R26 and R27 give on
these values (L6). -/
def Bay.start : Bay where
  link := .dark
  serial := none
  miss := 0
  lostAt := none
  resync := false
  soc := none
  pneg := 0
  applied := 0
  commanded := 0
  measured := 0
  overTemp := false
  short := false
  share := ⟨5, 5, 2⟩
  kept := none
  overdraw := false
  overdrawCount := 0
  hot := false
  hotTime := none
  chargeOn := true
  outstanding := none
  eligible := false
  custody := .vacant
  admission := false
  assetId := none
  standing := none
  presence := none
  bolt := none
  gone := false
  seatDue := none
  tagTries := 0
  tagRetryDue := none
  release := none
  lampShown := some .off
  lampDerived := .off
  displayDue := none
  recon := .none
  lastOutcome := none

/-! ### Custody, cart wide (chapters 3, 4 and 8) -/

/-- The state of a roster entry (R70). -/
inductive EntryState
  | docked (b : BayIx) | out | missing | unknown
deriving DecidableEq, Repr

/-- A roster entry (R70). -/
structure Entry where
  asset : AssetId
  home : Option BayIx
  state : EntryState
  holder : Option Badge
  outSince : Option Secs
deriving DecidableEq, Repr

/-- The Custody Unit's cart-wide state. -/
structure CustodyUnit where
  roster : List Entry
  readySet : List BayIx
  grace : Bool
  reconActive : Bool
  reconCase : ReconCase
  reconCause : RebuildCause
  coldNext : Bool
deriving DecidableEq, Repr

/-! ### Lock actuation (chapter 5) -/

/-- The phases of a pulse in a slot, each with its timer (chapter 5, The Pulse); `sending (some t)` waits to place
the LOCK again after Busy (R102). -/
inductive Phase
  | sending (retryDue : Option Nat) | travel (due : Nat) | checking | cooldown (due : Nat)
deriving DecidableEq, Repr

/-- A pulse in a slot (R101). -/
structure Pulse where
  bay : BayIx
  dir : Dir
  attempt : Nat
  ms : Nat
  busy : Nat
  phase : Phase
deriving DecidableEq, Repr

/-- The Bolt Pulse Arbiter (R97, R100). -/
structure Arbiter where
  queue : List (BayIx × Dir)
  slotA : Option Pulse
  slotB : Option Pulse
  held : Bool
deriving DecidableEq, Repr

/-! ### Sessions (chapter 6) -/

/-- A session record (R115). `due` is the running timer of its state. -/
structure Session where
  id : Nat
  bay : BayIx
  cls : SessClass
  minCharge : Nat
  idleLimit : Nat
  state : SessState
  channel : Option ChanIx
  admittedAt : Secs
  linkedAt : Option Secs
  progress : Option Nat
  result : Option Bool
  due : Option Nat
deriving DecidableEq, Repr

/-- A channel with its join output (R111, R114). -/
structure Channel where
  cfg : ChanCfg
  pendingCfg : Option ChanCfg
  state : ChanState
  session : Option Nat
  join : Option BayIx
deriving DecidableEq, Repr

/-- The Session Scheduler. -/
structure Sessions where
  queue : List Session
  channels : Vector Channel 4
  nextId : Nat
deriving DecidableEq, Repr

/-! ### The bay loop (chapter 7) -/

/-- What a GRANT was issued for; a fault GRANT that replaced a lowering GRANT of the round says so (R47). -/
inductive GrantKind
  | lower | raise | fault (inRound : Bool)
deriving DecidableEq, Repr

/-- A transaction with what its client needs to know of it (R142). The last six are the Loop Master's own, of a
rebuild (R147, R148). -/
inductive Txn
  | shed
  | lock (slot : PulseSlot) (bay : BayIx) (dir : Dir) (ms : Nat)
  | verify (slot : PulseSlot) (bay : BayIx)
  | grant (kind : GrantKind) (bay : BayIx) (watts : Nat)
  | tag (bay : BayIx) (recon : Bool)
  | scan (bay : BayIx)
  | recon (bay : BayIx)
  | lamp (bay : BayIx) (colour : Colour)
  | discIdentify (pos : BayIx)
  | discAssign (pos : BayIx)
  | discPass (pos : BayIx)
  | discReset (pos : BayIx)
  | probeIdentify (last : BayIx)
  | probePass (last : BayIx)
deriving DecidableEq, Repr

/-- The transaction on the loop: its attempt (1 to 3), the end of its response wait, and whether its client has
meanwhile discarded what it will answer (R60). -/
structure OnLoop where
  txn : Txn
  attempt : Nat
  waitDue : Nat
  stale : Bool
deriving DecidableEq, Repr

/-- The status scanner (R144). -/
structure Scan where
  running : Bool
  passActive : Bool
  passStart : Nat
  period : Nat
  interval : Nat
  left : List BayIx
  position : Option BayIx
  lastPlaced : Nat
  outstanding : Bool
  lastDuration : Nat
  nextStart : Nat
deriving DecidableEq, Repr

/-- The rebuild record (chapter 7, Loop Rebuild). `position` is the position reached, 0 before discovery. -/
structure Rebuild where
  phase : RebuildPhase
  cause : RebuildCause
  position : Nat
  bayCount : Nat
  found : Nat
  absent : Nat
  surplus : Bool
  due : Nat
deriving DecidableEq, Repr

/-- The Loop Master's cart-wide state. `queued` holds the seven class queues in one list: a class queue is the
transactions of that class in their order. -/
structure Loop where
  power : Bool
  offSince : Nat
  queued : List Txn
  waiting : List Txn
  heldBack : List Txn
  onLoop : Option OnLoop
  lastFrame : List Byte
  scan : Scan
  rebuild : Option Rebuild
  bayCount : Nat
  checkDue : Nat
deriving DecidableEq, Repr

/-! ### The host link (chapter 9) and the notices (chapter 10) -/

/-- The frame receiver (R169). -/
inductive RxState
  | hunting | length | body (count : Nat) (got : List Byte) | checksum (body : List Byte)
deriving DecidableEq, Repr

/-- A frame in the receive buffer, with the standalone flag and the time as they stood at its arrival (R170, R175,
R176). -/
structure RxFrame where
  tag : Byte
  kind : Byte
  payload : List Byte
  standalone : Bool
  arrived : Nat
deriving DecidableEq, Repr

/-- What follows the last byte of a reply (R187, R194). -/
inductive AfterReply | nothing | fetch | restart
deriving DecidableEq, Repr

/-- A reply formed and not yet sent in full: its bytes and how many of them have been begun (R168, R171). -/
structure Tx where
  bytes : List Byte
  begun : Nat
  after : AfterReply
deriving DecidableEq, Repr

/-- The Host Link Controller (R166 to R171, R178 to R180). The frame at the head of the buffer is the one taken while
a reply is in hand. -/
structure HostLink where
  rx : RxState
  buffer : List RxFrame
  tx : Option Tx
  ready : Bool
  clear : Bool
  silenceDue : Option Nat
  standalone : Bool
  cause : StartCause
  fromImage : Bool
deriving DecidableEq, Repr

/-- A notice record (R182). -/
structure Notice where
  kind : NoticeKind
  level : Nat
  time : Secs
  bay : Option BayIx
  asset : Option AssetId
  session : Option Nat
  value : Option Nat
  reason : Option Reason
deriving DecidableEq, Repr

/-- The Notice Queue (R182 to R188). -/
structure Notices where
  queue : List Notice
  overflow : Bool
  levels : Levels
  fetchHold : Bool
  attention : Bool
deriving DecidableEq, Repr

/-- What Retained Memory adds to the items other blocks hold (R192). -/
structure Retained where
  seconds : Secs
  valid : Bool
  lowEpisode : Bool
  secondDue : Nat
  holdupDue : Nat
deriving DecidableEq, Repr

/-- The state of the part. -/
structure State where
  now : Nat
  resetHeld : Bool
  keyswitch : Bool
  inlet : Inlet
  pool : Pool
  power : Power
  round : Round
  bays : Vector Bay 36
  cust : CustodyUnit
  arb : Arbiter
  sess : Sessions
  loop : Loop
  link : HostLink
  notices : Notices
  settings : Settings
  image : Option SettingsImage
  retained : Retained
  pending : List Instr
deriving DecidableEq, Repr

/-- Why the part stops: the spec gives no event after which it does, so there is no such reason. -/
inductive Fault
deriving DecidableEq, Repr

/-- Why a command has no meaning. -/
inductive Refusal
  /-- Raised by the dispatch of a command whose meaning is not written. Safe: the model stops where the part goes on. -/
  | notModelled (mnemonic : String)
deriving DecidableEq, Repr

/-- What a command answers. -/
abbrev Out := Host.Outcome State Fault Refusal

/-! ### The state right after a cold start -/

/-- R23. The three periods count from the start (R1, R5, R12); Tc is 0 until a reading is taken (L5). -/
def Inlet.start : Inlet where
  voltRing := []
  currRing := []
  cond := .lost
  restoreCount := 0
  tc := 0
  derate := 0
  sensorFault := false
  highCount := 0
  strikes := []
  holdoffDue := none
  latch := false
  trim := 0
  sampleDue := 100
  tempDue := 1000
  auditDue := 4000

/-- R23. -/
def Pool.start : Pool where
  inForce := 0
  atLast := 0
  quiet := false
  recomputeDue := 1000

/-- R17, R23, R145, R154. -/
def Power.start : Power where
  state := .transit
  rideDue := none
  settleDue := none
  drain := none
  settleCause := .start
  nextCause := .start

/-- R53. -/
def Round.start : Round where
  state := .idle
  pending := false
  atOnce := false
  lastEnd := none
  suspended := true
  lastGrantChange := 0
  snapPool := 0
  snapAlloc := 0
  targets := Vector.replicate 36 0
  toRaise := []
  lowering := []
  raising := []
  cut := false
  backlog := 0
  raiseUnsent := false

/-- R62, R70, R77, R165. -/
def CustodyUnit.start : CustodyUnit where
  roster := []
  readySet := []
  grace := true
  reconActive := false
  reconCase := .cold
  reconCause := .start
  coldNext := true

/-- R110. -/
def Arbiter.start : Arbiter where
  queue := []
  slotA := none
  slotB := none
  held := true

/-- A channel that holds no session, with a configuration in force (R132). -/
def Channel.idle (c : ChanCfg) : Channel where
  cfg := c
  pendingCfg := none
  state := if c.enabled then .free else .off
  session := none
  join := none

/-- R112, R132. -/
def Sessions.start : Sessions where
  queue := []
  channels := ⟨#[.idle (ChanCfg.dflt 0), .idle (ChanCfg.dflt 1), .idle (ChanCfg.dflt 2),
    .idle (ChanCfg.dflt 3)], rfl⟩
  nextId := 1

/-- R153: the scanner is stopped. -/
def Scan.stopped : Scan where
  running := false
  passActive := false
  passStart := 0
  period := 0
  interval := 0
  left := []
  position := none
  lastPlaced := 0
  outstanding := false
  lastDuration := 0
  nextStart := 0

/-- R153, R189. -/
def Loop.start : Loop where
  power := false
  offSince := 0
  queued := []
  waiting := []
  heldBack := []
  onLoop := none
  lastFrame := []
  scan := .stopped
  rebuild := none
  bayCount := 36
  checkDue := 1000

/-- R167, R178, R180: the ready line is asserted and the host-silence timer runs at the default limit. -/
def HostLink.start : HostLink where
  rx := .hunting
  buffer := []
  tx := none
  ready := true
  clear := true
  silenceDue := some 300000
  standalone := false
  cause := .cold
  fromImage := false

/-- R188, R193: the Started notice of a cold start with default settings, which asserts the attention line. -/
def Notices.start : Notices where
  queue := [{ kind := .started, level := 6, time := 0, bay := none, asset := none, session := none,
              value := some 0, reason := some .storeDefaults }]
  overflow := false
  levels := .defaults
  fetchHold := false
  attention := true

/-- R192, cold values. -/
def Retained.start : Retained where
  seconds := 0
  valid := true
  lowEpisode := false
  secondDue := 1000
  holdupDue := 1000

/-- The part right after a cold start at power-on with no settings image (L5). -/
def State.reset : State where
  now := 0
  resetHeld := false
  keyswitch := false
  inlet := .start
  pool := .start
  power := .start
  round := .start
  bays := Vector.replicate 36 .start
  cust := .start
  arb := .start
  sess := .start
  loop := .start
  link := .start
  notices := .start
  settings := .defaults
  image := none
  retained := .start
  pending := []

end Sys2Proof.Machine
end

