-- ==== Sys2Proof/Machine/Access.lean ====
section
/-! DEFINITION. Reading and writing the records of the state by bay, slot and channel. -/

namespace Sys2Proof.Machine

/-- Bays in ascending number. -/
def allBays : List BayIx :=
  [0, 1, 2, 3, 4, 5, 6, 7, 8, 9, 10, 11, 12, 13, 14, 15, 16, 17, 18, 19, 20, 21, 22, 23, 24, 25, 26,
   27, 28, 29, 30, 31, 32, 33, 34, 35]

/-- Channels in ascending number. -/
def allChans : List ChanIx := [0, 1, 2, 3]

/-- The record of a bay. -/
def State.bay (s : State) (i : BayIx) : Bay := s.bays[i.1]

/-- A bay record replaced. -/
def State.setBay (s : State) (i : BayIx) (b : Bay) : State := { s with bays := s.bays.set i.1 b i.2 }

/-- A bay record changed. -/
def State.modBay (s : State) (i : BayIx) (f : Bay → Bay) : State := s.setBay i (f (s.bay i))

/-- Every bay record changed. -/
def State.modBays (s : State) (f : BayIx → Bay → Bay) : State :=
  allBays.foldl (fun s i => s.modBay i (f i)) s

/-- The clock moved to a due time that lies ahead, left where it is when the time has passed (L2). -/
def State.reach (s : State) (due : Nat) : State := { s with now := max s.now due }

/-- What a slot holds. -/
def State.slot (s : State) : PulseSlot → Option Pulse
  | .a => s.arb.slotA
  | .b => s.arb.slotB

/-- What a slot holds, replaced. -/
def State.setSlot (s : State) (k : PulseSlot) (p : Option Pulse) : State :=
  match k with
  | .a => { s with arb := { s.arb with slotA := p } }
  | .b => { s with arb := { s.arb with slotB := p } }

/-- A channel of the channel table. -/
def State.chan (s : State) (c : ChanIx) : Channel := s.sess.channels[c.1]

/-- A channel of the channel table, replaced. -/
def State.setChan (s : State) (c : ChanIx) (ch : Channel) : State :=
  { s with sess := { s.sess with channels := s.sess.channels.set c.1 ch c.2 } }

/-- The session of an identifier in the queue. -/
def State.session? (s : State) (id : Nat) : Option Session := s.sess.queue.find? (·.id = id)

/-- A bay's session in the queue: the bay's session reference (R115). -/
def State.sessionOf? (s : State) (i : BayIx) : Option Session := s.sess.queue.find? (·.bay = i)

/-- The session of an identifier changed in its place. -/
def State.modSession (s : State) (id : Nat) (f : Session → Session) : State :=
  { s with sess := { s.sess with queue := s.sess.queue.map fun x => if x.id = id then f x else x } }

/-- A live setting. -/
def State.cfg (s : State) (i : SettingId) : Nat := s.settings.get i

/-- Elements in ascending order of a key, those of equal key in their order. -/
def sortByKey {α : Type} (key : α → Nat) : List α → List α
  | [] => []
  | x :: xs => insert x (sortByKey key xs)
where
  /-- An element put before the first one of equal or greater key. -/
  insert (x : α) : List α → List α
    | [] => [x]
    | y :: ys => if key x ≤ key y then x :: y :: ys else y :: insert x ys

end Sys2Proof.Machine
end

