-- ==== Sys2Proof/Machine/Operands.lean ====
section
/-! DEFINITION. The byte sequences of chapter 12: widths and byte order, the host frame and its checksum, the loop
frame and its CRC-8, the status block, and the codes of every enumeration. -/

namespace Sys2Proof.Machine

/-! ### Bytes, most significant first (R195) -/

/-- A value in one byte. -/
def byte (n : Nat) : Byte := BitVec.ofNat 8 n

/-- A flag: 0 or 1. -/
def flag (b : Bool) : Byte := if b then 1 else 0

/-- A value in two bytes. -/
def be2 (n : Nat) : List Byte := [byte (n / 256), byte n]

/-- A seconds-counter value or a badge in four bytes. -/
def be4 (v : BitVec 32) : List Byte :=
  [v.extractLsb' 24 8, v.extractLsb' 16 8, v.extractLsb' 8 8, v.extractLsb' 0 8]

/-- An asset ID in eight bytes. -/
def be8 (v : BitVec 64) : List Byte := be4 (v.extractLsb' 32 32) ++ be4 (v.extractLsb' 0 32)

/-- The number that bytes spell, the first the most significant. -/
def ofBytes (l : List Byte) : Nat := l.foldl (fun a b => a * 256 + b.toNat) 0

/-- A signed quantity (Tc, the trim) in one byte of two's complement. -/
def sbyte (i : Int) : Byte := BitVec.ofInt 8 i

/-- A bay's number, 1 to 36. -/
def bayNumber (b : BayIx) : Nat := b.1 + 1

/-- A bay or none: its number or 0. -/
def bayByte : Option BayIx → Byte
  | some b => byte (bayNumber b)
  | none => 0

/-- A holder: the badge, or four zero bytes. -/
def holderBytes (h : Option Badge) : List Byte := be4 (h.getD 0)

/-- An asset ID, or eight zero bytes. -/
def assetBytes (a : Option AssetId) : List Byte := be8 (a.getD 0)

/-- A field that may be absent and whose every code is a value: a presence byte, then the value or zeros (R195). -/
def optField (width : Nat) (v : Option (List Byte)) : List Byte :=
  match v with
  | some l => 1 :: l
  | none => 0 :: List.replicate width 0

/-- The bay of a bay number, where it is from 1 to 36. -/
def bayOf? (n : Nat) : Option BayIx :=
  if h : 1 ≤ n ∧ n ≤ 36 then some ⟨n - 1, by omega⟩ else none

/-! ### Codes of enumerations (R195: from 0 in the order of their table, unless it says from 1) -/

/-- Power states in the order of the table of chapter 1. -/
def powerCode : PowerState → Nat
  | .serving => 0 | .riding => 1 | .draining => 2 | .transit => 3 | .settling => 4

/-- Link states (R195). -/
def linkCode : LinkState → Nat
  | .linked => 0 | .lost => 1 | .absent => 2 | .dark => 3

/-- Inlet conditions (Pool Status). -/
def condCode : InletCond → Nat
  | .lost => 0 | .normal => 1 | .brownout => 2

/-- Custody states, 0 Vacant to 8 Jammed (R195). -/
def custodyCode : Custody → Nat
  | .vacant => 0 | .seating => 1 | .securing => 2 | .locked => 3 | .releasing => 4 | .released => 5
  | .clearing => 6 | .held _ => 7 | .jammed _ _ => 8

/-- Held reasons, from 1 (R195). -/
def heldCode : HeldReason → Nat
  | .noTag => 1 | .unknown => 2 | .wrongHome => 3 | .duplicate => 4 | .swapped => 5

/-- The Jammed origin by the code of the custody state it names (L25), with its Held reason, 0 where it has none (L76). -/
def originCode : JamOrigin → Nat × Nat
  | .vacant => (0, 0) | .securing => (2, 0) | .releasing => (4, 0) | .released => (5, 0)
  | .clearing => (6, 0) | .held r => (7, heldCode r)

/-- Directions (LOCK). -/
def dirCode : Dir → Nat
  | .engage => 0 | .retract => 1

/-- Bolt positions (status block). -/
def boltCode : Bolt → Nat
  | .retracted => 0 | .engaged => 1 | .between => 2

/-- Standings (R55). -/
def standingCode : Standing → Nat
  | .docked => 0 | .foreign => 1 | .unbound => 2

/-- Lamp colours (LAMP). -/
def colourCode : Colour → Nat
  | .off => 0 | .amber => 1 | .green => 2 | .greenBlinking => 3 | .red => 4 | .redBlinking => 5

/-- Rebuild causes, from 1 (R195). -/
def causeCode : RebuildCause → Nat
  | .start => 1 | .settle => 2 | .host => 3 | .auto => 4

/-- Rebuild phases. -/
def rebuildPhaseCode : RebuildPhase → Nat
  | .draining => 0 | .powerOff => 1 | .booting => 2 | .discovering => 3 | .probing => 4

/-- Start causes (Identify). -/
def startCode : StartCause → Nat
  | .cold => 0 | .warmPin => 1 | .warmRestart => 2

/-- Drain kinds. -/
def drainCode : DrainKind → Nat
  | .cart => 0 | .rebuild => 1

/-- Round states (R34). -/
def roundCode : RoundState → Nat
  | .idle => 0 | .lowering => 1 | .raising => 2 | .holdoff => 3

/-- Session classes (R195). -/
def classCode : SessClass → Nat
  | .image => 0 | .update => 1 | .inventory => 2

/-- The class of a code (R117). -/
def classOf? : Nat → Option SessClass
  | 0 => some .image
  | 1 => some .update
  | 2 => some .inventory
  | _ => none

/-- Session states (R115). -/
def sessCode : SessState → Nat
  | .queued => 0 | .linking => 1 | .active => 2 | .draining => 3

/-- Channel states (R111). -/
def chanCode : ChanState → Nat
  | .off => 0 | .free => 1 | .linking => 2 | .busy => 3 | .draining => 4

/-- Session outcomes, from 1 (R195). -/
def outcomeCode : SessOutcome → Nat
  | .completed => 1 | .failed => 2 | .linkTimeout => 3 | .expired => 4 | .aborted => 5
  | .forced => 6 | .withdrawn => 7 | .removed => 8 | .interrupted => 9 | .reset => 10

/-- Phases of a pulse (chapter 5). -/
def phaseCode : Phase → Nat
  | .sending _ => 0 | .travel _ => 1 | .checking => 2 | .cooldown _ => 3

/-- Roster entry states (R70). -/
def entryCode : EntryState → Nat
  | .docked _ => 0 | .out => 1 | .missing => 2 | .unknown => 3

/-- Result codes (R173). -/
def resultCode : Result → Nat
  | .done => 0x00 | .accepted => 0x01 | .clamped => 0x02 | .unknownKind => 0x11 | .badLength => 0x12
  | .badValue => 0x13 | .noBay => 0x20 | .wrongState => 0x21 | .inSession => 0x22
  | .reserved => 0x23 | .jammed => 0x24 | .noneReady => 0x25 | .transit => 0x26 | .unknown => 0x27
  | .full => 0x28 | .duplicate => 0x29 | .noRoute => 0x2A | .faulted => 0x2B | .lost => 0x2C
  | .busy => 0x2D

/-- Code 11h or above: a refusal (R172). -/
def refusal (r : Result) : Bool := 0x11 ≤ resultCode r

/-- The code of a notice reason: from 1 in the order in which the table of kinds lists the reasons of its kind, and
the Held reasons, outcomes and rebuild causes in the order of their own tables (R195). -/
def reasonCode : NoticeKind → Reason → Nat
  | _, .held r => heldCode r
  | _, .outcome o => outcomeCode o
  | _, .cause c => causeCode c
  | _, .storeLoaded => 1 | _, .storeDefaults => 2
  | _, .sensorFault => 1 | _, .temperature => 2
  | _, .overdraw => 1 | _, .short => 2
  | _, .misses => 1
  | .custodyMismatch, .absent => 1 | .taken, .absent => 5 | _, .absent => 2
  | _, .removed => 1 | _, .bolt => 2 | _, .jammed => 3
  | _, .swapped => 2
  | _, .recovered => 1 | _, .admitted => 2
  | _, .inWindow => 1 | _, .late => 2 | _, .early => 3 | _, .unlocked => 4
  | _, .expired => 1
  | _, .transit => 1 | _, .rebuild => 2
  | _, .custody => 1 | _, .lost => 2 | _, .fault => 3 | _, .host => 4 | _, .drain => 5
  | _, .engage => 1 | _, .retract => 2

/-- The kind of notice of a code (R181). -/
def kindOf? (code : Nat) : Option NoticeKind :=
  Config.allKinds.find? fun k => (Config.kindRow k).1 = code

/-- The setting of a number, channel fields apart (R189). -/
def settingOf? (number : Nat) : Option SettingId :=
  Config.allSettings.find? fun i => (Config.settingRow i).number = number

/-! ### Values out of range (R112, R174, R178, R189) -/

/-- A settle interval raised to the next of its set (R22). -/
def settleTaken (n : Nat) : Nat :=
  if n ≤ 2 then 2 else if n ≤ 4 then 4 else if n ≤ 8 then 8 else if n ≤ 16 then 16 else 32

/-- A host-silence limit brought into its range (R178). -/
def silenceTaken (n : Nat) : Nat := if n = 0 then 0 else min (max n 30) 3600

/-- The value of a numbered setting taken for one asked for (R174, R189). -/
def settingTaken (i : SettingId) (v : Nat) : Nat :=
  match i with
  | .settle => settleTaken v
  | .silence => silenceTaken v
  | i => min (max v (Config.settingRow i).lo) (Config.settingRow i).hi

/-! ### The notice record (chapter 12, The Notice Record) -/

/-- The 20 bytes of a notice record. -/
def noticeBytes (n : Notice) : List Byte :=
  [byte (Config.kindRow n.kind).1, byte n.level] ++ be4 n.time ++
  [byte ((if n.bay.isSome then 1 else 0) + (if n.asset.isSome then 2 else 0) +
    (if n.session.isSome then 4 else 0) + (if n.value.isSome then 8 else 0) +
    (if n.reason.isSome then 16 else 0)), bayByte n.bay] ++
  assetBytes n.asset ++ [byte (n.session.getD 0)] ++ be2 (n.value.getD 0) ++
  [match n.reason with | some r => byte (reasonCode n.kind r) | none => 0]

/-! ### The host frame (chapter 12; R172, R195) -/

/-- The start byte of a frame. -/
def startByte : Byte := 0x5E

/-- The sum of bytes, modulo 256. -/
def byteSum (l : List Byte) : Byte := l.foldl (· + ·) 0

/-- The bytes of a reply: start byte, length, tag, kind + 80h, result, payload, checksum. A refusal carries no
payload (R172). -/
def replyBytes (tag kind : Byte) (r : Result) (payload : List Byte) : List Byte :=
  let body := tag :: (kind + 0x80) :: byte (resultCode r) :: (if refusal r then [] else payload)
  let counted := byte body.length :: body
  startByte :: counted ++ [-(byteSum counted)]

/-- The payload length that a request kind allows, none where the kind is no request (R171, chapter 12). -/
def payloadLength? : Nat → Option Nat
  | 0x01 | 0x02 | 0x05 | 0x12 | 0x36 | 0x52 | 0x53 => some 0
  | 0x04 | 0x37 | 0x03 | 0x33 | 0x34 | 0x51 => some 1
  | 0x50 => some 2
  | 0x10 => some 3
  | 0x11 | 0x13 => some 1
  | 0x20 => some 9
  | 0x21 | 0x22 => some 8
  | 0x23 => some 1
  | 0x30 => some 7
  | 0x31 => some 14
  | 0x32 => some 6
  | 0x35 => some 1
  | 0x40 => some 5
  | 0x41 | 0x44 | 0x45 => some 1
  | 0x42 | 0x43 => some 2
  | 0x60 => some 1
  | 0x61 => some 2
  | _ => none

/-- The byte of a payload at an offset, as a number. -/
def payByte (p : List Byte) (k : Nat) : Nat := (p.getD k 0).toNat

/-- Some bytes of a payload, as a number. -/
def payNat (p : List Byte) (k n : Nat) : Nat := ofBytes ((p.drop k).take n)

/-- A holder badge in a payload: four zero bytes are an absent one (R79). -/
def payHolder (p : List Byte) (k : Nat) : Option Badge :=
  let b := BitVec.ofNat 32 (payNat p k 4)
  if b = 0 then none else some b

/-- An on/off value or a force flag: none where it is neither 0 nor 1 (R174, R195). -/
def payFlag (p : List Byte) (k : Nat) : Option Bool :=
  match payByte p k with
  | 0 => some false
  | 1 => some true
  | _ => none

/-! ### The loop frame (R136, R137, R195) -/

/-- One of the eight actions on the CRC register for each byte. -/
def crcShift (r : Byte) : Byte := if r.msb then (r <<< 1) ^^^ 0x31 else r <<< 1

/-- The CRC register after one byte. -/
def crcByte (r b : Byte) : Byte :=
  crcShift (crcShift (crcShift (crcShift (crcShift (crcShift (crcShift (crcShift (r ^^^ b))))))))

/-- The CRC-8 of a byte sequence. -/
def crc8 (l : List Byte) : Byte := l.foldl crcByte 0xFF

/-- The address a transaction's command is sent to. -/
def Txn.address : Txn → Nat
  | .shed => 63
  | .lock _ b _ _ | .verify _ b | .grant _ b _ | .tag b _ | .scan b | .recon b | .lamp b _ => bayNumber b
  | .discIdentify _ | .discAssign _ | .probeIdentify _ => 0
  | .discPass p | .discReset p | .probePass p => bayNumber p

/-- The op code of a transaction (chapter 12, Loop Frames). -/
def Txn.opCode : Txn → Nat
  | .discIdentify _ | .probeIdentify _ => 0x01
  | .discAssign _ => 0x02
  | .discPass _ | .probePass _ => 0x03
  | .verify _ _ | .scan _ | .recon _ => 0x04
  | .tag _ _ => 0x05
  | .grant _ _ _ => 0x06
  | .lock _ _ _ _ => 0x07
  | .lamp _ _ => 0x08
  | .shed => 0x09
  | .discReset _ => 0x0A

/-- The command payload of a transaction (chapter 12, Loop Frames). -/
def Txn.payload : Txn → List Byte
  | .discAssign p => [byte (bayNumber p)]
  | .discPass _ => [1]
  | .probePass _ => [0]
  | .grant _ _ w => [byte w]
  | .lock _ _ d ms => byte (dirCode d) :: be2 ms
  | .lamp _ c => [byte (colourCode c)]
  | .shed => [0]
  | .discIdentify _ | .probeIdentify _ | .verify _ _ | .scan _ | .recon _ | .tag _ _
  | .discReset _ => []

/-- The command frame of a transaction. -/
def Txn.frame (t : Txn) : List Byte :=
  let f := byte t.address :: byte t.opCode :: byte t.payload.length :: t.payload
  f ++ [crc8 f]

/-- The address a response must come from: the one sent to, or for an ASSIGN the one it carried (R136). -/
def Txn.answerAddress : Txn → Nat
  | .discAssign p => bayNumber p
  | t => t.address

/-- The node result of a code (R138, chapter 12). -/
def nodeResult? : Nat → Option NodeResult
  | 0 => some .ok
  | 1 => some .badOp
  | 2 => some .badArg
  | 3 => some .busy
  | 4 => some .noTag
  | 5 => some .readOnly
  | _ => none

/-- A valid response: its result and payload. -/
structure Answer where
  result : NodeResult
  payload : List Byte
deriving DecidableEq, Repr

/-- The answer a response frame gives to a transaction, none where the response is not valid: CRC, address, op, length
or result do not hold (R136). A broadcast expects none. -/
def answer? (t : Txn) (resp : List Byte) : Option Answer :=
  match resp with
  | a :: op :: res :: len :: rest =>
    if t.address = 63 then none
    else if len.toNat ≤ 10 ∧ rest.length = len.toNat + 1 ∧
        rest.getLast? = some (crc8 (a :: op :: res :: len :: rest.dropLast)) ∧
        a.toNat = t.answerAddress ∧ op.toNat = t.opCode + 0x80 then
      match nodeResult? res.toNat with
      | some r => some ⟨r, rest.dropLast⟩
      | none => none
    else none
  | _ => none

/-- A byte of an OK response's payload; one the node left out is free (L9). -/
def Answer.byteAt (a : Answer) (k : Nat) : Byte := a.payload.getD k (Config.absentByte k)

/-- Some bytes of an OK response's payload, as a number. -/
def Answer.natAt (a : Answer) (k n : Nat) : Nat :=
  ofBytes ((List.range n).map fun j => a.byteAt (k + j))

/-- A decoded status block (R137). -/
structure Block where
  presence : Bool
  bolt : Bolt
  latch : Bool
  overTemp : Bool
  short : Bool
  soc : Option Nat
  pneg : Nat
  limit : Nat
  measured : Nat
deriving DecidableEq, Repr

/-- A bolt code; 3 is taken as Between (R195). -/
def boltOf : Nat → Bolt
  | 0 => .retracted
  | 1 => .engaged
  | _ => .between

/-- A SoC byte: FFh is unknown, 101 to 254 are taken as 100 (R195, R24). -/
def socOf (n : Nat) : Option Nat := if n = 255 then none else some (min n 100)

/-- The status block of a STATUS answer (chapter 12, last table). -/
def Answer.block (a : Answer) : Block :=
  let f := (a.byteAt 0).toNat
  { presence := f.testBit 0
    bolt := boltOf (f / 2 % 4)
    latch := f.testBit 3
    overTemp := f.testBit 4
    short := f.testBit 5
    soc := socOf (a.byteAt 1).toNat
    pneg := (a.byteAt 2).toNat
    limit := (a.byteAt 3).toNat
    measured := (a.byteAt 4).toNat }

/-- The asset ID of a TAG answer. -/
def Answer.asset (a : Answer) : AssetId := BitVec.ofNat 64 (a.natAt 0 8)

/-- The serial of an IDENTIFY answer. -/
def Answer.serial (a : Answer) : Serial := BitVec.ofNat 48 (a.natAt 0 6)

end Sys2Proof.Machine
end

