-- ==== Sys2Proof/Machine/Flags.lean ====
section
/-! DEFINITION. Values and flags computed from the state: ring means and the pool, shares and eligibility, counted
grants, the slot limit and pulse standings, channel service and the dispatch gate, lamp colours and output lines. -/

namespace Sys2Proof.Machine

/-! ### Inlet and pool -/

/-- The mean of a ring, rounded down; 0 while it is empty (R1, R4). -/
def ringMean (l : List Nat) : Nat := l.foldl (· + ·) 0 / l.length

/-- Vin (R1). -/
def State.vin (s : State) : Nat := ringMean s.inlet.voltRing

/-- Iin (R4). -/
def State.iin (s : State) : Nat := ringMean s.inlet.currRing

/-- The derating of a temperature (R5). -/
def deratingOf (tc : Int) : Nat :=
  if tc ≤ 35 then 0 else if tc ≤ 54 then 5 * (tc - 35).toNat else 100

/-- The actuation reserve (R6 step 6, R10). -/
def State.pact (s : State) : Nat := 2 * s.cfg .ppulse

/-- Steps 1 to 5 of R6. -/
def State.pder (s : State) : Nat :=
  let pin := s.vin * s.cfg .irate / 10
  let pusable := pin * (100 - s.cfg .headroom) / 100
  let pdc := pusable * s.cfg .efficiency / 100
  pdc * (100 - s.inlet.derate) / 100

/-- The pool of R6, from the readings, the settings, the trim, the quiet flag, the power state and the latch. -/
def State.poolNow (s : State) : Nat :=
  let raw := ((s.pder : Int) - s.cfg .pfix - s.pact - s.inlet.trim).toNat
  let quieted := if s.pool.quiet then min raw (s.cfg .qcap) else raw
  if s.inlet.cond = .brownout ∨ s.power.state ≠ .serving ∨ s.inlet.latch then 0 else quieted

/-! ### Sessions and the ready set -/

/-- A bay's session is Linking, Active or Draining: a session bay (R26). -/
def State.sessionBay (s : State) (i : BayIx) : Bool :=
  match s.sessionOf? i with
  | some x => x.state != .queued
  | none => false

/-- A bay is a member of the ready set (R91). -/
def State.member (s : State) (i : BayIx) : Bool := s.cust.readySet.contains i

/-! ### Shares and counted grants -/

/-- SoC with unknown taken as 50 (R26, R27, R31). -/
def soc50 (b : Bay) : Nat := b.soc.getD 50

/-- Cap_raw (R26 step 1). -/
def capRaw (pneg pport : Nat) : Nat := min (if pneg = 0 then 5 else pneg) pport

/-- The taper (R26 step 2). -/
def taper (soc raw : Nat) : Nat :=
  if 98 ≤ soc then 2 else if 80 ≤ soc then max 5 (raw * (100 - soc) / 20) else raw

/-- Cap, floor and tier of a bay as they come out now (R26, R27). -/
def State.shareNow (s : State) (i : BayIx) : Share :=
  let b := s.bay i
  let tapered := taper (soc50 b) (capRaw b.pneg (s.cfg .pport))
  let sb := s.sessionBay i
  let cap := if sb then max tapered (s.cfg .fsess) else tapered
  { cap := cap
    floor := if sb then s.cfg .fsess else if cap = 2 then 2 else min 5 cap
    tier := if sb then 0 else if s.member i then 1 else if 98 ≤ soc50 b then 3 else 2 }

/-- The custody states in which a bay may charge (R25). -/
def chargingCustody : Custody → Bool
  | .seating | .securing | .locked | .releasing | .released | .held _ => true
  | .vacant | .clearing | .jammed _ _ => false

/-- A bay is eligible (R25). The last presence stored counts, also between a return to Linked and the next STATUS
(L55). -/
def eligibleNow (b : Bay) : Bool :=
  b.link = .linked && b.presence = some true && b.chargeOn && !b.overdraw && !b.hot &&
    chargingCustody b.custody

/-- The counted grant of a bay (R29, R30). -/
def counted (b : Bay) : Nat :=
  if b.link = .lost then max (max b.applied b.commanded) 5 else max b.applied b.commanded

/-- The counted sum over all bays (R29). -/
def State.countedSum (s : State) : Nat := (allBays.map fun i => counted (s.bay i)).sum

/-- The allocatable pool: the pool in force less the counted grants of the Lost bays (R30). -/
def State.allocatable (s : State) : Nat :=
  s.pool.inForce - (allBays.map fun i => if (s.bay i).link = .lost then counted (s.bay i) else 0).sum

/-! ### Pulses -/

/-- The standing of a bay's pulse (R97), with the position from the front, or the slot. -/
inductive PulseStanding
  | none | queued (dir : Dir) (position : Nat) | inFlight (slot : PulseSlot) (pulse : Pulse)
deriving DecidableEq, Repr

/-- The place of a bay in the actuation queue, counted from 1 at the front. -/
def queuePlace (i : BayIx) (n : Nat) : List (BayIx × Dir) → Option (Dir × Nat)
  | [] => none
  | (b, d) :: rest => if b = i then some (d, n) else queuePlace i (n + 1) rest

/-- A slot holds a pulse for a bay. -/
def holds (p : Option Pulse) (i : BayIx) : Option Pulse := p.filter (·.bay = i)

/-- The standing of a bay's pulse (R97). -/
def State.standing (s : State) (i : BayIx) : PulseStanding :=
  match holds s.arb.slotA i, holds s.arb.slotB i with
  | some p, _ => .inFlight .a p
  | none, some p => .inFlight .b p
  | none, none =>
    match queuePlace i 1 s.arb.queue with
    | some (d, n) => .queued d n
    | none => .none

/-- No pulse for the bay is queued or in flight. -/
def State.noPulse (s : State) (i : BayIx) : Bool := s.standing i == .none

/-- A pulse for the bay is in flight. -/
def State.pulseInFlight (s : State) (i : BayIx) : Bool :=
  match s.standing i with
  | .inFlight _ _ => true
  | _ => false

/-- The number of slots that hold a pulse. -/
def State.busySlots (s : State) : Nat :=
  (if s.arb.slotA.isSome then 1 else 0) + (if s.arb.slotB.isSome then 1 else 0)

/-- The slot limit (R100). A drain of kind Rebuild in Riding has the limit of Riding (R156). -/
def State.slotLimit (s : State) : Nat :=
  if s.arb.held || s.power.state = .riding then 0
  else if s.power.drain.isSome then 1
  else if s.power.state = .serving then 2
  else 0

/-! ### Sessions: service and gate -/

/-- A channel configuration serves a bay for a class (R112). -/
def serves (c : ChanCfg) (bayCount : Nat) (i : BayIx) (k : SessClass) : Bool :=
  c.enabled && c.base ≤ i.1 && i.1 < c.base + c.size && bayNumber i ≤ bayCount &&
    (k = .inventory || !c.restricted)

/-- A Queued session may be dispatched (R119). -/
def State.mayGo (s : State) (x : Session) : Bool :=
  let b := s.bay x.bay
  b.custody = .locked && b.link = .linked && x.minCharge ≤ b.soc.getD 0 && s.power.state = .serving

/-- Some Free channel serves the session now. -/
def State.freeChannelFor (s : State) (x : Session) : Bool :=
  allChans.any fun c =>
    (s.chan c).state = .free && serves (s.chan c).cfg s.loop.bayCount x.bay x.cls

/-- The dispatch gate, coded from 0 in the order of R131: Custody, Link, Charge, Power, NoChannel, Ready. -/
def State.gateCode (s : State) (x : Session) : Nat :=
  let b := s.bay x.bay
  if b.custody ≠ .locked then 0
  else if b.link ≠ .linked then 1
  else if b.soc.getD 0 < x.minCharge then 2
  else if s.power.state ≠ .serving then 3
  else if !s.freeChannelFor x then 4
  else 5

/-! ### Lamp, loop and lines -/

/-- The lamp colour derived for a bay: the first line of the table of R75 that applies. -/
def State.lampColour (s : State) (i : BayIx) : Colour :=
  let b := s.bay i
  if b.displayDue.isSome then .redBlinking
  else if b.overdraw || b.hot then .red
  else match b.custody with
    | .held _ | .jammed _ _ => .red
    | .released => .greenBlinking
    | .vacant | .clearing => .off
    | .seating | .securing | .locked | .releasing =>
      match b.soc with
      | some q => if s.cfg .readyThreshold ≤ q then .green else .amber
      | none => .amber

/-- The loop is held by a rebuild: from PowerOff to its end (R146). -/
def State.loopHeld (s : State) : Bool :=
  match s.loop.rebuild with
  | some r => r.phase != .draining
  | none => false

/-- The attention line as R187 judges it. -/
def Notices.line (n : Notices) (threshold : Nat) : Bool :=
  !n.fetchHold && n.queue.any fun r => threshold ≤ r.level

/-- The ready line as R167 gives it once the settings are loaded. -/
def HostLink.line (l : HostLink) : Bool := l.buffer.length < 2

/-- The output lines judged: attention (R187) and ready (R167). -/
def State.lines (s : State) : State :=
  { s with
    notices := { s.notices with attention := s.notices.line (s.cfg .attention) }
    link := { s.link with ready := s.link.line } }

/-- Whole seconds left to a due time, rounded down. -/
def State.secondsLeft (s : State) (due : Nat) : Nat := (due - s.now) / 1000

/-- The bay number lies within the bay count in force, and the bay's link is not Absent (R68, R80, R89, R118). -/
def State.bayNamed? (s : State) (n : Nat) : Option BayIx :=
  match bayOf? n with
  | some i => if n ≤ s.loop.bayCount ∧ (s.bay i).link ≠ .absent then some i else none
  | none => none

end Sys2Proof.Machine
end

