-- ==== Sys2Proof/Machine/Ops.lean ====
section
/-! DEFINITION. The operations every block shares: raising a notice, placing, withdrawing and beginning transactions
of the loop, asking for bolt movements, and the frame of one event. -/

namespace Sys2Proof.Machine

/-! ### The frame of an event -/

/-- An event of a part that is not held in reset; while the reset pin is held low the part takes nothing (R194). -/
def live (s : State) (t : State) : Out := .next (if s.resetHeld then s else t)

/-! ### Notices (R182, R184) -/

/-- The lowest level in a queue. -/
def lowestLevel (q : List Notice) : Nat := q.foldl (fun m r => min m r.level) 7

/-- A record placed in the queue (R184). -/
def Notices.put (n : Notices) (r : Notice) : Notices :=
  if n.queue.length < 32 then { n with queue := n.queue ++ [r] }
  else if lowestLevel n.queue < r.level then
    { n with
      queue := n.queue.eraseP (fun x => x.level = lowestLevel n.queue) ++ [r]
      overflow := true }
  else { n with overflow := true }

/-- A notice raised: the record is formed with the kind's level and the seconds counter, discarded at level 0, and
placed otherwise (R182). -/
def State.raise (s : State) (k : NoticeKind) (bay : Option BayIx := none)
    (asset : Option AssetId := none) (session : Option Nat := none) (value : Option Nat := none)
    (reason : Option Reason := none) : State :=
  let level := s.notices.levels.get k
  if level = 0 then s
  else
    { s with
      notices := s.notices.put
        { kind := k, level, time := s.retained.seconds, bay, asset, session, value, reason } }

/-! ### Placements (R142) -/

/-- The rank of a transaction's class, 0 the highest (R143). The Loop Master's own transactions take the loop ahead
of every class and are never queued. -/
def Txn.rank : Txn → Nat
  | .shed => 0
  | .lock _ _ _ _ | .verify _ _ => 1
  | .grant .raise _ _ => 3
  | .grant .lower _ _ | .grant (.fault _) _ _ => 2
  | .tag _ _ => 4
  | .scan _ | .recon _ => 5
  | .lamp _ _ => 6
  | .discIdentify _ | .discAssign _ | .discPass _ | .discReset _ | .probeIdentify _
  | .probePass _ => 0

/-- The clients of the Loop Master. -/
inductive Client | allocator | arbiter | custody | scanner | master
deriving DecidableEq, Repr

/-- Who placed a transaction. -/
def Txn.client : Txn → Client
  | .shed | .grant _ _ _ => .allocator
  | .lock _ _ _ _ | .verify _ _ => .arbiter
  | .tag _ _ | .recon _ | .lamp _ _ => .custody
  | .scan _ => .scanner
  | .discIdentify _ | .discAssign _ | .discPass _ | .discReset _ | .probeIdentify _
  | .probePass _ => .master

/-- A new placement takes the place of an unsent transaction: a GRANT that of a GRANT for the same bay in the same
class, a LAMP that of a LAMP for the same bay (R142). A fault GRANT that replaces a lowering one is still counted for
the round, and a lowering one that replaces a fault GRANT is the round's (R47). -/
def Txn.replaces? (new old : Txn) : Option Txn :=
  match new, old with
  | .grant k i w, .grant k' j _ =>
    if i = j ∧ new.rank = old.rank then
      match k, k' with
      | .fault _, .lower => some (.grant (.fault true) i w)
      | .fault _, .fault r => some (.grant (.fault r) i w)
      | _, _ => some (.grant k i w)
    else none
  | .lamp i c, .lamp j _ => if i = j then some (.lamp i c) else none
  | _, _ => none

/-- The first transaction of a list that a new one replaces, replaced in its place. -/
def replaceIn (new : Txn) : List Txn → Option (List Txn)
  | [] => none
  | t :: rest =>
    match new.replaces? t with
    | some t' => some (t' :: rest)
    | none => (replaceIn new rest).map (t :: ·)

/-- A placement that replaces nothing: kept back behind a waiting placement of its client, appended where a place is
free and not owed to a waiting placement, and waiting otherwise (R142, L13). -/
def Loop.append (l : Loop) (t : Txn) : Loop :=
  if l.waiting.any (fun w => w.client = t.client) then { l with heldBack := l.heldBack ++ [t] }
  else if l.queued.length + l.waiting.length < 64 then { l with queued := l.queued ++ [t] }
  else { l with waiting := l.waiting ++ [t] }

/-- A placement with the Loop Master (R142). One that replaces an unsent transaction takes effect at once, whether or not
its client has a placement waiting (L51). -/
def Loop.put (l : Loop) (t : Txn) : Loop :=
  match replaceIn t l.queued, replaceIn t l.waiting, replaceIn t l.heldBack with
  | some q, _, _ => { l with queued := q }
  | none, some w, _ => { l with waiting := w }
  | none, none, some h => { l with heldBack := h }
  | none, none, none => l.append t

/-- The placements kept back are made again, in their order: those whose client waits no longer enter (R142). -/
def Loop.reflow (l : Loop) : Loop :=
  l.heldBack.foldl Loop.append { l with heldBack := [] }

/-- Unsent transactions withdrawn: removed from the queues, from the waiting placements and from those kept back
(R142). -/
def Loop.drop (l : Loop) (p : Txn → Bool) : Loop :=
  Loop.reflow
    { l with
      queued := l.queued.filter fun t => !p t
      waiting := l.waiting.filter fun t => !p t
      heldBack := l.heldBack.filter fun t => !p t }

/-- The unsent transactions. -/
def Loop.unsent (l : Loop) : List Txn := l.queued ++ l.waiting ++ l.heldBack

/-- A transaction placed. -/
def State.place (s : State) (t : Txn) : State := { s with loop := s.loop.put t }

/-- Unsent transactions withdrawn. -/
def State.withdraw (s : State) (p : Txn → Bool) : State := { s with loop := s.loop.drop p }

/-- A transaction's command is sent onto the idle loop: its first attempt begins (R139). The wait is counted from
here (L29). -/
def State.send (s : State) (t : Txn) : State :=
  { s with
    loop := { s.loop with
      onLoop := some ⟨t, 1, s.now + 3, false⟩
      lastFrame := t.frame } }

/-! ### Bolt movements asked for (R98, R99) -/

/-- A bolt movement asked for: queued where the bay's pulse stands nowhere, cancelled against a queued opposite
entry, and without effect otherwise (R98). The grant is evaluated at the end of the event (L35). -/
def State.askBolt (s : State) (i : BayIx) (d : Dir) : State :=
  match s.standing i with
  | .none => { s with arb := { s.arb with queue := s.arb.queue ++ [(i, d)] } }
  | .queued d' _ =>
    if d = d' then s
    else { s with arb := { s.arb with queue := s.arb.queue.filter fun e => e.1 ≠ i } }
  | .inFlight _ _ => s

/-- A bay's queued entry withdrawn, where there is one (R99). -/
def State.dropBolt (s : State) (i : BayIx) : State :=
  match s.standing i with
  | .queued _ _ => { s with arb := { s.arb with queue := s.arb.queue.filter fun e => e.1 ≠ i } }
  | .none | .inFlight _ _ => s

end Sys2Proof.Machine
end

