-- ==== Sys2Proof/Machine/Allocation.lean ====
section
/-! DEFINITION. The Charge Allocator and the Pool Calculator: shares and marks (R28), GRANTs (R29), the computation of
targets (R31 to R33), the phases of a round (R36 to R41), the sheds (R42, R51), bay faults (R44 to R47), and the
recomputation of the pool (R7). -/

namespace Sys2Proof.Machine

/-! ### Marks and grants -/

/-- Recompute pending marked (R34). -/
def State.markPending (s : State) : State := { s with round := { s.round with pending := true } }

/-- The at-once mark set, with recompute pending (R34). -/
def State.markAtOnce (s : State) : State :=
  { s with round := { s.round with pending := true, atOnce := true } }

/-- A bay's applied and commanded grants, with the time of the last change of either (R29). -/
def State.setGrants (s : State) (i : BayIx) (applied commanded : Nat) : State :=
  if (s.bay i).applied = applied ∧ (s.bay i).commanded = commanded then s
  else
    { s.modBay i fun b => { b with applied, commanded } with
      round := { s.round with lastGrantChange := s.now } }

/-- New cap, floor and tier differ from those kept so that recompute pending is marked (R28). -/
def shareMoves (kept : Option Share) (new : Share) : Bool :=
  match kept with
  | none => true
  | some k =>
    k.tier != new.tier || new.cap + 3 ≤ k.cap || k.cap + 3 ≤ new.cap || new.floor + 3 ≤ k.floor ||
      k.floor + 3 ≤ new.floor

/-- Cap, floor and tier of a bay computed afresh (R28). -/
def State.refreshShare (s : State) (i : BayIx) : State :=
  let new := s.shareNow i
  let b := s.bay i
  let s := s.modBay i fun b => { b with share := new }
  if eligibleNow b && shareMoves b.kept new then s.markPending else s

/-- Cap, floor and tier of every bay computed afresh (R28, at a change of Pport or Fsess). -/
def State.refreshShares (s : State) : State := allBays.foldl State.refreshShare s

/-- A transaction is a GRANT for a bay. -/
def Txn.isGrantFor (i : BayIx) : Txn → Bool
  | .grant _ j _ => i = j
  | _ => false

/-- A bay's GRANT waits unsent. -/
def State.unsentGrant (s : State) (i : BayIx) : Bool := s.loop.unsent.any (Txn.isGrantFor i)

/-- A GRANT of the round for a bay: lowering, raising, or a fault GRANT that replaced a lowering one (R47). -/
def Txn.isRoundsFor (i : BayIx) : Txn → Bool
  | .grant .lower j _ | .grant .raise j _ | .grant (.fault true) j _ => i = j
  | _ => false

/-- A GRANT of the round for the bay is on the loop; a fault GRANT of no round is none (R47). -/
def State.grantOnLoop (s : State) (i : BayIx) : Bool :=
  match s.loop.onLoop with
  | some o => o.txn.isRoundsFor i
  | none => false

/-- A GRANT issued (R29): the commanded grant becomes its value, the outstanding GRANT records the value it replaced
(the earlier one where an unsent GRANT gives way), and it is placed. An unsent GRANT of the other class gives way too
(L14). -/
def State.issueGrant (s : State) (k : GrantKind) (i : BayIx) (w : Nat) : State :=
  let b := s.bay i
  let replaced :=
    match b.outstanding with
    | some o => if s.unsentGrant i then o.replaced else b.commanded
    | none => b.commanded
  let s := (s.setGrants i b.applied w).modBay i fun b => { b with outstanding := some ⟨w, replaced⟩ }
  let new := Txn.grant k i w
  (s.withdraw fun t => t.isGrantFor i && t.rank != new.rank).place new

/-- A bay's unsent GRANT withdrawn: the commanded grant it replaced is restored (R29, R39). -/
def State.withdrawGrant (s : State) (i : BayIx) : State :=
  match (s.bay i).outstanding with
  | some o =>
    ((s.setGrants i (s.bay i).applied o.replaced).modBay i fun b => { b with outstanding := none }).withdraw
      (Txn.isGrantFor i)
  | none => s.withdraw (Txn.isGrantFor i)

/-- The round's unsent GRANT for a bay, lowering or raising. -/
def Txn.isRoundGrantFor (i : BayIx) : Txn → Bool
  | .grant .lower j _ | .grant .raise j _ => i = j
  | _ => false

/-! ### The computation of targets (R31 to R33) -/

/-- The order tier ascending, SoC ascending with unknown as 50, bay number ascending (R31). -/
def State.serveKey (s : State) (i : BayIx) : Nat :=
  ((s.bay i).share.tier * 256 + soc50 (s.bay i)) * 64 + i.1

/-- The candidates for admission, in their order (R31). -/
def State.candidates (s : State) : List BayIx :=
  sortByKey s.serveKey (allBays.filter fun i => eligibleNow (s.bay i) && (s.bay i).commanded = 0)

/-- The admitted bays of a computation (R31). -/
def State.admitted (s : State) : List BayIx :=
  (allBays.filter fun i => eligibleNow (s.bay i) && (s.bay i).commanded ≠ 0) ++
    s.candidates.take (s.cfg .batch)

/-- The admission backlog (R31). -/
def State.backlogNow (s : State) : Nat := s.candidates.length - s.cfg .batch

/-- Stage A: from bays in the order of their deferral, those that remain when F fits the allocatable pool (R32). -/
def fitFloors (floor : BayIx → Nat) (alloc : Nat) : List BayIx → List BayIx
  | [] => []
  | x :: rest =>
    if ((x :: rest).map floor).sum ≤ alloc then x :: rest else fitFloors floor alloc rest

/-- The bays stage A leaves, in the order of their deferral: the reverse of the serving order (R32). -/
def State.floored (s : State) : List BayIx :=
  fitFloors (fun i => (s.bay i).share.floor) s.allocatable (sortByKey s.serveKey s.admitted).reverse

/-- The largest L up to a bound for which the lesser of h and L sums to at most R (R33). -/
def shareLevel (hs : List Nat) (r : Nat) : Nat → Nat
  | 0 => 0
  | n + 1 => if (hs.map fun h => min h (n + 1)).sum ≤ r then n + 1 else shareLevel hs r n

/-- What one tier's bays receive beyond their floors from a remainder, and the remainder after (R33). The bays stand
in the order lowest SoC first, then lowest bay number. -/
def serveTier (h : BayIx → Nat) (bays : List BayIx) (r : Nat) : List (BayIx × Nat) × Nat :=
  let hs := bays.map h
  if hs.sum ≤ r then (bays.map fun i => (i, h i), r - hs.sum)
  else
    let l := shareLevel hs r (hs.foldl max 0)
    let leftover := r - (hs.map fun x => min x l).sum
    let more := (bays.filter fun i => l < h i).take leftover
    (bays.map fun i => (i, min (h i) l + if more.contains i then 1 else 0), 0)

/-- Stage B: the tiers served from 0 to 3 (R33). -/
def State.serveTiers (s : State) : List (BayIx × Nat) :=
  let bays := s.floored.reverse
  let h := fun i => (s.bay i).share.cap - (s.bay i).share.floor
  let f := (bays.map fun i => (s.bay i).share.floor).sum
  (([0, 1, 2, 3] : List Nat).foldl
    (fun (acc : List (BayIx × Nat) × Nat) t =>
      let (got, r) := serveTier h (bays.filter fun i => (s.bay i).share.tier = t) acc.2
      (acc.1 ++ got, r))
    ([], s.allocatable - f)).1

/-- The target grant of every bay (R31 to R33). -/
def State.targetsNow (s : State) : Vector Nat 36 :=
  s.serveTiers.foldl (fun v e => v.set e.1.1 ((s.bay e.1).share.floor + e.2) e.1.2)
    (Vector.replicate 36 0)

/-! ### A round (R36 to R41) -/

/-- The end of a round (R40). -/
def State.endRound (s : State) : State :=
  { s with
    round := { s.round with
      state := .idle
      lastEnd := some s.now
      pending := s.round.pending || s.round.backlog != 0 || s.round.raiseUnsent
      toRaise := []
      lowering := []
      raising := []
      cut := false
      backlog := 0
      raiseUnsent := false } }

/-- A raise left unsent: recompute pending marked (R38). -/
def State.leaveRaise (s : State) : State :=
  { s with round := { s.round with raiseUnsent := true, pending := true } }

/-- One bay's raise, trimmed against the pool in force (R38); the floor is that of the round's snapshot (L15). -/
def State.raiseBay (s : State) (i : BayIx) : State :=
  let b := s.bay i
  let others := s.countedSum - counted b
  let room := s.pool.inForce - others
  let new := min s.round.targets[i.1] room
  if s.pool.inForce < others + max b.applied (if b.link = .lost then 5 else 0) then s.leaveRaise
  else if new ≤ b.commanded then s.leaveRaise
  else if b.commanded = 0 ∧ new < (b.kept.getD b.share).floor then s.leaveRaise
  else
    let s := s.issueGrant .raise i new
    { s with round := { s.round with raising := s.round.raising ++ [i] } }

/-- The order of the raises: tier as in the round's snapshot, SoC as it stands with unknown as 50, bay number, each
ascending (R38, L15). -/
def State.raiseKey (s : State) (i : BayIx) : Nat :=
  (((s.bay i).kept.getD (s.bay i).share).tier * 256 + soc50 (s.bay i)) * 64 + i.1

/-- The raise phase begins (R38). -/
def State.beginRaising (s : State) : State :=
  let order := sortByKey s.raiseKey s.round.toRaise
  order.foldl State.raiseBay { s with round := { s.round with state := .raising, toRaise := [] } }

/-- The phases move on: Lowering to Raising when its last GRANT has ended, unless the round was cut short, and the
round ends when its raises have ended (R37, R38, R40, R41). -/
def State.roundOn (s : State) : State :=
  let s :=
    if s.round.state = .lowering ∧ s.round.lowering = [] then
      if s.round.cut then s.endRound else s.beginRaising
    else s
  if s.round.state = .raising ∧ s.round.raising = [] then s.endRound else s

/-- The snapshot and the targets of a round (R31 to R33, R8), with the values at last allocation (R28). -/
def State.takeTargets (s : State) : State :=
  let targets := s.targetsNow
  let backlog := s.backlogNow
  let s := { s with
    round := { s.round with
      pending := false
      atOnce := false
      cut := false
      raiseUnsent := false
      snapPool := s.pool.inForce
      snapAlloc := s.allocatable
      targets
      backlog }
    pool := { s.pool with atLast := s.pool.inForce } }
  s.modBays fun _ b => { b with kept := if eligibleNow b then some b.share else none }

/-- The bays a round lowers: target below the commanded or the applied grant (R36). -/
def State.toLower (s : State) : List BayIx :=
  allBays.filter fun i =>
    s.round.targets[i.1] < (s.bay i).commanded || s.round.targets[i.1] < (s.bay i).applied

/-- The bays a round raises: target above the commanded grant, and not to be lowered (R36). -/
def State.toLift (s : State) : List BayIx :=
  allBays.filter fun i =>
    (s.bay i).commanded < s.round.targets[i.1] && !s.toLower.contains i

/-- A lowering GRANT issued (R37). -/
def State.lowerBay (s : State) (i : BayIx) : State := s.issueGrant .lower i s.round.targets[i.1]

/-- A round begins (R36, R37). -/
def State.beginRound (s : State) : State :=
  let s := s.takeTargets
  let down := s.toLower
  let up := s.toLift
  if down = [] then
    if up = [] then s.endRound
    else State.roundOn (State.beginRaising { s with round := { s.round with toRaise := up } })
  else
    down.foldl State.lowerBay
      { s with round := { s.round with state := .lowering, toRaise := up, lowering := down } }

/-- A GRANT of the round for a bay has ended (R39): the bay is waited for no more, unless a later GRANT of the round
for it is still unsent. -/
def State.grantEnded (s : State) (k : GrantKind) (i : BayIx) : State :=
  match k with
  | .fault false => s
  | .lower | .raise | .fault true =>
    if s.loop.unsent.any (Txn.isRoundsFor i) then s
    else
      { s with
        round := { s.round with
          lowering := s.round.lowering.filter (· ≠ i)
          raising := s.round.raising.filter (· ≠ i) } }

/-- A bay's unsent GRANT of the round withdrawn, where it has one (R41). -/
def State.cutGrant (s : State) (i : BayIx) : State :=
  if s.loop.unsent.any (Txn.isRoundGrantFor i) then s.withdrawGrant i else s

/-- The round in progress is cut short: its unsent GRANTs are withdrawn, those on the loop run on, and it issues no
more (R41, R50). An unsent fault GRANT that replaced a lowering GRANT of the round stays queued and is waited for no
more (L43). -/
def State.cutRound (s : State) : State :=
  if s.round.state = .lowering ∨ s.round.state = .raising then
    let s := allBays.foldl State.cutGrant s
    { s with
      round := { s.round with
        cut := true
        toRaise := []
        lowering := s.round.lowering.filter s.grantOnLoop
        raising := s.round.raising.filter s.grantOnLoop } }
  else s

/-! ### Sheds (R42, R51) -/

/-- Steps 1 to 3 of R42: the broadcast where the loop is powered and not held, every commanded grant 0, every unsent
GRANT withdrawn and every outstanding GRANT cleared. -/
def State.shedAll (s : State) : State :=
  let s := if s.loop.power && !s.loopHeld then s.place .shed else s
  let s := allBays.foldl (fun s i => s.setGrants i (s.bay i).applied 0) s
  let s := s.modBays fun _ b => { b with outstanding := none }
  s.withdraw fun t => match t with | .grant _ _ _ => true | _ => false

/-- Step 4 of R42: a round in progress is abandoned, the moment counting as its end (R43, R51). -/
def State.abandonRound (s : State) : State :=
  if s.round.state = .lowering ∨ s.round.state = .raising then
    { s with
      round := { s.round with
        state := .idle, lastEnd := some s.now, toRaise := [], lowering := [], raising := [],
        cut := false, backlog := 0, raiseUnsent := false } }
  else s

/-- The emergency shed (R42). -/
def State.emergencyShed (s : State) : State :=
  let s := s.shedAll.abandonRound
  { s with
    round := { s.round with state := .holdoff, pending := true }
    pool := { s.pool with atLast := 0 } }

/-- The drain shed; the allocator is suspended from here (R51). -/
def State.drainShed (s : State) : State :=
  let s := s.shedAll.abandonRound
  { s with round := { s.round with pending := true, suspended := true } }

/-! ### The pool recomputed (R7) -/

/-- A pool fall below the counted sum, told to the allocator (R41). -/
def State.fallBelow (s : State) : State := s.markAtOnce.cutRound

/-- The pool recomputed and compared (R7). -/
def State.recomputePool (s : State) : State :=
  let p := s.poolNow
  let s := { s with pool := { s.pool with inForce := p } }
  let s := if p < s.countedSum then s.fallBelow else s
  if p < s.pool.atLast ∨ s.pool.atLast + 5 ≤ p then s.markPending else s

/-! ### Eligibility (R25) -/

/-- The eligibility of every bay judged: a change in either direction marks recompute pending (R25). -/
def State.judgeEligible (s : State) : State :=
  let changed := allBays.any fun i => (s.bay i).eligible != eligibleNow (s.bay i)
  let s := s.modBays fun _ b => { b with eligible := eligibleNow b }
  if changed then s.markPending else s

/-! ### Bay faults (R44 to R47) -/

/-- A transaction is a GRANT that raises the bay. -/
def Txn.isRaiseFor (i : BayIx) : Txn → Bool
  | .grant .raise j _ => i = j
  | _ => false

/-- A fault GRANT (R47). -/
def State.faultGrant (s : State) (i : BayIx) : State :=
  if s.loop.power && !s.loopHeld then
    let s :=
      if s.loop.unsent.any (Txn.isRaiseFor i) then
        let s := s.withdrawGrant i
        { s with round := { s.round with raising := s.round.raising.filter (· ≠ i) } }
      else s
    if (s.bay i).commanded = 0 ∧ (s.bay i).applied = 0 then s
    else s.issueGrant (.fault false) i 0
  else s

end Sys2Proof.Machine
end

