-- ==== Sys2Proof/Machine/Provisioning.lean ====
section
/-! DEFINITION. The Session Scheduler: dispatch (R119, R120), the end of a session (R126), admission (R116, R118), the
session requests (R121 to R125) and the channel configuration (R112, R113). -/

namespace Sys2Proof.Machine

/-! ### Dispatch -/

/-- A session takes a channel (R120). -/
def State.dispatchTo (s : State) (c : ChanIx) (x : Session) : State :=
  let ch := s.chan c
  let s := s.modSession x.id fun y =>
    { y with
      state := .linking, channel := some c, due := some (s.now + s.cfg .linkTimer * 1000) }
  (s.setChan c { ch with state := .linking, session := some x.id, join := some x.bay }).refreshShare
    x.bay

/-- The oldest Queued session that a channel serves and that may be dispatched (R120). -/
def State.nextFor (s : State) (c : ChanIx) : Option Session :=
  s.sess.queue.find? fun x =>
    x.state = .queued && serves (s.chan c).cfg s.loop.bayCount x.bay x.cls && s.mayGo x

/-- One channel considered (R120). -/
def State.dispatchChan (s : State) (c : ChanIx) : State :=
  if (s.chan c).state = .free then
    match s.nextFor c with
    | some x => s.dispatchTo c x
    | none => s
  else s

/-- Dispatch evaluated: the channels in ascending number (R120). -/
def State.dispatch (s : State) : State := allChans.foldl State.dispatchChan s

/-! ### The end of a session -/

/-- A channel that loses its session: no join, the pending configuration in force, Free or Off (R126 step 2, R113). -/
def Channel.release (ch : Channel) : Channel := Channel.idle (ch.pendingCfg.getD ch.cfg)

/-- The channel a session holds loses it, and the session is removed from the queue (R126 steps 2 and 3). -/
def State.leaveQueue (s : State) (x : Session) : State :=
  let s := match x.channel with
    | some c => s.setChan c (s.chan c).release
    | none => s
  { s with sess := { s.sess with queue := s.sess.queue.filter fun y => y.id ≠ x.id } }

/-- Dispatch evaluated where the channel that a session held became Free (R126 step 7). -/
def State.channelFreed (s : State) (x : Session) : State :=
  match x.channel with
  | some c => if (s.chan c).state = .free then s.dispatch else s
  | none => s

/-- The end of a session with an outcome, in the steps of R126. The notice carries the asset given, the asset field
as it stood before any custody change of the same event. -/
def State.endSessionAs (s : State) (id : Nat) (o : SessOutcome) (asset : Option AssetId) : State :=
  match s.session? id with
  | none => s
  | some x =>
    let s := (s.leaveQueue x).modBay x.bay fun b => { b with lastOutcome := some (o, id) }
    let s := s.raise .sessionEnded (bay := some x.bay) (asset := asset) (session := some id)
      (value := some (match x.channel with | some c => c.1 + 1 | none => 0))
      (reason := some (.outcome o))
    let s := if x.state = .queued then s else s.refreshShare x.bay
    s.channelFreed x

/-- The end of a session with an outcome; the notice carries the bay's asset field as it stands (R126). -/
def State.endSession (s : State) (id : Nat) (o : SessOutcome) : State :=
  match s.session? id with
  | some x => s.endSessionAs id o (s.bay x.bay).assetId
  | none => s

/-- A removal told to the Session Scheduler (R128). The asset is that of the field before the removal. -/
def State.tellRemoval (s : State) (i : BayIx) (asset : Option AssetId) : State :=
  match s.sessionOf? i with
  | some x => if x.state = .draining then s else s.endSessionAs x.id .removed asset
  | none => s

/-- An accepted release met by the bay's session (R127). -/
def State.sessionMeetsRelease (s : State) (i : BayIx) : State :=
  match s.sessionOf? i with
  | some x => s.endSession x.id (if x.state = .queued then .withdrawn else .forced)
  | none => s

/-- Every session in one of some states ended with an outcome, in queue order (R129, R130). -/
def State.endSessionsIn (s : State) (p : SessState → Bool) (o : SessOutcome) : State :=
  ((s.sess.queue.filter fun x => p x.state).map (·.id)).foldl (fun s id => s.endSession id o) s

/-! ### Admission (R116, R118) -/

/-- The identifier after one, 255 being followed by 1 (R116). -/
def idAfter (n : Nat) : Nat := if 255 ≤ n then 1 else n + 1

/-- The first identifier from a starting one that belongs to no session in the queue (R116). -/
def State.freeIdFrom (s : State) : Nat → Nat → Nat
  | 0, n => n
  | k + 1, n => if (s.session? n).isSome then State.freeIdFrom s k (idAfter n) else n

/-- The identifier the next session takes (R116). -/
def State.takenId (s : State) : Nat := s.freeIdFrom 255 s.sess.nextId

/-- A session admitted, and dispatch evaluated (R118). -/
def State.admitSession (s : State) (i : BayIx) (k : SessClass) (minCharge idleLimit : Nat) : State :=
  let id := s.takenId
  State.dispatch
    { s with
      sess := { s.sess with
        nextId := idAfter id
        queue := s.sess.queue ++
          [{ id, bay := i, cls := k, minCharge, idleLimit, state := .queued, channel := none,
             admittedAt := s.retained.seconds, linkedAt := none, progress := none, result := none,
             due := none }] } }

/-- Some channel in its configuration in force serves the bay for the class (R118 check 6). -/
def State.routed (s : State) (i : BayIx) (k : SessClass) : Bool :=
  allChans.any fun c => serves (s.chan c).cfg s.loop.bayCount i k

/-! ### The session's states (R122 to R124) -/

/-- A session's channel put in a state, with its join kept or opened. -/
def State.chanOf (s : State) (x : Session) (f : Channel → Channel) : State :=
  match x.channel with
  | some c => s.setChan c (f (s.chan c))
  | none => s

/-- Link Up of a Linking session (R122). -/
def State.linkUpSession (s : State) (x : Session) : State :=
  let s := s.modSession x.id fun y =>
    { y with
      state := .active, linkedAt := some s.retained.seconds
      due := some (s.now + x.idleLimit * 1000) }
  let s := s.chanOf x fun ch => { ch with state := .busy }
  s.raise .sessionStarted (bay := some x.bay) (asset := (s.bay x.bay).assetId) (session := some x.id)
    (value := x.channel.map fun c => c.1 + 1)

/-- Progress of an Active session (R123). -/
def State.progressSession (s : State) (x : Session) (v : Nat) : State :=
  s.modSession x.id fun y => { y with progress := some v, due := some (s.now + x.idleLimit * 1000) }

/-- Finish of an Active session (R124). -/
def State.finishActive (s : State) (x : Session) (ok : Bool) : State :=
  let s := s.modSession x.id fun y =>
    { y with
      state := .draining, result := some ok
      due := some (s.now + s.cfg .drainSettle * 1000) }
  s.chanOf x fun ch => { ch with state := .draining, join := none }

/-! ### Channel configuration (R112, R113) -/

/-- The window size taken for one asked for (R112). -/
def sizeTaken (n : Nat) : Nat :=
  if n ≤ 4 then 4 else if n ≤ 8 then 8 else if n ≤ 16 then 16 else if n ≤ 32 then 32 else 64

/-- The window base taken for one asked for, against a size (R112). -/
def baseTaken (n size : Nat) : Nat := min n 63 / size * size

/-- The configuration a change starts from: the pending one where there is one, otherwise the one in force (R112). -/
def Channel.wanted (ch : Channel) : ChanCfg := ch.pendingCfg.getD ch.cfg

/-- One field of a channel configuration changed: 0 enabled, 1 base, 2 size, 3 restricted (R112, R189). None where an
enabled or restricted value is neither 0 nor 1. -/
def changeChan? (c : ChanCfg) (field v : Nat) : Option ChanCfg :=
  match field with
  | 0 => if v ≤ 1 then some { c with enabled := v = 1 } else none
  | 1 => some { c with base := baseTaken v c.size }
  | 2 => some { c with size := sizeTaken v, base := baseTaken c.base (sizeTaken v) }
  | _ => if v ≤ 1 then some { c with restricted := v = 1 } else none

/-- The value of one field of a channel configuration. -/
def chanField (c : ChanCfg) (field : Nat) : Nat :=
  match field with
  | 0 => if c.enabled then 1 else 0
  | 1 => c.base
  | 2 => c.size
  | _ => if c.restricted then 1 else 0

/-- A new configuration for a channel: in force at once where it holds no session, pending otherwise; dispatch is
evaluated where a Free channel's configuration came into force (R113). -/
def State.configure (s : State) (c : ChanIx) (new : ChanCfg) : State :=
  let ch := s.chan c
  if new = ch.wanted then s
  else
    match ch.state with
    | .off | .free =>
      let s := s.setChan c (Channel.idle new)
      if new.enabled then s.dispatch else s
    | .linking | .busy | .draining => s.setChan c { ch with pendingCfg := some new }

end Sys2Proof.Machine
end

