-- ==== Sys2Proof/Machine/Custody.lean ====
section
/-! DEFINITION. The Custody Unit: the ready set (R91, R92), the roster (R70), custody transitions (chapter 3),
identification (R61), releases (R82 to R90), local release (R95), the end of a pulse (R63, R66, R69, R85) and the lamp
(R75, R76). -/

namespace Sys2Proof.Machine

/-! ### The ready set -/

/-- A bay leaves the ready set, with a ReadySetChanged notice where a reason is given (R92). -/
def State.leaveReady (s : State) (i : BayIx) (why : Option Reason) : State :=
  if s.member i then
    let s := { s with cust := { s.cust with readySet := s.cust.readySet.filter (· ≠ i) } }
    let s := match why with
      | some r => s.raise .readySetChanged (bay := some i) (value := some s.cust.readySet.length)
          (reason := some r)
      | none => s
    s.refreshShare i
  else s

/-- The whole set emptied, with one ReadySetChanged notice where it held members (R92, R93). -/
def State.emptyReady (s : State) (why : Reason) : State :=
  match s.cust.readySet with
  | [] => s
  | i :: rest =>
    let s := { s with cust := { s.cust with readySet := [] } }
    let s := s.raise .readySetChanged (value := some 0) (reason := some why)
    (i :: rest).foldl State.refreshShare s

/-- A bay satisfies the conditions of Prepare Ready Set (R91). -/
def State.mayBeReady (s : State) (i : BayIx) : Bool :=
  let b := s.bay i
  b.custody = .locked && b.link = .linked && (s.sessionOf? i).isNone && b.standing = some .docked &&
    !b.overdraw && !b.hot

/-- The order highest SoC first, at equal SoC lowest bay number, unknown SoC last (R83, R91). -/
def State.readyKey (s : State) (i : BayIx) : Nat :=
  (match (s.bay i).soc with | some q => 255 - q | none => 256) * 64 + i.1

/-- The bays Prepare Ready Set chooses (R91). -/
def State.chooseReady (s : State) (n : Nat) : List BayIx :=
  (sortByKey s.readyKey (allBays.filter s.mayBeReady)).take n

/-- The notice that clears the ready set for Prepare Ready Set, where it held members (R91, R92). -/
def State.sayReadyCleared (s : State) : State :=
  match s.cust.readySet with
  | [] => s
  | _ :: _ => s.raise .readySetChanged (value := some 0) (reason := some .host)

/-- Prepare Ready Set: the set cleared and chosen afresh as one event. The Charge Allocator is told once the members
stand, so that the tier of a bay that stays a member is compared as the tier it keeps (R28, R91). -/
def State.prepareReady (s : State) (n : Nat) : State :=
  let before := s.cust.readySet
  let s := s.sayReadyCleared
  let s := { s with cust := { s.cust with readySet := [] } }
  let chosen := s.chooseReady n
  let s := { s with cust := { s.cust with readySet := chosen } }
  (before.filter (· ∉ chosen) ++ chosen.filter (· ∉ before)).foldl State.refreshShare s

/-! ### The roster -/

/-- The roster entry of an asset. -/
def State.entry? (s : State) (a : AssetId) : Option Entry := s.cust.roster.find? (·.asset = a)

/-- The bay in which an asset is Docked. -/
def State.dockedBay? (s : State) (a : AssetId) : Option BayIx :=
  match s.entry? a with
  | some e => match e.state with | .docked b => some b | _ => none
  | none => none

/-- Roster entries changed in their places. -/
def State.mapRoster (s : State) (f : Entry → Entry) : State :=
  { s with cust := { s.cust with roster := s.cust.roster.map f } }

/-- The entry Docked in a bay becomes Out with a holder, out-since the seconds counter (R70). -/
def State.dockedOut (s : State) (i : BayIx) (holder : Option Badge) : State :=
  s.mapRoster fun e =>
    if e.state = .docked i then
      { e with state := .out, holder, outSince := some s.retained.seconds }
    else e

/-- The entry Docked in a bay becomes Missing, its holder cleared, out-since the seconds counter (R70). -/
def State.dockedMissing (s : State) (i : BayIx) : State :=
  s.mapRoster fun e =>
    if e.state = .docked i then
      { e with state := .missing, holder := none, outSince := some s.retained.seconds }
    else e

/-- The entry of an asset becomes Docked in a bay, its holder and out-since cleared (R70). -/
def State.dockEntry (s : State) (a : AssetId) (i : BayIx) : State :=
  s.mapRoster fun e =>
    if e.asset = a then { e with state := .docked i, holder := none, outSince := none } else e

/-- The asset field set. -/
def State.setAsset (s : State) (i : BayIx) (a : Option AssetId) (st : Option Standing) : State :=
  s.modBay i fun b => { b with assetId := a, standing := st }

/-! ### Custody transitions -/

/-- Tag reading for a bay stopped: unsent TAG withdrawn, one on the loop to be discarded (R57, R59, R60). -/
def State.dropTag (s : State) (i : BayIx) : State :=
  let s := s.withdraw fun t => match t with | .tag j _ => i = j | _ => false
  match s.loop.onLoop with
  | some o =>
    match o.txn with
    | .tag j _ => if i = j then { s with loop := { s.loop with onLoop := some { o with stale := true } } } else s
    | _ => s
  | none => s

/-- The seat-settle timer and the tag attempts of a bay stopped (R57). -/
def State.stopSeating (s : State) (i : BayIx) : State :=
  (s.dropTag i).modBay i fun b => { b with seatDue := none, tagTries := 0, tagRetryDue := none }

/-- The admission mark is cleared when the bay reaches this state (R68). -/
def clearsAdmit : Custody → Bool
  | .locked | .vacant | .clearing => true
  | _ => false

/-- A tablet reported taken stays so when the bay reaches this state (L18). -/
def keepsGone : Custody → Bool
  | .securing | .jammed _ _ => true
  | _ => false

/-- The release record is removed when the bay reaches this state (R78). -/
def clearsRelease : Custody → Bool
  | .locked | .vacant | .seating | .clearing => true
  | _ => false

/-- A running window stopped with its time remaining (R69, R90). -/
def WindowClock.halt (now : Nat) : WindowClock → WindowClock
  | .running due => .stopped (due - now)
  | w => w

/-- A window stopped with its time remaining; one not started stands so (R90). -/
def Release.halt (r : Release) (now : Nat) : Release := { r with window := r.window.halt now }

/-- A window that is to be reported as stopped: one not started is stopped at its full length (R90, R159, L22). -/
def Release.shelve (r : Release) (now : Nat) : Release :=
  { r with
    window := match r.window with
      | .notStarted => .stopped (r.length * 1000)
      | w => w.halt now }

/-- A bay record with its window stopped (R90). -/
def Bay.halt (b : Bay) (now : Nat) : Bay := { b with release := b.release.map fun r => r.halt now }

/-- A bay record as Transit and Settling keep it: the window of a Releasing or Released bay stopped, that of a Jammed
bay of origin Releasing not started (R90, R159, L22). -/
def Bay.shelve (b : Bay) (now : Nat) : Bay :=
  match b.custody with
  | .releasing | .released => { b with release := b.release.map fun r => r.shelve now }
  | _ => b.halt now

/-- A bay's window stopped (R90). -/
def State.stopWindow (s : State) (i : BayIx) : State := s.modBay i fun b => b.halt s.now

/-- A bay reaches a custody state, with all that reaching or leaving it brings: departure from the ready set (R92),
seating stopped or its timer started (R57, R58), the admission mark (R68), the release record (R78), the asset field of
a Vacant bay (R55), the window of a Jammed bay (R69), and dispatch at Locked (R119). A tag read of reconciliation ends
with the state it was made for (L64). -/
def State.become (s : State) (i : BayIx) (c : Custody) : State :=
  let old := (s.bay i).custody
  let s := if c = .locked then s else s.leaveReady i (some .custody)
  let s := s.stopSeating i
  let s := s.modBay i fun b =>
    { b with
      custody := c
      admission := b.admission && !clearsAdmit c
      gone := b.gone && keepsGone c
      release := if clearsRelease c then none else b.release
      assetId := if c = .vacant then none else b.assetId
      standing := if c = .vacant then none else b.standing
      seatDue := if c = .seating then some (s.now + s.cfg .seatSettle * 1000) else none }
  let s := match c with
    | .jammed _ _ => s.stopWindow i
    | _ => s
  if c = .locked ∧ old ≠ .locked then s.dispatch else s

/-- A bay becomes Clearing with a retract asked for. -/
def State.clearBay (s : State) (i : BayIx) : State := (s.become i .clearing).askBolt i .retract

/-- An engage asked for a bay that has become Securing: a queued retract of R58 gives way to it; where one is in
flight the engage is asked for at its end (R63, R87, R98, L44). -/
def State.engageBay (s : State) (i : BayIx) : State :=
  match s.standing i with
  | .queued .retract _ => (s.dropBolt i).askBolt i .engage
  | _ => s.askBolt i .engage

/-- A bay becomes Securing with an engage asked for. -/
def State.secureBay (s : State) (i : BayIx) : State := (s.become i .securing).engageBay i

/-! ### Releases -/

/-- The release record of a bay removed. -/
def State.dropRelease (s : State) (i : BayIx) : State := s.modBay i fun b => { b with release := none }

/-- The holder of a bay's release record. -/
def Bay.holder (b : Bay) : Option Badge := b.release.bind (·.holder)

/-- The late-take mark of a bay's release record. -/
def Bay.late (b : Bay) : Bool := match b.release with | some r => r.late | none => false

/-- The cancel mark of a bay's release record. -/
def Bay.cancel (b : Bay) : Bool := match b.release with | some r => r.cancel | none => false

/-- The reason of a ReleaseCancelled notice in a drain (R154). -/
def drainReason : DrainKind → Reason
  | .cart => .transit
  | .rebuild => .rebuild

/-- A ReleaseCancelled notice (R155, R162). -/
def State.sayCancelled (s : State) (i : BayIx) (why : Reason) : State :=
  s.raise .releaseCancelled (bay := some i) (asset := (s.bay i).assetId) (reason := some why)

/-- A release set aside for a late take: its window stopped (L22). -/
def Release.putAside (r : Release) (now : Nat) : Release := { r.shelve now with late := true }

/-- Stage 3 of a drain for one bay (R155): a Releasing bay whose retract is withdrawn becomes Locked. -/
def State.drainReleasing (s : State) (i : BayIx) (why : Reason) : State :=
  match s.standing i with
  | .queued _ _ => ((s.dropBolt i).become i .locked).sayCancelled i why
  | .none | .inFlight _ _ => s

/-- Stage 4 of a drain for one bay (R155): a Released bay whose link is Linked and whose tablet is present becomes
Securing with its late-take mark; another stays Released with its window stopped. -/
def State.drainReleased (s : State) (i : BayIx) (why : Reason) : State :=
  if (s.bay i).link = .linked ∧ (s.bay i).presence = some true then
    let s := s.modBay i fun b => { b with release := b.release.map fun r => r.putAside s.now }
    (s.secureBay i).sayCancelled i why
  else
    s.modBay i fun b =>
      { b with release := b.release.map fun r => r.shelve s.now }

/-- A release accepted, or a bay become Released, while a drain waits: dealt with at once as stage 3 or stage 4
states (R156). -/
def State.drainMind (s : State) (i : BayIx) : State :=
  match s.power.drain with
  | none => s
  | some d =>
    match (s.bay i).custody with
    | .releasing => s.drainReleasing i (drainReason d.kind)
    | .released => s.drainReleased i (drainReason d.kind)
    | _ => s

/-- A bay becomes Released with its window running at the window length (R82, R85). -/
def State.openWindow (s : State) (i : BayIx) : State :=
  (s.become i .released).modBay i fun b =>
    { b with release := b.release.map fun r => { r with window := .running (s.now + r.length * 1000) } }

/-- A release accepted (R82): session, ready set, release record and custody state, in that order. -/
def State.acceptRelease (s : State) (i : BayIx) (seconds : Nat) (holder : Option Badge)
    (origin : ReleaseOrigin) : State :=
  let s := s.sessionMeetsRelease i
  let s := s.leaveReady i none
  let s := s.modBay i fun b =>
    { b with
      release := some
        { length := seconds, window := .notStarted, holder, origin, cancel := false, late := false } }
  match (s.bay i).custody with
  | .locked => (s.become i .releasing).askBolt i .retract
  | _ => s.openWindow i

/-- The checks of a release of a known bay, from check 2 of R80. -/
def State.releaseRefusal? (s : State) (i : BayIx) (force : Bool) : Option Result :=
  let b := s.bay i
  if s.power.state ≠ .serving then some .transit
  else if b.link ≠ .linked then some .lost
  else match b.custody with
    | .jammed _ _ => some .jammed
    | .locked | .held _ => if s.sessionBay i && !force then some .inSession else none
    | _ => some .wrongState

/-- A tablet taken: the entry Docked in the bay becomes Out, a Taken notice is raised, the asset field is emptied and
the release record removed (R63, R66, R86, R88, R162). -/
def State.takeTablet (s : State) (i : BayIx) (holder : Option Badge) (why : Reason) (value : Nat) : State :=
  let s := s.dockedOut i holder
  let s := s.raise .taken (bay := some i) (asset := (s.bay i).assetId) (value := some value)
    (reason := some why)
  (s.setAsset i none none).dropRelease i

/-- The end of a running window (R87), whatever the last presence (L57). The record kept for the late take has its
window stopped with nothing remaining (L48). -/
def State.windowEnds (s : State) (i : BayIx) : State :=
  let s := s.modBay i fun b =>
    { b with release := b.release.map fun r => { r with late := true, window := .stopped 0 } }
  (s.secureBay i).raise .notTaken (bay := some i) (asset := (s.bay i).assetId)
    (reason := some .expired)

/-! ### A STATUS met by the custody state (R56 to R69) -/

/-- A tamper notice (R64, R65, R69). -/
def State.sayTamper (s : State) (i : BayIx) (why : Reason) : State :=
  s.raise .tamper (bay := some i) (asset := (s.bay i).assetId) (reason := some why)

/-- The bolt stands where no pulse of the part put it, at a bay whose state calls for a retracted bolt: a retract is
asked for where no pulse for the bay is queued or in flight (R58). -/
def State.mendBolt (s : State) (i : BayIx) (bolt : Bolt) : State :=
  if bolt ≠ .retracted ∧ s.noPulse i then s.askBolt i .retract else s

/-- A Vacant bay met by a report (R58). -/
def State.judgeVacant (s : State) (i : BayIx) (presence : Bool) (bolt : Bolt) : State :=
  if presence then
    if bolt ≠ .retracted ∧ s.noPulse i then s.clearBay i else s.become i .seating
  else s.mendBolt i bolt

/-- A Seating bay met by a report (R57, R59). A bay whose seating was stopped by a loss of link starts its timer
afresh. -/
def State.judgeSeating (s : State) (i : BayIx) (presence : Bool) : State :=
  if !presence then s.become i .vacant
  else if (s.bay i).seatDue = none ∧ (s.bay i).tagTries = 0 then s.become i .seating
  else s

/-- The tablet of a bay has been reported taken (L18). -/
def State.markGone (s : State) (i : BayIx) : State := s.modBay i fun b => { b with gone := true }

/-- A Securing bay met by a report of presence false (R63, R88). A bay whose tablet such a report has shown taken has
none left to take (L18). A queued retract stays (L61). -/
def State.judgeSecuring (s : State) (i : BayIx) : State :=
  let b := s.bay i
  let asset := b.assetId
  let s :=
    if b.gone then s
    else if b.late then s.takeTablet i b.holder .late 0
    else s.takeTablet i none .unlocked 0
  let s :=
    if s.pulseInFlight i then s.markGone i
    else
      let s := match s.standing i with
        | .queued .engage _ => s.askBolt i .retract
        | _ => s
      s.become i .vacant
  s.tellRemoval i asset

/-- A Locked bay met by a report (R64, R65). The bolt test of R64 is made whatever pulse stands for the bay, that of R65
only where none does (L69). -/
def State.judgeLocked (s : State) (i : BayIx) (presence : Bool) (bolt : Bolt) : State :=
  if !presence then
    let asset := (s.bay i).assetId
    let s := (s.sayTamper i .removed).dockedMissing i
    let s := s.setAsset i none none
    let s := if bolt = .engaged then s.clearBay i else s.become i .vacant
    s.tellRemoval i asset
  else if bolt ≠ .engaged ∧ s.noPulse i then (s.sayTamper i .bolt).secureBay i
  else s

/-- A Releasing bay met by a report of presence false: the tablet is taken under its release (R66, R85). -/
def State.judgeReleasing (s : State) (i : BayIx) : State :=
  (s.takeTablet i (s.bay i).holder .early 0).become i .clearing

/-- The whole seconds left of a bay's window (R86). -/
def State.windowSeconds (s : State) (i : BayIx) : Nat :=
  match (s.bay i).release with
  | some r =>
    match r.window with
    | .running due => s.secondsLeft due
    | .stopped left => left / 1000
    | .notStarted => r.length
  | none => 0

/-- A Released bay met by a report (R58, R86). -/
def State.judgeReleased (s : State) (i : BayIx) (presence : Bool) (bolt : Bolt) : State :=
  if presence then s.mendBolt i bolt
  else ((s.takeTablet i (s.bay i).holder .inWindow (s.windowSeconds i)).become i .vacant).mendBolt i bolt

/-- A removal from Held (R67). -/
def State.removeHeld (s : State) (i : BayIx) : State :=
  let asset := (s.bay i).assetId
  ((s.dockedOut i none).become i .vacant).tellRemoval i asset

/-- A tablet lost while Jammed (R69). -/
def State.loseJammed (s : State) (i : BayIx) : State :=
  let asset := (s.bay i).assetId
  if asset.isSome then
    let s := (s.sayTamper i .jammed).dockedMissing i
    ((s.setAsset i none none).markGone i).tellRemoval i asset
  else s

/-- A report judged against the custody state (R56). -/
def State.judge (s : State) (i : BayIx) (presence : Bool) (bolt : Bolt) : State :=
  match (s.bay i).custody with
  | .vacant => s.judgeVacant i presence bolt
  | .seating => s.judgeSeating i presence
  | .securing => if presence then s else s.judgeSecuring i
  | .locked => s.judgeLocked i presence bolt
  | .releasing => if presence then s else s.judgeReleasing i
  | .released => s.judgeReleased i presence bolt
  | .clearing => s
  | .held _ => (if presence then s else s.removeHeld i).mendBolt i bolt
  | .jammed _ _ => if presence then s else s.loseJammed i

/-- A press of the bay button: discarded with the key off, a local release otherwise (R94, R95). -/
def State.buttonPress (s : State) (i : BayIx) (latch : Bool) : State :=
  if latch && s.keyswitch then
    match s.releaseRefusal? i false with
    | some _ => s.modBay i fun b => { b with displayDue := some (s.now + 2000) }
    | none =>
      let s := s.acceptRelease i (s.cfg .window) none .button
      let s := s.raise .localRelease (bay := some i) (asset := (s.bay i).assetId)
      s.drainMind i
  else s

/-! ### Identification (R60, R61) -/

/-- The foreign policy in force is Accept: by the setting, or by the cold-start grace (R61, R62). -/
def State.foreignAccepted (s : State) : Bool := s.cust.grace || s.cfg .foreignPolicy = 1

/-- A bay Held after identification, with its notice (R61). -/
def State.holdBay (s : State) (i : BayIx) (r : HeldReason) (a : Option AssetId) (st : Option Standing) :
    State :=
  ((s.become i (.held r)).setAsset i a st).raise .tabletHeld (bay := some i) (asset := a)
    (reason := some (.held r))

/-- A bay Securing as Docked after identification, with its notice (R61). -/
def State.dockBay (s : State) (i : BayIx) (a : AssetId) (e : Entry) (k : NoticeKind)
    (value : Option Nat) : State :=
  let s := ((s.become i .securing).setAsset i (some a) (some .docked)).dockEntry a i
  let s := s.raise k (bay := some i) (asset := some a) (value := value)
    (reason := if e.state = .missing then some .recovered else none)
  s.engageBay i

/-- The entry is Docked in another bay. -/
def Entry.dockedElsewhere (e : Entry) (i : BayIx) : Bool :=
  match e.state with
  | .docked b => b != i
  | _ => false

/-- Identification ends: the first case of the table of R61 that applies. -/
def State.identified (s : State) (i : BayIx) (id : Option AssetId) : State :=
  match id with
  | none => s.holdBay i .noTag none none
  | some a =>
    match s.entry? a with
    | none =>
      if s.foreignAccepted then
        ((s.become i .securing).setAsset i (some a) (some .foreign)).engageBay i
      else s.holdBay i .unknown (some a) (some .foreign)
    | some e =>
      if e.dockedElsewhere i then s.holdBay i .duplicate (some a) (some .unbound)
      else
        match e.home with
        | none => s.dockBay i a e .returned none
        | some h =>
          if h = i then s.dockBay i a e .returned none
          else if s.cfg .wrongHomePolicy = 1 then
            s.dockBay i a e .wrongHome (some (bayNumber h))
          else s.holdBay i .wrongHome (some a) (some .unbound)

/-! ### The end of a pulse (R63, R66, R69, R85) -/

/-- The Jammed origin of a custody state (R69); the states no pulse can leave a bay in stand for the nearest one
(L19). -/
def jamOrigin : Custody → JamOrigin
  | .securing | .locked => .securing
  | .releasing => .releasing
  | .clearing => .clearing
  | .held r => .held r
  | .released => .released
  | .vacant | .seating => .vacant
  | .jammed _ o => o

/-- An engage verified (R63). A bay that has meanwhile come to need a retract, whose pulse stood in flight, is given it
(L44). A bay that has meanwhile become Vacant, Seating, Locked, Released, Held or Jammed is left as it stands (L75). -/
def State.engageDone (s : State) (i : BayIx) : State :=
  match (s.bay i).custody with
  | .securing =>
    if (s.bay i).presence = some false then s.clearBay i
    else
      let admitted := (s.bay i).admission
      let s := s.become i .locked
      if admitted then
        s.raise .returned (bay := some i) (asset := (s.bay i).assetId) (reason := some .admitted)
      else s
  | .releasing | .clearing => s.askBolt i .retract
  | _ => s

/-- A retract verified (R58, R66, R85, R89). A cancel is taken ahead of the drain's stage 4 (L45); a bay that has
meanwhile become Securing is given its engage (L44). A Vacant, Held or Released bay is left as it stands (R58), and so
is one that has meanwhile become Seating, Locked or Jammed (L75). -/
def State.retractDone (s : State) (i : BayIx) : State :=
  match (s.bay i).custody with
  | .releasing =>
    if (s.bay i).cancel then ((s.become i .released).dropRelease i).secureBay i
    else if s.power.drain.isSome then (s.become i .released).drainMind i
    else s.openWindow i
  | .clearing =>
    if (s.bay i).presence = some true then s.become i .seating else s.become i .vacant
  | .securing => s.askBolt i .engage
  | _ => s

/-- The end of a pulse reported to the Custody Unit (R105). -/
def State.pulseReport (s : State) (i : BayIx) (d : Dir) (ok : Bool) : State :=
  if ok then
    match d with
    | .engage => s.engageDone i
    | .retract => s.retractDone i
  else s.become i (.jammed d (jamOrigin (s.bay i).custody))

/-! ### Clear Fault on a Jammed bay (R69, R108) -/

/-- The state a Jammed bay returns to (R69). A last presence that is unknown counts as true (L21); a retract that jammed a
Securing bay brings it back to Securing (L19). -/
def unjamTo (d : Dir) (o : JamOrigin) (presence : Option Bool) : Custody :=
  match d, o with
  | .engage, _ => .securing
  | .retract, .releasing => if presence = some false then .clearing else .releasing
  | .retract, .clearing => .clearing
  | .retract, .securing => .securing
  | .retract, .vacant => .vacant
  | .retract, .held r => .held r
  | .retract, .released => .released

/-- Windows run: in Serving and Riding, with no drain in progress (R87, R90). -/
def State.windowsRun (s : State) : Bool :=
  (s.power.state = .serving || s.power.state = .riding) && s.power.drain.isNone

/-- A stopped window of a bay returned to Released runs again from its time remaining (R69, L21, L70). -/
def Release.resume (r : Release) (now : Nat) : Release :=
  { r with window := match r.window with | .stopped left => .running (now + left) | w => w }

/-- The cart is in Transit or Settling, in which every window is stopped (R90). -/
def State.windowsShelved (s : State) : Bool := s.power.state = .transit || s.power.state = .settling

/-- The release record of a bay that leaves Jammed for a state: a Securing bay has its late-take mark set (R69, R78,
L71). -/
def Release.unjam (r : Release) (dest : Custody) : Release := { r with late := r.late || dest == .securing }

/-- A Jammed bay brought out of Jammed (R69, R108). A bay returned to Released in Serving or Riding has its window
running again, one that a drain stopped too (L70). -/
def State.unjam (s : State) (i : BayIx) : State :=
  match (s.bay i).custody with
  | .jammed d o =>
    let dest := unjamTo d o (s.bay i).presence
    let s := (s.become i dest).askBolt i d
    let s := s.modBay i fun b => { b with release := b.release.map fun r => r.unjam dest }
    if dest = .released then
      let s :=
        if s.windowsRun then
          s.modBay i fun b => { b with release := b.release.map fun r => r.resume s.now }
        else s
      s.drainMind i
    else if s.windowsShelved then s.modBay i fun b => b.shelve s.now
    else s
  | _ => s

/-! ### The lamp (R75, R76) -/

/-- A transaction is a LAMP for a bay. -/
def Txn.isLampFor (i : BayIx) : Txn → Bool
  | .lamp j _ => i = j
  | _ => false

/-- The LAMP on the loop already carries a colour to a bay: none is then placed beside it (L46). -/
def State.lampOnLoop (s : State) (i : BayIx) (c : Colour) : Bool :=
  match s.loop.onLoop with
  | some o => o.txn = .lamp i c
  | none => false

/-- The derived colour compared with the colour shown, and a LAMP placed where they differ, or the unsent LAMP's
colour replaced (R76), none beside a LAMP on the loop that carries the colour (L46). Not before reconciliation has
ended, or decided the bay (R165, L34). -/
def State.compareLamp (s : State) (i : BayIx) : State :=
  let b := s.bay i
  let c := s.lampColour i
  if s.cust.reconActive || b.recon != .none then s
  else if s.loop.unsent.any (Txn.isLampFor i) then s.place (.lamp i c)
  else if b.lampShown ≠ some c ∧ b.link = .linked ∧ !s.lampOnLoop i c then s.place (.lamp i c)
  else s

/-- The colour of a bay derived afresh, and compared where it has changed (R75). -/
def State.deriveLamp (s : State) (i : BayIx) : State :=
  let c := s.lampColour i
  if (s.bay i).lampDerived = c then s
  else (s.modBay i fun b => { b with lampDerived := c }).compareLamp i

/-- The colour of every bay derived afresh (R75). -/
def State.deriveLamps (s : State) : State := allBays.foldl State.deriveLamp s

end Sys2Proof.Machine
end

