-- ==== Sys2Proof/Machine/Transit.lean ====
section
/-! DEFINITION. The Power Supervisor's transitions, the drain (R154 to R158), the loop power (R134), the passes of the
scan (R144), the rebuild (R145 to R152) and reconciliation (R160 to R165). -/

namespace Sys2Proof.Machine

/-! ### The loop power switched off (R134) -/

/-- A bay record as the loop power off leaves it: Dark, custody frozen, the lamp Off (R30, R57, R76, R134, R165). -/
def Bay.darken (b : Bay) : Bay :=
  { b with
    link := .dark, resync := false, overdrawCount := 0, outstanding := none, seatDue := none
    tagTries := 0, tagRetryDue := none, lampShown := some .off, recon := .none }

/-- The loop power switched off: every transaction Dropped, every link Dark, the scanner stopped and at no position
(L53), the arbiter held, the ready set left by its members in ascending bay number (R134, R107, R30, R92, L36). -/
def State.loopPowerOff (s : State) : State :=
  let s := { s with
    loop := { s.loop with
      power := false
      offSince := if s.loop.power then s.now else s.loop.offSince
      queued := []
      waiting := []
      heldBack := []
      onLoop := none
      scan := { s.loop.scan with
        running := false, passActive := false, left := [], position := none, outstanding := false } }
    arb := { s.arb with queue := [], slotA := none, slotB := none, held := true }
    cust := { s.cust with reconActive := false }
    round := { s.round with lowering := [], raising := [] } }
  let s := allBays.foldl (fun s i => s.setGrants i 0 0) s
  let s := s.modBays fun _ b => b.darken
  allBays.foldl (fun s i => s.leaveReady i (some .lost)) s

/-! ### Settling and the drain -/

/-- Entry to Settling (R20, R21): the settle timer starts; the rebuild it leads to is of cause Start in the first
Settling after a start and of cause Settle later, though a dropout cut the first one short (R145, L52). -/
def State.enterSettling (s : State) : State :=
  State.recomputePool
    { s with
      power := { s.power with
        state := .settling
        settleDue := some (s.now + s.cfg .settle * 1000)
        settleCause := s.power.nextCause
        nextCause := .settle } }

/-- The beginning of a drain: the record, and stages 1 to 4 as one event (R154, R155). -/
def State.beginDrain (s : State) (k : DrainKind) : State :=
  let s := { s with
    power := { s.power with drain := some ⟨k, 5, s.now + s.cfg .drainLimit * 1000⟩ } }
  let s := s.drainShed.emptyReady .drain
  let s := allBays.foldl State.stopWindow s
  let s := match k with
    | .cart => s.endSessionsIn (fun x => x == .linking || x == .active) .interrupted
    | .rebuild => s
  let s := (allBays.filter fun i => (s.bay i).custody = .releasing).foldl
    (fun s i => s.drainReleasing i (drainReason k)) s
  (allBays.filter fun i => (s.bay i).custody = .released).foldl
    (fun s i => s.drainReleased i (drainReason k)) s

/-! ### The rebuild up to discovery (R145, R146) -/

/-- The loop power switched on for a rebuild, which is then Booting for 50 ms (R146). -/
def State.powerUp (s : State) (r : Rebuild) : State :=
  { s with
    loop := { s.loop with
      power := true
      rebuild := some { r with phase := .booting, due := s.now + 50 } } }

/-- Entry to PowerOff: the power off where it is on; a loop already off for 500 ms ends the phase at once (R146). -/
def State.enterPowerOff (s : State) : State :=
  match s.loop.rebuild with
  | none => s
  | some r =>
    let s := if s.loop.power then s.loopPowerOff else s
    if s.loop.offSince + 500 ≤ s.now then s.powerUp r
    else
      { s with
        loop := { s.loop with
          rebuild := some { r with phase := .powerOff, due := s.loop.offSince + 500 } } }

/-- A rebuild started: the live bay count comes into force (R189), and it begins in Draining with the loop power on,
in PowerOff with the loop power off (R145). -/
def State.startRebuild (s : State) (c : RebuildCause) : State :=
  let count := s.cfg .bayCount
  let changed := s.loop.bayCount != count
  let s := { s with
    loop := { s.loop with
      bayCount := count
      rebuild := some
        { phase := .draining, cause := c, position := 0, bayCount := count, found := 0, absent := 0,
          surplus := false, due := 0 } } }
  let s := if changed then s.dispatch else s
  if s.loop.power then s.beginDrain .rebuild else s.enterPowerOff

/-- Transit left at once for Settling where a restoration was taken during the drain and no dropout sample has followed
it (R19). -/
def State.throughTransit (s : State) : State :=
  if s.inlet.cond = .lost then s else s.enterSettling

/-- Entry to Transit from Draining (R19): every window is stopped (R90). The pool is recomputed once the loop power is
off (L74). -/
def State.enterTransit (s : State) : State :=
  let s := { s with power := { s.power with state := .transit } }
  let s := s.modBays fun _ b => b.shelve s.now
  (((s.raise .transitEntered).loopPowerOff).recomputePool).throughTransit

/-- The end of a drain (R157): of kind Cart into Transit, and at once into Settling where the inlet is back (R19); of
kind Rebuild into PowerOff (R146). -/
def State.endDrain (s : State) : State :=
  match s.power.drain with
  | none => s
  | some d =>
    let s := { s with power := { s.power with drain := none } }
    match d.kind with
    | .cart => s.enterTransit
    | .rebuild => s.enterPowerOff

/-- The arbiter's report to a drain: the queue empty and both slots free (R107, R156). -/
def State.drainCheck (s : State) : State :=
  if s.power.drain.isSome ∧ s.arb.queue = [] ∧ s.arb.slotA = none ∧ s.arb.slotB = none then s.endDrain
  else s

/-- A rebuild abandoned (R150). Entries queued since its loop power off stay, and the drain waits for them (L59). -/
def State.abandonRebuild (s : State) : State :=
  match s.loop.rebuild with
  | none => s
  | some r =>
    let s := { s with loop := { s.loop with rebuild := none } }
    if r.phase = .draining then s else if s.loop.power then s.loopPowerOff else s

/-! ### The automatic rebuild (R152) -/

/-- A bay's link has been Lost for the rebuild hold-off or longer. -/
def State.lostLong (s : State) (i : BayIx) : Bool :=
  (s.bay i).link = .lost &&
    match (s.bay i).lostAt with
    | some t => s.cfg .rebuildHoldoff ≤ (s.retained.seconds - t).toNat
    | none => false

/-- The conditions of an automatic rebuild (R152). -/
def State.autoDue (s : State) : Bool :=
  s.cfg .autoRebuild = 1 && s.power.state = .serving && s.loop.rebuild.isNone && !s.cust.reconActive &&
    allBays.any s.lostLong

/-- A check of the conditions of an automatic rebuild (R152). -/
def State.autoCheck (s : State) : State := if s.autoDue then s.startRebuild .auto else s

/-! ### Power states (R18 to R21) -/

/-- Serving becomes Riding (R18, R50). The round is cut short before the pool of 0 is compared with the counted sum
(L73). -/
def State.enterRiding (s : State) : State :=
  let s := { s with
    power := { s.power with state := .riding, rideDue := some (s.now + s.cfg .rideThrough) } }
  s.cutRound.recomputePool

/-- A dropout sample in Settling (R21). The pool is recomputed once the loop power is off (L74). -/
def State.dropSettling (s : State) : State :=
  let s := { s with power := { s.power with settleDue := none } }
  let s := s.abandonRebuild
  let s := if s.loop.power then s.loopPowerOff else s
  let s := s.raise .inletLost
  State.recomputePool { s with power := { s.power with state := .transit } }

/-- A dropout sample met by the power state (R18 to R21). -/
def State.dropout (s : State) : State :=
  match s.power.state with
  | .serving => s.enterRiding
  | .settling => s.dropSettling
  | .riding | .draining | .transit => s

/-- Entry to Serving from Riding (R18, R50): a round at once; dispatch and the automatic rebuild are evaluated at the
change of power state (R119, R152). -/
def State.resumeServing (s : State) : State :=
  let s := { s with power := { s.power with state := .serving, rideDue := none } }
  s.recomputePool.markAtOnce.dispatch.autoCheck

/-- A restoration met by the power state (R18 to R20). -/
def State.restoration (s : State) : State :=
  match s.power.state with
  | .riding => s.resumeServing
  | .draining => s.raise .inletBack (value := some s.vin)
  | .transit => (s.raise .inletBack (value := some s.vin)).enterSettling
  | .serving | .settling => s

/-- A bay's reconciliation mark cleared with its tag read, where it has one (R19). -/
def State.unmark (s : State) (i : BayIx) : State :=
  if (s.bay i).recon = .none then s
  else (s.stopSeating i).modBay i fun b => { b with recon := .none }

/-- A reconciliation in progress at a ride-through expiry abandoned (R19): the marks cleared, the arbiter's hold
ended. Its unsent STATUS transactions stay queued, and their answers are judged as any other's (L77). -/
def State.abandonRecon (s : State) : State :=
  if s.cust.reconActive then
    let s := { s with
      cust := { s.cust with reconActive := false }
      arb := { s.arb with held := false } }
    allBays.foldl State.unmark s
  else s

/-- The expiry of the ride-through timer (R19). The pool is recomputed at the change of state, before the drain's shed
(L74). -/
def State.rideOut (s : State) : State :=
  let s := { s with power := { s.power with state := .draining, rideDue := none } }
  let s := s.recomputePool.raise .inletLost
  (s.abandonRebuild.abandonRecon).beginDrain .cart

/-! ### Reconciliation decisions (R161 to R164) -/

/-- The decisions of these retained states need a tag read of a present tablet (R161). -/
def wantsTag : Custody → Bool
  | .locked | .securing | .held _ => true
  | .vacant | .seating | .releasing | .released | .clearing | .jammed _ _ => false

/-- Vacant, or Clearing with a retract queued where the bolt is reported Engaged or Between (R162, R163). -/
def State.leaveEmpty (s : State) (i : BayIx) (bolt : Bolt) : State :=
  if bolt = .retracted then s.become i .vacant else s.clearBay i

/-- A retract for a Held bay whose bolt is reported Engaged or Between (R161). -/
def State.mendHeld (s : State) (i : BayIx) (bolt : Bolt) : State :=
  if bolt = .retracted then s else s.askBolt i .retract

/-- A CustodyMismatch notice, and the roster entry Docked in the bay made Missing (R163). -/
def State.mismatch (s : State) (i : BayIx) (why : Reason) : State :=
  (s.raise .custodyMismatch (bay := some i) (asset := (s.bay i).assetId)
    (reason := some why)).dockedMissing i

/-- A tablet in custody found gone (R163). -/
def State.foundGone (s : State) (i : BayIx) (bolt : Bolt) : State :=
  let asset := (s.bay i).assetId
  let s := (s.mismatch i .absent).setAsset i none none
  (s.leaveEmpty i bolt).tellRemoval i asset

/-- A tablet in custody found replaced by another, with the ID read (R161, R163). -/
def State.foundSwapped (s : State) (i : BayIx) (bolt : Bolt) (r : HeldReason) (read : Option AssetId) :
    State :=
  let asset := (s.bay i).assetId
  let s := (s.mismatch i .swapped).become i (.held r)
  let st := read.map fun a => if (s.entry? a).isSome then Standing.unbound else .foreign
  let s := (s.setAsset i read st).dropRelease i
  (s.mendHeld i bolt).tellRemoval i asset

/-- The reason of a ReleaseCancelled notice of reconciliation (R162). -/
def cancelReason : RebuildCause → Reason
  | .start | .settle => .transit
  | .host | .auto => .rebuild

/-- A released bay found absent (R162). -/
def State.foundTaken (s : State) (i : BayIx) (bolt : Bolt) : State :=
  (s.takeTablet i (s.bay i).holder .absent 0).leaveEmpty i bolt

/-- The decision for Locked or Securing (R161). -/
def State.decideKept (s : State) (i : BayIx) (presence : Bool) (bolt : Bolt) (read : Option AssetId) :
    State :=
  let b := s.bay i
  if presence then
    if read = b.assetId then
      if bolt = .engaged then s.become i .locked else s.secureBay i
    else s.foundSwapped i bolt .swapped read
  else if b.custody = .securing ∧ b.late then s.foundTaken i bolt
  else s.foundGone i bolt

/-- The decision for Held (R161). An absent tablet brings no retract here (L63). -/
def State.decideHeld (s : State) (i : BayIx) (presence : Bool) (bolt : Bolt) (read : Option AssetId) :
    State :=
  if presence then
    if read = (s.bay i).assetId then s.mendHeld i bolt
    else s.foundSwapped i bolt (if read.isSome then .swapped else .noTag) read
  else s.removeHeld i

/-- The decision for Vacant, Seating or Clearing (R162). -/
def State.decideEmpty (s : State) (i : BayIx) (presence : Bool) (bolt : Bolt) : State :=
  if presence then if bolt = .retracted then s.become i .seating else s.clearBay i
  else
    let s := s.become i .vacant
    if bolt = .retracted then s else s.askBolt i .retract

/-- The decision for Releasing or Released (R162). -/
def State.decideOpen (s : State) (i : BayIx) (presence : Bool) (bolt : Bolt) : State :=
  if presence then
    ((s.dropRelease i).secureBay i).sayCancelled i (cancelReason s.cust.reconCause)
  else s.foundTaken i bolt

/-- The decision of the Warm case (R161, R162). -/
def State.decideWarm (s : State) (i : BayIx) (presence : Bool) (bolt : Bolt) (read : Option AssetId) :
    State :=
  match (s.bay i).custody with
  | .locked | .securing => s.decideKept i presence bolt read
  | .held _ => s.decideHeld i presence bolt read
  | .vacant | .seating | .clearing => s.decideEmpty i presence bolt
  | .releasing | .released => s.decideOpen i presence bolt
  | .jammed _ _ => if presence then s else s.loseJammed i

/-- The decision of the Cold case (R164). -/
def State.decideCold (s : State) (i : BayIx) (presence : Bool) (bolt : Bolt) : State :=
  if presence then if bolt = .retracted then s.become i .seating else s.clearBay i
  else s.leaveEmpty i bolt

/-- A bay decided on its stored presence and bolt position and the tag read: its queued entry is withdrawn first, the
admission mark and the reconciliation mark cleared, and its lamp compared (R160, R68, R165). The bolt position is judged
as the tables of R161, R162 and R164 have it also where a pulse for the bay is in flight (L72). -/
def State.decide (s : State) (i : BayIx) (read : Option AssetId) : State :=
  let b := s.bay i
  let presence := b.presence = some true
  let bolt := b.bolt.getD .between
  let s := ((s.dropBolt i).stopSeating i).modBay i fun b => { b with admission := false, recon := .none }
  let s := match s.cust.reconCase with
    | .warm => s.decideWarm i presence bolt read
    | .cold => s.decideCold i presence bolt
  s.compareLamp i

/-- A STATUS answered OK met by a pending or deferred bay, its presence and bolt position stored: a tag read is begun
where the decision needs one, and the decision made otherwise (R160, R161). A report of presence false ends a tag
read under way (L23). -/
def State.reconReport (s : State) (i : BayIx) : State :=
  let b := s.bay i
  if b.presence = some true ∧ s.cust.reconCase = .warm ∧ wantsTag b.custody then
    if b.tagTries = 0 then
      (s.modBay i fun b => { b with tagTries := 1 }).place (.tag i true)
    else s
  else s.decide i none

/-! ### The beginning and the end of reconciliation -/

/-- A position as reconciliation begins: a BayLost notice for one up to the bay count found Absent, a mark and a STATUS
for one found Linked (R160). -/
def State.reconBay (s : State) (count : Nat) (i : BayIx) : State :=
  match (s.bay i).link with
  | .absent =>
    if bayNumber i ≤ count then
      s.raise .bayLost (bay := some i) (asset := (s.bay i).assetId) (reason := some .absent)
    else s
  | .linked => (s.modBay i fun b => { b with recon := .pending 0 }).place (.recon i)
  | .lost | .dark => s

/-- Reconciliation begins (R160). -/
def State.beginRecon (s : State) (c : RebuildCause) (count : Nat) : State :=
  let s := { s with
    cust := { s.cust with
      reconActive := true
      reconCase := if s.cust.coldNext then .cold else .warm
      reconCause := c
      coldNext := false } }
  allBays.foldl (fun s i => s.reconBay count i) s

/-- A bay waits to be decided. -/
def Bay.isPending (b : Bay) : Bool :=
  match b.recon with
  | .pending _ => true
  | .none | .deferred => false

/-- After a rebuild of cause Start or Settle the cart becomes Serving (R21, R165). -/
def State.leaveTransit (s : State) : State :=
  match s.cust.reconCause with
  | .start | .settle =>
    State.recomputePool
      (State.raise { s with power := { s.power with state := .serving } } .transitLeft)
  | .host | .auto => s

/-- The end of reconciliation (R165, R52, R151). -/
def State.endRecon (s : State) : State :=
  let s := { s with
    cust := { s.cust with reconActive := false }
    arb := { s.arb with held := false }
    round := { s.round with suspended := false, pending := true } }
  let s := s.leaveTransit.dispatch
  (allBays.foldl State.compareLamp s).autoCheck

/-- Reconciliation ends when no bay is pending (R160). -/
def State.reconCheck (s : State) : State :=
  if s.cust.reconActive && allBays.all fun i => !(s.bay i).isPending then s.endRecon else s

/-! ### Discovery (R147 to R149) -/

/-- A member beyond position m leaves the ready set (R92). -/
def State.leaveBeyond (s : State) (m : Nat) (i : BayIx) : State :=
  if m ≤ i.1 then s.leaveReady i (some .lost) else s

/-- A bay record at the end of a rebuild at position m: Linked up to m, Absent beyond, its time of loss cleared (R149,
R30). -/
def Bay.rediscovered (b : Bay) (found : Bool) : Bay :=
  if found then { b with link := .linked, lostAt := none }
  else
    { b with
      link := .absent, lostAt := none, overdrawCount := 0, applied := 0, commanded := 0
      outstanding := none }

/-! ### A pass of the scan (R144) -/

/-- The positions a pass takes: Linked or Lost, in ascending order (R144). -/
def State.scanned (s : State) : List BayIx :=
  allBays.filter fun i => (s.bay i).link = .linked || (s.bay i).link = .lost

/-- The scanner places the STATUS of a position (R144). -/
def State.scanPlace (s : State) (i : BayIx) (rest : List BayIx) : State :=
  State.place
    { s with
      loop := { s.loop with
        scan := { s.loop.scan with
          left := rest, position := some i, lastPlaced := s.now, outstanding := true } } }
    (.scan i)

/-- A pass starts: its positions and interval, and the STATUS of the first. A pass of none ends at once (R144). -/
def State.startPass (s : State) : State :=
  let bays := s.scanned
  let period := s.cfg .scanPeriod
  let s := { s with
    loop := { s.loop with
      scan := { s.loop.scan with
        passActive := true, passStart := s.now, period, interval := period / bays.length
        left := bays, position := none } } }
  match bays with
  | [] =>
    { s with
      loop := { s.loop with
        scan := { s.loop.scan with
          passActive := false, lastDuration := 0, nextStart := s.now + period } } }
  | i :: rest => s.scanPlace i rest

/-- The loop freed of its rebuild, and a fresh pass of the scanner (R149). -/
def State.freshPass (s : State) : State :=
  State.startPass
    { s with
      loop := { s.loop with
        rebuild := none
        scan := { s.loop.scan with running := true, outstanding := false } } }

/-! ### The end of a rebuild (R149) -/

/-- The end of a rebuild at position m: links, departures from the ready set in ascending bay number (L36), the notice,
the scanner's fresh pass, then reconciliation (R149). -/
def State.endRebuild (s : State) (m : Nat) : State :=
  match s.loop.rebuild with
  | none => s
  | some r =>
    let s := s.modBays fun i b => b.rediscovered (i.1 < m)
    let s := allBays.foldl (fun s i => s.leaveBeyond m i) s
    let s := s.dispatch
    let s := s.raise .loopRebuilt (bay := if r.surplus then bayOf? r.bayCount else none)
      (value := some (m * 256 + (r.bayCount - m))) (reason := some (.cause r.cause))
    s.freshPass.beginRecon r.cause r.bayCount

/-- The rebuild record changed. -/
def State.modRebuild (s : State) (f : Rebuild → Rebuild) : State :=
  { s with loop := { s.loop with rebuild := s.loop.rebuild.map f } }

/-- Discovery takes up a position with an IDENTIFY to address 0 (R147). -/
def State.discover (s : State) (p : BayIx) : State :=
  (s.modRebuild fun r => { r with phase := .discovering, position := p.1 + 1 }).send (.discIdentify p)

/-- The end of discovery's IDENTIFY: an OK answer with a serial, or none (R147 step 1). -/
def State.discIdentified (s : State) (p : BayIx) (serial : Option Serial) : State :=
  match serial with
  | none => s.endRebuild p.1
  | some n =>
    let kept := (s.bay p).serial
    let s := if kept.isSome ∧ kept ≠ some n then s.raise .nodeReplaced (bay := some p) else s
    (s.modBay p fun b => { b with serial := some n }).send (.discAssign p)

/-- The end of discovery's ASSIGN: answered OK or not (R147 step 2). -/
def State.discAssigned (s : State) (p : BayIx) (ok : Bool) : State :=
  if ok then
    ((s.modBay p fun b => { b with miss := 0 }).modRebuild fun r => { r with found := p.1 + 1 }).send
      (.discPass p)
  else s.send (.discReset p)

/-- The end of discovery's PASS close: answered OK or not (R147 step 3, R148). -/
def State.discPassed (s : State) (p : BayIx) (ok : Bool) : State :=
  match s.loop.rebuild with
  | none => s
  | some r =>
    if ok then
      if p.1 + 1 < r.bayCount then
        match bayOf? (p.1 + 2) with
        | some q => s.discover q
        | none => s.endRebuild (p.1 + 1)
      else (s.modRebuild fun r => { r with phase := .probing }).send (.probeIdentify p)
    else s.endRebuild (p.1 + 1)

/-- The end of the surplus probe: answered OK or not; a PASS open follows (R148). -/
def State.probed (s : State) (p : BayIx) (ok : Bool) : State :=
  (s.modRebuild fun r => { r with surplus := r.surplus || ok }).send (.probePass p)

end Sys2Proof.Machine
end

