-- ==== Sys2Proof/Machine/Settle.lean ====
section
/-! DEFINITION. The grant of pulse slots (R100) and what every event that may have moved bays, bolts or rounds ends
with. -/

namespace Sys2Proof.Machine

/-- The oldest eligible entry of the actuation queue (R100). -/
def State.eligibleEntry? (s : State) : Option (BayIx × Dir) :=
  s.arb.queue.find? fun e => (s.bay e.1).link = .linked

/-- An attempt of a pulse begins: a LOCK placed with the pulse length in force (R101). -/
def State.startAttempt (s : State) (k : PulseSlot) (p : Pulse) : State :=
  let ms := s.cfg .pulseLength
  (s.setSlot k (some { p with ms, busy := 0, phase := .sending none })).place (.lock k p.bay p.dir ms)

/-- A slot granted to the oldest eligible entry where the slot limit allows it; slot A where both are free (R100). -/
def State.grantSlot (s : State) : State :=
  if s.busySlots < s.slotLimit then
    match s.eligibleEntry? with
    | none => s
    | some e =>
      let k := if s.arb.slotA.isNone then PulseSlot.a else .b
      let s := { s with arb := { s.arb with queue := s.arb.queue.filter fun x => x.1 ≠ e.1 } }
      s.startAttempt k ⟨e.1, e.2, 1, 0, 0, .sending none⟩
  else s

/-- The grant evaluated: at most two slots (R100). -/
def State.grantSlots (s : State) : State := s.grantSlot.grantSlot

/-- What an event ends with: reconciliation ends when no bay is pending (R160), slots are granted (R100), a drain that
waits completes (R156), the round moves on (R37, R40), eligibility (R25) and the lamps (R75) are judged, and the output
lines follow (L35). -/
def State.settle (s : State) : State :=
  s.reconCheck.grantSlots.drainCheck.roundOn.judgeEligible.deriveLamps.lines

end Sys2Proof.Machine
end

