-- ==== Sys2Proof/Machine/LoopEnd.lean ====
section
/-! DEFINITION. How a transaction of the loop begins (R143), what its ending does to the link (R139 to R141), how a
STATUS is distributed (R143, R24, R44 to R46, R56), and what each client does with its ending. -/

namespace Sys2Proof.Machine

/-! ### The link (R140, R141) -/

/-- A link becomes Lost (R140, R57, R92, R160). -/
def State.linkLost (s : State) (i : BayIx) : State :=
  let s := s.modBay i fun b =>
    { b with
      link := .lost
      lostAt := some s.retained.seconds
      recon := if b.recon = .none then .none else .deferred }
  let s := s.raise .bayLost (bay := some i) (asset := (s.bay i).assetId) (reason := some .misses)
  (s.stopSeating i).leaveReady i (some .lost)

/-- A Lost link becomes Linked again (R141, R30): told to the blocks, of which the Session Scheduler evaluates dispatch and
the Bolt Pulse Arbiter the grant of a slot, before the answer is distributed (R106, R139). -/
def State.relink (s : State) (i : BayIx) : State :=
  (s.modBay i fun b => { b with link := .linked, miss := 0, lostAt := none, resync := true }).dispatch.grantSlots

/-- An addressed transaction to a bay ended as an answer (R140). -/
def State.heard (s : State) (i : BayIx) : State :=
  if (s.bay i).link = .lost then s.relink i else s.modBay i fun b => { b with miss := 0 }

/-- An addressed transaction to a bay ended NoAnswer (R140). -/
def State.missed (s : State) (i : BayIx) : State :=
  let b := s.bay i
  if b.miss < 3 then
    let s := s.modBay i fun b => { b with miss := b.miss + 1 }
    if b.miss = 2 ∧ b.link = .linked then s.linkLost i else s
  else s

/-! ### The charge part of a STATUS (R24, R44 to R46) -/

/-- The bound above which a measured power is over (R44). -/
def overBound (applied : Nat) : Nat := applied + max 3 (applied / 10)

/-- The Overdraw fault taken (R44, R45). -/
def State.takeOverdraw (s : State) (i : BayIx) (why : Reason) : State :=
  let s := s.modBay i fun b => { b with overdraw := true, overdrawCount := 0 }
  let s := s.faultGrant i
  let s := s.raise .bayOverdraw (bay := some i) (value := some (s.bay i).measured) (reason := some why)
  s.leaveReady i (some .fault)

/-- The overdraw test (R44). -/
def State.testOverdraw (s : State) (i : BayIx) : State :=
  let b := s.bay i
  if b.overdraw then s
  else if overBound b.applied < b.measured then
    if 2 ≤ b.overdrawCount then s.takeOverdraw i .overdraw
    else s.modBay i fun b => { b with overdrawCount := b.overdrawCount + 1 }
  else s.modBay i fun b => { b with overdrawCount := 0 }

/-- The short test (R45). -/
def State.testShort (s : State) (i : BayIx) : State :=
  if (s.bay i).short && !(s.bay i).overdraw then s.takeOverdraw i .short else s

/-- The Hot fault taken (R46). -/
def State.takeHot (s : State) (i : BayIx) : State :=
  let s := s.modBay i fun b => { b with hot := true }
  ((s.faultGrant i).raise .bayHot (bay := some i)).leaveReady i (some .fault)

/-- The time since a bay's last over-temperature report is 60 s or more (R46). -/
def State.cooled (s : State) (i : BayIx) : Bool :=
  match (s.bay i).hotTime with
  | some t => 60 ≤ (s.retained.seconds - t).toNat
  | none => true

/-- The over-temperature test (R46). -/
def State.testHot (s : State) (i : BayIx) : State :=
  let b := s.bay i
  if b.overTemp then
    let s := s.modBay i fun b => { b with hotTime := some s.retained.seconds }
    if b.hot then s else s.takeHot i
  else if b.hot && s.cooled i then (s.modBay i fun b => { b with hot := false }).markPending
  else s

/-- The negotiated maximum taken for one reported (R24). -/
def pnegTaken (n : Nat) : Nat := if n = 0 then 0 else min (max n 5) 45

/-- Steps 1 to 5 of R24, with the first STATUS of a bay that was Lost setting its commanded grant too (R30), also
while the allocator is suspended (L60) and while a GRANT for the bay is unsent, whose record stays (L78). -/
def State.storeCharge (s : State) (i : BayIx) (k : Block) : State :=
  let s := s.setGrants i k.limit (if (s.bay i).resync then k.limit else (s.bay i).commanded)
  s.modBay i fun b =>
    { b with
      resync := false
      soc := k.soc
      pneg := pnegTaken k.pneg
      measured := min k.measured 60
      overTemp := k.overTemp
      short := k.short }

/-- The charge part of a STATUS (R24). -/
def State.applyCharge (s : State) (i : BayIx) (k : Block) : State :=
  let changed := (s.bay i).soc != k.soc
  let s := s.storeCharge i k
  let s := ((s.testOverdraw i).testShort i).testHot i
  let s := s.refreshShare i
  if changed then s.dispatch else s

/-! ### The custody part of a STATUS and its distribution (R56, R143, R160) -/

/-- The custody part of a STATUS: stored, and judged unless the bay waits for reconciliation (R56, R160). The button
latch is taken after the presence and the bolt of the same report have been judged (L65); that of a bay that waits,
deferred or pending, is discarded (R160, L67). -/
def State.custodyReport (s : State) (i : BayIx) (k : Block) : State :=
  let s := s.modBay i fun b =>
    { b with presence := some k.presence, bolt := some k.bolt, gone := b.gone && !k.presence }
  if (s.bay i).recon = .none then (s.judge i k.presence k.bolt).buttonPress i k.latch
  else s.reconReport i

/-- A STATUS answered OK distributed (R143), and the lamp compared (R76). -/
def State.distribute (s : State) (i : BayIx) (k : Block) : State :=
  ((s.custodyReport i k).applyCharge i k).compareLamp i

/-! ### Endings told to the clients -/

/-- How a transaction ends. -/
inductive Ending
  | answer (a : Answer) | noAnswer | dropped
deriving DecidableEq, Repr

/-- The answer is OK. -/
def Ending.ok : Ending → Bool
  | .answer a => a.result = .ok
  | .noAnswer | .dropped => false

/-- The outstanding GRANT of a bay cleared at the end of its transaction, unless a later one waits unsent (R29). -/
def State.clearOutstanding (s : State) (i : BayIx) : State :=
  if s.unsentGrant i then s else s.modBay i fun b => { b with outstanding := none }

/-- A GRANT ended (R39). -/
def State.grantTold (s : State) (k : GrantKind) (i : BayIx) (e : Ending) : State :=
  let s : State := match e with
    | .answer a =>
      if a.result = .ok then s.setGrants i (a.byteAt 0).toNat (s.bay i).commanded else s
    | .noAnswer | .dropped => s
  (s.clearOutstanding i).grantEnded k i

/-- The end of a pulse: the slot freed, and the end reported (R105). -/
def State.endPulse (s : State) (k : PulseSlot) (p : Pulse) (ok : Bool) : State :=
  (s.setSlot k none).pulseReport p.bay p.dir ok

/-- The reason of a Jammed notice (R104). -/
def jamReason : Dir → Reason
  | .engage => .engage
  | .retract => .retract

/-- An attempt of a pulse failed (R104). -/
def State.attemptFailed (s : State) (k : PulseSlot) (p : Pulse) : State :=
  if p.attempt = 1 then s.setSlot k (some { p with phase := .cooldown (s.now + 1000) })
  else
    (s.raise .jammed (bay := some p.bay) (asset := (s.bay p.bay).assetId)
      (reason := some (jamReason p.dir))).endPulse k p false

/-- A LOCK ended (R101, R102). A Dropped end counts as a failed one (L17). -/
def State.lockTold (s : State) (k : PulseSlot) (ms : Nat) (e : Ending) : State :=
  match s.slot k with
  | none => s
  | some p =>
    match e with
    | .answer a =>
      match a.result with
      | .ok => s.setSlot k (some { p with phase := .travel (s.now + ms + 50) })
      | .busy =>
        if p.busy + 1 < 5 then
          s.setSlot k (some { p with busy := p.busy + 1, phase := .sending (some (s.now + 100)) })
        else s.attemptFailed k { p with busy := p.busy + 1 }
      | .badOp | .badArg | .noTag | .readOnly => s.attemptFailed k p
    | .noAnswer | .dropped => s.attemptFailed k p

/-- A bolt position verifies a direction (R103). -/
def verifies : Dir → Bolt → Bool
  | .engage, .engaged | .retract, .retracted => true
  | .engage, .retracted | .engage, .between | .retract, .engaged | .retract, .between => false

/-- A verification read ended (R103). -/
def State.verifyTold (s : State) (k : PulseSlot) (e : Ending) : State :=
  match s.slot k with
  | none => s
  | some p =>
    match e with
    | .answer a =>
      if a.result = .ok ∧ verifies p.dir a.block.bolt then s.endPulse k p true else s.attemptFailed k p
    | .noAnswer | .dropped => s.attemptFailed k p

/-- What a read of a tag gave: a nonzero ID, or none (R60). -/
def Answer.tagRead (a : Answer) : Option AssetId :=
  if a.result = .ok ∧ a.asset ≠ 0 then some a.asset else none

/-- The end of a read: identification ends (R61), or reconciliation decides the bay (R161). -/
def State.readEnds (s : State) (i : BayIx) (recon : Bool) (id : Option AssetId) : State :=
  if recon then s.decide i id else s.identified i id

/-- A TAG ended, its bay still waiting for it (R60, R160). -/
def State.tagTold (s : State) (i : BayIx) (recon : Bool) (e : Ending) : State :=
  match e with
  | .answer a =>
    match a.tagRead with
    | some id => s.readEnds i recon (some id)
    | none =>
      if (s.bay i).tagTries < 2 then
        s.modBay i fun b => { b with tagRetryDue := some (s.now + 1000) }
      else s.readEnds i recon none
  | .noAnswer => if (s.bay i).link = .linked then s.place (.tag i recon) else s
  | .dropped => s

/-- A TAG is no longer waited for: marked so while on the loop, or its bay is neither Seating nor waiting for
reconciliation (R60). -/
def State.tagUnwanted (s : State) (i : BayIx) (recon stale : Bool) : Bool :=
  stale || (s.bay i).tagTries = 0 ||
    (if recon then (s.bay i).recon = .none else (s.bay i).custody != .seating)

/-- A pass of the scan ends; the position stays that of its last bay (R144, L53). -/
def Scan.finish (c : Scan) (now : Nat) : Scan :=
  { c with
    passActive := false
    left := []
    lastDuration := now - c.passStart
    nextStart := max (c.passStart + c.period) now }

/-- A scan STATUS ended, however it ended (R144). -/
def State.scanTold (s : State) : State :=
  let c := { s.loop.scan with outstanding := false }
  { s with
    loop := { s.loop with scan := if c.passActive && c.left.isEmpty then c.finish s.now else c } }

/-- A reconciliation STATUS ended (R160). One that ended other than OK is placed again while its bay is pending, not where
the bay is decided or deferred, nor at the fault that defers it (L79). A bay deferred for its third protocol fault keeps
a tag read that is under way, which decides it at its end (L66). -/
def State.reconTold (s : State) (i : BayIx) (e : Ending) : State :=
  match (s.bay i).recon with
  | .none | .deferred => s
  | .pending n =>
    match e with
    | .answer a =>
      if a.result = .ok then s
      else if n + 1 < 3 then (s.modBay i fun b => { b with recon := .pending (n + 1) }).place (.recon i)
      else s.modBay i fun b => { b with recon := .deferred }
    | .noAnswer => if (s.bay i).link = .linked then s.place (.recon i) else s
    | .dropped => s

/-- A LAMP ended (R76). -/
def State.lampTold (s : State) (i : BayIx) (c : Colour) (e : Ending) : State :=
  match e with
  | .answer a =>
    if a.result = .ok then (s.modBay i fun b => { b with lampShown := some c }).compareLamp i
    else s.modBay i fun b => { b with lampShown := none }
  | .noAnswer => s.modBay i fun b => { b with lampShown := none }
  | .dropped => s

/-- A client told of its transaction's ending. -/
def State.told (s : State) (t : Txn) (stale : Bool) (e : Ending) : State :=
  match t with
  | .shed => s
  | .lock k _ _ ms => s.lockTold k ms e
  | .verify k _ => s.verifyTold k e
  | .grant k i _ => s.grantTold k i e
  | .tag i recon => if s.tagUnwanted i recon stale then s else s.tagTold i recon e
  | .scan _ => s.scanTold
  | .recon i => s.reconTold i e
  | .lamp i c => s.lampTold i c e
  | .discIdentify p =>
    s.discIdentified p (match e with
      | .answer a => if a.result = .ok then some a.serial else none
      | .noAnswer | .dropped => none)
  | .discAssign p => s.discAssigned p e.ok
  | .discReset p => s.endRebuild p.1
  | .discPass p => s.discPassed p e.ok
  | .probeIdentify p => s.probed p e.ok
  | .probePass p => s.endRebuild (p.1 + 1)

/-- The bay a client's transaction is addressed to; the Loop Master's own count for no bay (R147). -/
def Txn.bay? : Txn → Option BayIx
  | .lock _ i _ _ | .verify _ i | .grant _ i _ | .tag i _ | .scan i | .recon i | .lamp i _ => some i
  | .shed | .discIdentify _ | .discAssign _ | .discPass _ | .discReset _ | .probeIdentify _
  | .probePass _ => none

/-- The link change an ending makes (R140). -/
def State.linkOf (s : State) (t : Txn) (e : Ending) : State :=
  match t.bay? with
  | none => s
  | some i =>
    match e with
    | .answer _ => s.heard i
    | .noAnswer => s.missed i
    | .dropped => s

/-- The distribution an ending makes: of a STATUS answered OK (R143). -/
def State.shareOut (s : State) (t : Txn) (e : Ending) : State :=
  match t.bay?, e with
  | some i, .answer a => if t.opCode = 0x04 ∧ a.result = .ok then s.distribute i a.block else s
  | _, _ => s

/-- The end of a transaction: the link change, the distribution, then the client (R139, R143, L10). -/
def State.ended (s : State) (t : Txn) (stale : Bool) (e : Ending) : State :=
  ((s.linkOf t e).shareOut t e).told t stale e

/-- The loop becomes idle. -/
def State.idleLoop (s : State) : State := { s with loop := { s.loop with onLoop := none } }

/-- A valid response ends the transaction on the loop (R139). -/
def State.answered (s : State) (o : OnLoop) (a : Answer) : State :=
  (s.idleLoop.ended o.txn o.stale (.answer a)).settle

/-- A failed attempt: the command sent again, or the end NoAnswer at the third (R139). -/
def State.failedAttempt (s : State) (o : OnLoop) : State :=
  if o.attempt < 3 then
    { s with
      loop := { s.loop with
        onLoop := some { o with attempt := o.attempt + 1, waitDue := s.now + 3 }
        lastFrame := o.txn.frame } }
  else (s.idleLoop.ended o.txn o.stale .noAnswer).settle

/-! ### The loop scheduler (R143) -/

/-- The front of the highest class queue that holds one. -/
def frontTxn (l : List Txn) : Option Txn := l.find? fun t => l.all fun u => t.rank ≤ u.rank

/-- The position a transaction is addressed to is Linked or Lost (R143). -/
def State.mayAddress (s : State) (t : Txn) : Bool :=
  match t.bay? with
  | some i => (s.bay i).link = .linked || (s.bay i).link = .lost
  | none => true

/-- The loop scheduler takes the next transaction, those addressed to an Absent or Dark position ending Dropped on the
way (R143). The fuel bounds how many are taken. -/
def State.beginNext (s : State) : Nat → State
  | 0 => s
  | n + 1 =>
    match frontTxn s.loop.queued with
    | none => s
    | some t =>
      if t = .shed && !s.loop.power then s
      else
        let s := { s with loop := { s.loop with queued := s.loop.queued.erase t } }
        if s.mayAddress t then s.send t else State.beginNext (s.ended t false .dropped) n

end Sys2Proof.Machine
end

