-- ==== Sys2Proof/Machine/Inlet.lean ====
section
/-! DEFINITION. The Inlet Monitor: samples (R1 to R4), the temperature (R5), the trim audit (R12, R13), strikes and the
latch (R14 to R16). -/

namespace Sys2Proof.Machine

/-! ### Temperature (R5) -/

/-- A reading taken as a sensor fault (R5). -/
def badReading (t : Int) : Bool := t < -20 || 100 < t

/-- The Tc taken for a reading (R5). -/
def tcOf (t : Int) : Int := if badReading t then 55 else t

/-- A temperature reading (R5). -/
def State.takeTemperature (s : State) (t : Int) : State :=
  let bad := badReading t
  let tc := tcOf t
  let d := deratingOf tc
  let old := s.inlet.derate
  let began := bad && !s.inlet.sensorFault
  let s := { s with inlet := { s.inlet with tc, derate := d, sensorFault := bad } }
  let s := if began then s.raise .thermalCutoff (value := some 55) (reason := some .sensorFault) else s
  let s := if (old == 0) != (d == 0) then s.raise .derating (value := some d) else s
  let s :=
    if d = 100 ∧ old < 100 ∧ !bad then
      s.raise .thermalCutoff (value := some tc.toNat) (reason := some .temperature)
    else s
  if d = old then s else s.recomputePool

/-! ### Voltage (R1 to R3) -/

/-- A sample enters a ring of eight (R1, R4). -/
def pushRing (l : List Nat) (v : Nat) : List Nat := (if l.length < 8 then l else l.tail) ++ [v]

/-- The brownout test (R3). -/
def State.brownoutTest (s : State) : State :=
  match s.inlet.cond with
  | .normal =>
    if s.vin < 90 then
      let s := { s with inlet := { s.inlet with cond := .brownout } }
      (s.raise .brownout (value := some s.vin)).recomputePool
    else s
  | .brownout =>
    if 90 ≤ s.vin then State.recomputePool { s with inlet := { s.inlet with cond := .normal } } else s
  | .lost => s

/-- A dropout sample: the condition Lost, handed to the Power Supervisor (R2). One that ends Brownout recomputes the pool
for the condition first, and then, with the power state moved, for the power state (R7, L68). -/
def State.dropoutSample (s : State) : State :=
  let was := s.inlet.cond
  let s := { s with inlet := { s.inlet with cond := .lost, restoreCount := 0 } }
  let s := if was = .brownout then s.recomputePool else s
  s.dropout

/-- The inlet restored (R2). -/
def State.restored (s : State) : State :=
  State.restoration
    { s with
      inlet := { s.inlet with
        cond := .normal
        restoreCount := 0
        voltRing := s.inlet.voltRing.drop (s.inlet.voltRing.length - 2) } }

/-- A voltage sample judged in the range it falls into (R2, R3). -/
def State.judgeVoltage (s : State) (v : Nat) : State :=
  if v < 70 then s.dropoutSample
  else if v < 90 then
    State.brownoutTest { s with inlet := { s.inlet with restoreCount := 0 } }
  else
    match s.inlet.cond with
    | .lost =>
      if 1 ≤ s.inlet.restoreCount then s.restored
      else { s with inlet := { s.inlet with restoreCount := s.inlet.restoreCount + 1 } }
    | .normal | .brownout => s.brownoutTest

/-- A voltage sample (R1). -/
def State.takeVoltage (s : State) (volts : Nat) : State :=
  let v := min volts 300
  State.judgeVoltage
    { s with inlet := { s.inlet with voltRing := pushRing s.inlet.voltRing v } } v

/-! ### Current, strikes and the latch (R4, R14 to R16) -/

/-- The strike threshold in 0.01 A (R14). -/
def State.strikeThreshold (s : State) : Nat := s.cfg .irate * 11

/-- The inlet-fault latch set at the third strike of the record (R16). -/
def State.latchCheck (s : State) : State :=
  if 3 ≤ s.inlet.strikes.length ∧ !s.inlet.latch then
    let s := { s with inlet := { s.inlet with latch := true } }
    s.recomputePool.raise .inletFaultLatched (value := some s.inlet.strikes.length)
  else s

/-- A strike, with the third high sample (R15, R16). Its 600 s run on the model's clock from the strike, not on the
seconds counter (L54). The latch, with its recomputation of the pool, follows the emergency shed (L74). -/
def State.strike (s : State) (a : Nat) : State :=
  let s := { s with
    inlet := { s.inlet with
      highCount := 0
      strikes := s.inlet.strikes ++ [(⟨s.retained.seconds, s.now + 600000⟩ : Strike)]
      holdoffDue := some (s.now + 10000) } }
  ((s.raise .inletOverdraw (value := some a)).emergencyShed).latchCheck

/-- A current sample, limited to its range, judged by the overcurrent test (R4, R14). -/
def State.takeCurrent (s : State) (amps : Nat) : State :=
  let a := min amps 2000
  let s := { s with inlet := { s.inlet with currRing := pushRing s.inlet.currRing a } }
  if s.strikeThreshold < a then
    if 2 ≤ s.inlet.highCount then s.strike a
    else { s with inlet := { s.inlet with highCount := s.inlet.highCount + 1 } }
  else { s with inlet := { s.inlet with highCount := 0 } }

/-- The sample of every 100 ms: voltage, then current (R1, R4, L12). -/
def State.sample (s : State) (volts amps : Nat) : State :=
  let s := s.reach s.inlet.sampleDue
  let s := { s with inlet := { s.inlet with sampleDue := s.inlet.sampleDue + 100 } }
  ((s.takeVoltage volts).takeCurrent amps).settle

/-! ### The trim audit (R12, R13) -/

/-- The audit is made at this expiry (R12). -/
def State.auditMade (s : State) : Bool :=
  s.power.state = .serving && (s.round.state = .idle || s.round.state = .holdoff) &&
    s.busySlots = 0 && s.round.lastGrantChange + 1000 ≤ s.now

/-- The measured power of every Linked bay (R13). -/
def State.measuredSum (s : State) : Nat :=
  (allBays.map fun i => if (s.bay i).link = .linked then (s.bay i).measured else 0).sum

/-- The difference the audit finds (R13). -/
def State.auditDelta (s : State) : Int :=
  ((s.vin * s.iin / 100 * s.cfg .efficiency / 100 : Nat) : Int) - (s.measuredSum + s.cfg .pfix : Nat)

/-- The trim after an audit (R13). -/
def trimAfter (trim delta : Int) : Int :=
  if 12 < delta then min (trim + 8) 80 else if delta < -12 then max (trim - 8) (-40) else trim

/-- An audit (R13). -/
def State.audit (s : State) : State :=
  let new := trimAfter s.inlet.trim s.auditDelta
  if new = s.inlet.trim then s
  else State.recomputePool { s with inlet := { s.inlet with trim := new } }

end Sys2Proof.Machine
end

