-- ==== Sys2Proof/Machine/Starts.lean ====
section
/-! DEFINITION. The starts (R193, R194): what they keep (R192), the loading of the settings image (R191), and the start
values of every block. -/

namespace Sys2Proof.Machine

/-- The outputs at their start values: loop power off, no join, ready line deasserted, attention line released, and a
reply being sent stopped where it stands (R193 step 1, R194). -/
def State.outputsOff (s : State) : State :=
  { s with
    loop := { s.loop with power := false, offSince := if s.loop.power then s.now else s.loop.offSince }
    sess := { s.sess with channels := s.sess.channels.map fun ch => { ch with join := none } }
    link := { s.link with ready := false, tx := none }
    notices := { s.notices with attention := false } }

/-- The settings of an image, a value outside its range taken as R189 states (R191, L27). -/
def loadSettings (c : Settings) : Settings :=
  Config.allSettings.foldl (fun d i => d.set i (settingTaken i (c.get i))) c

/-- A channel configuration of an image, brought into its ranges (R112, R191). -/
def loadChan (c : ChanCfg) : ChanCfg :=
  { c with size := sizeTaken c.size, base := baseTaken c.base (sizeTaken c.size) }

/-- The notice levels of an image: the fixed kinds at 7, a level above 7 taken as 7 (R183, R191). -/
def loadLevels (l : Levels) : Levels :=
  Config.allKinds.foldl
    (fun m k => m.set k (if Config.fixedLevel k then 7 else min (l.get k) 7)) l

/-- What a start loads: from the image whose check word holds, or the defaults (R191). -/
def loaded (image : Option SettingsImage) : SettingsImage :=
  match image with
  | some m => ⟨loadSettings m.settings, m.channels.map loadChan, loadLevels m.levels⟩
  | none =>
    ⟨.defaults, ⟨#[ChanCfg.dflt 0, ChanCfg.dflt 1, ChanCfg.dflt 2, ChanCfg.dflt 3], rfl⟩, .defaults⟩

/-- The cause of a start (R193). -/
def causeOf (valid restart : Bool) : StartCause :=
  if !valid then .cold else if restart then .warmRestart else .warmPin

/-- The bay record after a warm start: what Retained Memory keeps, and start values (R77, R192). -/
def Bay.warm (b : Bay) (now : Nat) : Bay :=
  { Bay.start with
    custody := b.custody
    admission := b.admission
    assetId := b.assetId
    standing := b.standing
    release := (b.shelve now).release }

/-- Retained Memory at a start: its cold values where it is invalid (R192). The rest of the state is not read
again. -/
def State.recall (s : State) (c : StartCause) : State :=
  match c with
  | .cold =>
    { s with
      bays := Vector.replicate 36 .start
      cust := { s.cust with roster := [], grace := true }
      inlet := { s.inlet with trim := 0, latch := false }
      retained := { s.retained with seconds := 0, valid := true } }
  | .warmPin | .warmRestart => { s with bays := s.bays.map fun b => b.warm s.now }

/-- The silence timer at a limit (R178). -/
def silenceFrom (now limit : Nat) : Option Nat := if limit = 0 then none else some (now + limit * 1000)

/-- Step 4 of a start: each block at its start values, the settings loaded (R23, R53, R77, R110, R132, R153, R180,
R188, R193). -/
def State.blocksAtStart (s : State) (c : StartCause) (fromImage : Bool) (m : SettingsImage) : State :=
  { s with
    resetHeld := false
    inlet := { Inlet.start with
      trim := s.inlet.trim, latch := s.inlet.latch
      sampleDue := s.now + 100, tempDue := s.now + 1000, auditDue := s.now + 4000 }
    pool := { Pool.start with recomputeDue := s.now + 1000 }
    power := Power.start
    round := { Round.start with lastGrantChange := s.now }
    cust := { CustodyUnit.start with
      roster := s.cust.roster, grace := s.cust.grace, coldNext := c == .cold }
    arb := Arbiter.start
    sess := { queue := [], channels := m.channels.map Channel.idle, nextId := 1 }
    loop := { Loop.start with
      offSince := s.now, bayCount := m.settings.get .bayCount, checkDue := s.now + 1000 }
    link := { HostLink.start with clear := s.link.clear, silenceDue := none, cause := c, fromImage }
    notices := { Notices.start with queue := [], levels := m.levels, attention := false }
    settings := m.settings
    retained := { s.retained with
      valid := true, lowEpisode := false, secondDue := s.now + 1000, holdupDue := s.now + 1000 } }

/-- The end of one recorded session at a Warm-restart (R132). -/
def State.sayReset (s : State) (x : Session) : State :=
  (s.modBay x.bay fun b => { b with lastOutcome := some (.reset, x.id) }).raise .sessionEnded
    (bay := some x.bay) (asset := (s.bay x.bay).assetId) (session := some x.id)
    (value := some (match x.channel with | some c => c.1 + 1 | none => 0))
    (reason := some (.outcome .reset))

/-- Steps 3 and 4 of a start: the settings loaded from the image whose check word holds, or the defaults, and each
block at its start values (R191, R193). -/
def State.loadBlocks (s : State) (c : StartCause) : State :=
  s.blocksAtStart c s.image.isSome (loaded s.image)

/-- The Started notice (R188, R193). -/
def State.sayStarted (s : State) (c : StartCause) : State :=
  s.raise .started (value := some (startCode c))
    (reason := some (if s.image.isSome then .storeLoaded else .storeDefaults))

/-- The ends of the sessions recorded at a Warm-restart (R132). -/
def State.sayResets (s : State) (c : StartCause) (recorded : List Session) : State :=
  if c = .warmRestart then recorded.foldl State.sayReset s else s

/-- The host link taken into service: the ready line asserted, the host-silence timer started (R178, R180). -/
def State.openLink (s : State) : State :=
  { s with link := { s.link with ready := true, silenceDue := silenceFrom s.now (s.cfg .silence) } }

/-- A start (R193): `restart` where the Restart reply has been sent, `t` the first temperature reading (L32). -/
def State.start (s : State) (restart : Bool) (t : Int) : State :=
  let c := causeOf s.retained.valid restart
  (((((s.outputsOff.recall c).loadBlocks c).sayStarted c).sayResets c s.sess.queue).openLink.takeTemperature
    t).lines

/-- A start at power-on: Retained Memory is valid where it was and the holdup cell kept it (R192, L8). -/
def State.powerOn (s : State) (kept : Bool) (t : Int) : State :=
  State.start { s with retained := { s.retained with valid := s.retained.valid && kept } } false t

end Sys2Proof.Machine
end

