-- ==== Sys2Proof/Machine/InletCommands.lean ====
section
/-! DEFINITION. The commands of chapters 1 and 2 that no request makes: samples, strikes, the pool, the power timers and
the beginning of a round. -/

namespace Sys2Proof.Machine

/-- The end of a timer or of a period: nothing where it does not run, otherwise the effect at its moment (L2). -/
def State.atDue (s : State) (due : Option Nat) (f : State → State) : State :=
  match due with
  | some d => f (s.reach d)
  | none => s

/-- VOLTAGE_SAMPLE (R1 to R4, R14). -/
def execVoltageSample (volts amps : Nat) (s : State) : Out := live s (s.sample volts amps)

/-- A sample of these volts restores the inlet (R2). -/
def State.wouldRestore (s : State) (volts : Nat) : Bool :=
  s.inlet.cond = .lost && s.inlet.restoreCount = 1 && 90 ≤ volts

/-- INLET_RESTORED: the sample at which the restore count reaches 2 (R2, L3). -/
def execInletRestored (volts amps : Nat) (s : State) : Out :=
  live s (if s.wouldRestore volts then s.sample volts amps else s)

/-- A sample of this current is a strike (R14). -/
def State.wouldStrike (s : State) (amps : Nat) : Bool :=
  s.inlet.highCount = 2 && s.strikeThreshold < min amps 2000

/-- STRIKE: the sample at which the count of high samples reaches 3 (R14, R15, L3). -/
def execStrike (volts amps : Nat) (s : State) : Out :=
  live s (if s.wouldStrike amps then s.sample volts amps else s)

/-- STRIKE_AGE_OUT: the oldest strike leaves the record 600 s after its time (R15). -/
def execStrikeAgeOut (s : State) : Out :=
  live s (s.atDue (s.inlet.strikes.head?.map (·.due)) fun s =>
    { s with inlet := { s.inlet with strikes := s.inlet.strikes.tail } })

/-- The strike hold-off has run out: a round state of Holdoff becomes Idle (R43). -/
def State.holdoffEnds (s : State) : State :=
  { s with
    inlet := { s.inlet with holdoffDue := none }
    round := { s.round with state := if s.round.state = .holdoff then .idle else s.round.state } }

/-- STRIKE_HOLDOFF_EXPIRY (R15, R43). -/
def execStrikeHoldoffExpiry (s : State) : Out := live s (s.atDue s.inlet.holdoffDue State.holdoffEnds)

/-- TEMPERATURE_READING (R5). -/
def execTemperatureReading (t : Int) (s : State) : Out :=
  live s (s.atDue (some s.inlet.tempDue) fun s =>
    (State.takeTemperature
      { s with inlet := { s.inlet with tempDue := s.inlet.tempDue + 1000 } } t).settle)

/-- POOL_RECOMPUTE: the recomputation of every second (R7). -/
def execPoolRecompute (s : State) : Out :=
  live s (s.atDue (some s.pool.recomputeDue) fun s =>
    (State.recomputePool
      { s with pool := { s.pool with recomputeDue := s.pool.recomputeDue + 1000 } }).settle)

/-- TRIM_AUDIT: the audit made, or skipped at this expiry (R12, R13). -/
def execTrimAudit (s : State) : Out :=
  live s (s.atDue (some s.inlet.auditDue) fun s =>
    let s := { s with inlet := { s.inlet with auditDue := s.inlet.auditDue + 4000 } }
    if s.auditMade then s.audit.settle else s)

/-- RIDE_THROUGH_EXPIRY (R19). -/
def execRideThroughExpiry (s : State) : Out :=
  live s (s.atDue s.power.rideDue fun s => s.rideOut.settle)

/-- DRAIN_LIMIT_EXPIRY (R157). -/
def execDrainLimitExpiry (s : State) : Out :=
  live s (s.atDue (s.power.drain.map (·.due)) fun s => s.endDrain.settle)

/-- SETTLE_EXPIRY: the rebuild of cause Start or Settle begins (R21, R145). -/
def execSettleExpiry (s : State) : Out :=
  live s (s.atDue s.power.settleDue fun s =>
    (State.startRebuild { s with power := { s.power with settleDue := none } }
      s.power.settleCause).settle)

/-- When a round begins, where all else that it waits for holds (R35). -/
def State.roundDue (s : State) : Option Nat :=
  if s.round.pending ∧ s.round.state = .idle ∧ s.power.state = .serving ∧ !s.round.suspended then
    some (if s.round.atOnce then s.now else
      match s.round.lastEnd with
      | some e => e + s.cfg .spacing * 1000
      | none => s.now)
  else none

/-- ROUND_BEGIN (R35, R36). -/
def execRoundBegin (s : State) : Out := live s (s.atDue s.roundDue fun s => s.beginRound.settle)

end Sys2Proof.Machine
end

