-- ==== Sys2Proof/Machine/LoopCommands.lean ====
section
/-! DEFINITION. The commands of the bay loop (chapter 7): transactions that begin and end, the ticks of the scan and of
the rebuild. -/

namespace Sys2Proof.Machine

/-! ### Transactions -/

/-- LOOP_TRANSACTION_BEGIN: on an idle loop that no rebuild holds, the loop scheduler takes the next transaction
(R143). -/
def execLoopTransactionBegin (s : State) : Out :=
  live s (if s.loop.onLoop.isNone && !s.loopHeld && !s.loop.queued.isEmpty then
    (s.beginNext s.loop.queued.length).settle
  else s)

/-- The waiting placement of the highest class, the earliest among those, takes a place that is free, and its client's
placements kept back follow (R142). -/
def Loop.takePlace (l : Loop) : Loop :=
  match frontTxn l.waiting with
  | some t =>
    if l.queued.length < 64 then
      Loop.reflow { l with queued := l.queued ++ [t], waiting := l.waiting.erase t }
    else l
  | none => l

/-- PLACEMENT_APPENDED (R142). -/
def execPlacementAppended (s : State) : Out := live s { s with loop := s.loop.takePlace }

/-- The addressed transaction on the loop, which waits for a response (R139). -/
def State.awaited (s : State) : Option OnLoop := s.loop.onLoop.filter fun o => o.txn.address ≠ 63

/-- RESPONSE_WAIT_EXPIRY: a failed attempt (R139). -/
def execResponseWaitExpiry (s : State) : Out :=
  live s (match s.awaited with
    | some o => (s.reach o.waitDue).failedAttempt o
    | none => s)

/-- A failed attempt of this transaction makes a link Lost (R140). -/
def State.wouldLose (s : State) (o : OnLoop) : Bool :=
  o.attempt = 3 && match o.txn.bay? with
    | some i => (s.bay i).miss = 2 && (s.bay i).link = .linked
    | none => false

/-- LINK_LOST: the wait that expires at the third attempt of a transaction whose NoAnswer makes the link Lost (R140,
L3). -/
def execLinkLost (s : State) : Out :=
  live s (match s.awaited with
    | some o => if s.wouldLose o then (s.reach o.waitDue).failedAttempt o else s
    | none => s)

/-- A valid response to the transaction on the loop, of this op (R136, R138). -/
def State.onAnswer (s : State) (op : Nat) (resp : List Byte) : State :=
  match s.awaited with
  | some o =>
    if o.txn.opCode = op then
      match answer? o.txn resp with
      | some a => s.answered o a
      | none => s
    else s
  | none => s

/-- STATUS (R143). The event finds the service keyswitch at this level (L31). -/
def execStatus (resp : List Byte) (key : Bool) (s : State) : Out :=
  live s (State.onAnswer { s with keyswitch := key } 0x04 resp)

/-- A valid STATUS answer at which an overdraw count reaches 3 (R44). -/
def State.wouldOverdraw (s : State) (resp : List Byte) : Bool :=
  match s.awaited with
  | some o =>
    match o.txn.bay?, answer? o.txn resp with
    | some i, some a =>
      o.txn.opCode = 0x04 && a.result == .ok && !(s.bay i).overdraw && (s.bay i).overdrawCount = 2 &&
        overBound a.block.limit < min a.block.measured 60
    | _, _ => false
  | none => false

/-- OVERDRAW_FAULT: the STATUS answer at which a bay's overdraw count reaches 3 (R44, L3). -/
def execOverdrawFault (resp : List Byte) (key : Bool) (s : State) : Out :=
  live s (if s.wouldOverdraw resp then State.onAnswer { s with keyswitch := key } 0x04 resp else s)

/-- GRANT (R39). -/
def execGrant (resp : List Byte) (s : State) : Out := live s (s.onAnswer 0x06 resp)

/-- TAG (R60). -/
def execTag (resp : List Byte) (s : State) : Out := live s (s.onAnswer 0x05 resp)

/-- LOCK (R101, R102). -/
def execLock (resp : List Byte) (s : State) : Out := live s (s.onAnswer 0x07 resp)

/-- LAMP (R76). -/
def execLamp (resp : List Byte) (s : State) : Out := live s (s.onAnswer 0x08 resp)

/-- IDENTIFY (R147, R148). -/
def execIdentify (resp : List Byte) (s : State) : Out := live s (s.onAnswer 0x01 resp)

/-- ASSIGN (R147). -/
def execAssign (resp : List Byte) (s : State) : Out := live s (s.onAnswer 0x02 resp)

/-- PASS (R147, R148). -/
def execPass (resp : List Byte) (s : State) : Out := live s (s.onAnswer 0x03 resp)

/-- NODERESET (R147). -/
def execNodereset (resp : List Byte) (s : State) : Out := live s (s.onAnswer 0x0A resp)

/-- SHED: the last byte of the broadcast has been sent, which ends it (R42, R139). -/
def execShed (s : State) : Out :=
  live s (match s.loop.onLoop with
    | some o => if o.txn = .shed then s.idleLoop else s
    | none => s)

/-- RESPONSE_NOT_VALID: a failed attempt (R136, R139). -/
def execResponseNotValid (resp : List Byte) (s : State) : Out :=
  live s (match s.awaited with
    | some o => if (answer? o.txn resp).isNone then s.failedAttempt o else s
    | none => s)

/-! ### The scan (R144) -/

/-- SCAN_PASS_START (R144). -/
def execScanPassStart (s : State) : Out :=
  live s (if s.loop.scan.running && !s.loop.scan.passActive && !s.loopHeld then
    s.atDue (some s.loop.scan.nextStart) State.startPass
  else s)

/-- The next position of the pass, those Absent or Dark passed over; the pass ends where none is left (R144). -/
def State.scanNext (s : State) : State :=
  match s.loop.scan.left.dropWhile fun i => !((s.bay i).link = .linked || (s.bay i).link = .lost) with
  | [] => { s with loop := { s.loop with scan := s.loop.scan.finish s.now } }
  | i :: rest => s.scanPlace i rest

/-- SCAN_STATUS_PLACE (R144). -/
def execScanStatusPlace (s : State) : Out :=
  live s (if s.loop.scan.running && s.loop.scan.passActive && !s.loop.scan.outstanding then
    s.atDue (some (s.loop.scan.lastPlaced + s.loop.scan.interval)) State.scanNext
  else s)

/-! ### The rebuild (R145 to R152) -/

/-- The rebuild in a phase. -/
def State.rebuildIn (s : State) (p : RebuildPhase) : Option Rebuild := s.loop.rebuild.filter (·.phase = p)

/-- REBUILD_POWER_OFF_END: the loop power has been off for 500 ms (R146). -/
def execRebuildPowerOffEnd (s : State) : Out :=
  live s (match s.rebuildIn .powerOff with
    | some r => (s.reach r.due).powerUp r
    | none => s)

/-- REBUILD_BOOT_END: discovery begins at position 1 (R146). -/
def execRebuildBootEnd (s : State) : Out :=
  live s (match s.rebuildIn .booting with
    | some r => (s.reach r.due).discover 0
    | none => s)

/-- AUTO_REBUILD_CHECK: the check of every second (R152, L33). -/
def execAutoRebuildCheck (s : State) : Out :=
  live s (s.atDue (some s.loop.checkDue) fun s =>
    (State.autoCheck { s with loop := { s.loop with checkDue := s.loop.checkDue + 1000 } }).settle)

end Sys2Proof.Machine
end

