-- ==== Sys2Proof/Machine/TimerCommands.lean ====
section
/-! DEFINITION. The timers of pulses (chapter 5), custody (chapters 3 and 4), sessions (chapter 6), the host link (R178)
and Retained Memory (R192). -/

namespace Sys2Proof.Machine

/-! ### Pulses -/

/-- The pulse of a slot with the end of the timer of its phase, where it runs one. -/
def Pulse.travelDue (p : Pulse) : Option Nat :=
  match p.phase with
  | .travel due => some due
  | .sending _ | .checking | .cooldown _ => none

/-- The end of the wait before a LOCK is placed again. -/
def Pulse.busyDue (p : Pulse) : Option Nat :=
  match p.phase with
  | .sending due => due
  | .travel _ | .checking | .cooldown _ => none

/-- The end of the cool-down. -/
def Pulse.coolDue (p : Pulse) : Option Nat :=
  match p.phase with
  | .cooldown due => some due
  | .sending _ | .travel _ | .checking => none

/-- An event of the pulse in a slot, at the end of the timer of its phase. -/
def State.pulseTimer (s : State) (k : PulseSlot) (due : Pulse → Option Nat)
    (f : State → Pulse → State) : State :=
  match s.slot k with
  | some p => s.atDue (due p) fun s => f s p
  | none => s

/-- TRAVEL_WAIT_EXPIRY: the verification read is placed (R103). -/
def execTravelWaitExpiry (k : PulseSlot) (s : State) : Out :=
  live s (s.pulseTimer k Pulse.travelDue fun s p =>
    (s.setSlot k (some { p with phase := .checking })).place (.verify k p.bay))

/-- BUSY_RETRY_EXPIRY: the same LOCK is placed again (R102). -/
def execBusyRetryExpiry (k : PulseSlot) (s : State) : Out :=
  live s (s.pulseTimer k Pulse.busyDue fun s p =>
    (s.setSlot k (some { p with phase := .sending none })).place (.lock k p.bay p.dir p.ms))

/-- COOLDOWN_EXPIRY: the second attempt begins (R104). -/
def execCooldownExpiry (k : PulseSlot) (s : State) : Out :=
  live s (s.pulseTimer k Pulse.coolDue fun s p => s.startAttempt k { p with attempt := 2 })

/-! ### Custody -/

/-- SEAT_SETTLE_EXPIRY: the first tag attempt begins (R59, R60). -/
def execSeatSettleExpiry (i : BayIx) (s : State) : Out :=
  live s (s.atDue (s.bay i).seatDue fun s =>
    (s.modBay i fun b => { b with seatDue := none, tagTries := 1 }).place (.tag i false))

/-- TAG_RETRY_DELAY_EXPIRY: the second tag attempt is placed (R60, R160). -/
def execTagRetryDelayExpiry (i : BayIx) (s : State) : Out :=
  live s (s.atDue (s.bay i).tagRetryDue fun s =>
    (s.modBay i fun b => { b with tagRetryDue := none, tagTries := b.tagTries + 1 }).place
      (.tag i ((s.bay i).recon != .none)))

/-- REFUSED_DISPLAY_END: the display of a refused local release ends (R75). -/
def execRefusedDisplayEnd (i : BayIx) (s : State) : Out :=
  live s (s.atDue (s.bay i).displayDue fun s =>
    (s.modBay i fun b => { b with displayDue := none }).settle)

/-- The end of a bay's window, while it runs (R87). -/
def State.windowDue (s : State) (i : BayIx) : Option Nat :=
  match (s.bay i).custody, (s.bay i).release with
  | .released, some r =>
    match r.window with
    | .running due => some due
    | .notStarted | .stopped _ => none
  | _, _ => none

/-- RELEASE_WINDOW_EXPIRY (R87). -/
def execReleaseWindowExpiry (i : BayIx) (s : State) : Out :=
  live s (s.atDue (s.windowDue i) fun s => (s.windowEnds i).settle)

/-! ### Sessions -/

/-- The end of the timer of a session in a state. -/
def State.sessionDue (s : State) (id : Nat) (st : SessState) : Option Nat :=
  match s.session? id with
  | some x => if x.state = st then x.due else none
  | none => none

/-- LINK_TIMER_EXPIRY (R122). -/
def execLinkTimerExpiry (id : Nat) (s : State) : Out :=
  live s (s.atDue (s.sessionDue id .linking) fun s => (s.endSession id .linkTimeout).settle)

/-- IDLE_TIMER_EXPIRY (R123). -/
def execIdleTimerExpiry (id : Nat) (s : State) : Out :=
  live s (s.atDue (s.sessionDue id .active) fun s => (s.endSession id .expired).settle)

/-- The outcome of a session at the end of its drain settle (R124). -/
def State.drainOutcome (s : State) (id : Nat) : SessOutcome :=
  if (s.session? id).bind (·.result) = some true then .completed else .failed

/-- DRAIN_SETTLE_EXPIRY (R124). -/
def execDrainSettleExpiry (id : Nat) (s : State) : Out :=
  live s (s.atDue (s.sessionDue id .draining) fun s => (s.endSession id (s.drainOutcome id)).settle)

/-! ### Host silence and Retained Memory -/

/-- The cart becomes standalone (R179, R130). -/
def State.goStandalone (s : State) : State :=
  let s := { s with link := { s.link with silenceDue := none, standalone := true } }
  (s.raise .standalone (value := some (s.cfg .silence))).endSessionsIn (· == .queued) .withdrawn

/-- HOST_SILENCE_EXPIRY (R178, R179). -/
def execHostSilenceExpiry (s : State) : Out :=
  live s (s.atDue s.link.silenceDue fun s => s.goStandalone.lines)

/-- A reading of the holdup cell (R192). -/
def State.senseHoldup (s : State) (charge : Nat) : State :=
  if charge < 20 ∧ !s.retained.lowEpisode then
    State.raise { s with retained := { s.retained with lowEpisode := true } } .holdupLow
      (value := some charge)
  else if 30 ≤ charge then { s with retained := { s.retained with lowEpisode := false } }
  else s

/-- HOLDUP_SENSE (R192). -/
def execHoldupSense (charge : Nat) (s : State) : Out :=
  live s (s.atDue (some s.retained.holdupDue) fun s =>
    (State.senseHoldup
      { s with retained := { s.retained with holdupDue := s.retained.holdupDue + 1000 } }
      charge).lines)

/-- SECONDS_TICK: the seconds counter advances, wrapping (R192). -/
def execSecondsTick (s : State) : Out :=
  live s (s.atDue (some s.retained.secondDue) fun s =>
    { s with
      retained := { s.retained with
        seconds := s.retained.seconds + 1, secondDue := s.retained.secondDue + 1000 } })

end Sys2Proof.Machine
end

