-- ==== Sys2Proof/Machine/LineCommands.lean ====
section
/-! DEFINITION. The host line (R166 to R171) and the commands that start the part (R193, R194). -/

namespace Sys2Proof.Machine

/-! ### The frame receiver (R169) -/

/-- A byte that starts more than 20 ms after the previous one first discards a frame in progress. The gap is in
microseconds (L28). -/
def RxState.gapped (r : RxState) (gap : Nat) : RxState := if 20000 < gap then .hunting else r

/-- The body that a checksum byte completes. -/
def checked (body : List Byte) (b : Byte) : Bool := byteSum (byte body.length :: body) + b = 0

/-- The receiver after a byte (R169). -/
def RxState.next (r : RxState) (b : Byte) : RxState :=
  match r with
  | .hunting => if b = startByte then .length else .hunting
  | .length => if 2 ≤ b.toNat ∧ b.toNat ≤ 250 then .body b.toNat [] else .hunting
  | .body n got => if got.length + 1 = n then .checksum (got ++ [b]) else .body n (got ++ [b])
  | .checksum _ => .hunting

/-- The body of the frame that a byte completes, where it completes one (R169). -/
def RxState.frame? (r : RxState) (b : Byte) : Option (List Byte) :=
  match r with
  | .checksum got => if checked got b then some got else none
  | .hunting | .length | .body _ _ => none

/-- A frame arrives: it takes a free slot, restarts the host-silence timer and clears the standalone flag; with both
slots full it is discarded (R170, R178, R179). -/
def State.arrive (s : State) (body : List Byte) : State :=
  if s.link.buffer.length < 2 then
    { s with
      link := { s.link with
        buffer := s.link.buffer ++
          [{ tag := body.getD 0 0, kind := body.getD 1 0, payload := body.drop 2
             standalone := s.link.standalone, arrived := s.now }]
        silenceDue := silenceFrom s.now (s.cfg .silence)
        standalone := false } }
  else s

/-- A byte taken by the frame receiver (R169). -/
def State.receive (s : State) (b : Byte) (gap : Nat) : State :=
  let r := s.link.rx.gapped gap
  let s := { s with link := { s.link with rx := r.next b } }
  match r.frame? b with
  | some body => (s.arrive body).lines
  | none => s

/-- BYTE_RECEIVED (R166, R169). -/
def execByteReceived (b : Byte) (gap : Nat) (s : State) : Out := live s (s.receive b gap)

/-- FRAME_ARRIVAL: the checksum byte that completes a frame (R170, L3). -/
def execFrameArrival (b : Byte) (gap : Nat) (s : State) : Out :=
  live s (if ((s.link.rx.gapped gap).frame? b).isSome then s.receive b gap else s)

/-- LINE_ERROR: a frame in progress is discarded (R166, R169). -/
def execLineError (s : State) : Out := live s { s with link := { s.link with rx := .hunting } }

/-! ### Replies sent (R168, R170, R187, R194) -/

/-- How many bytes of a reply have been begun once the clear line has moved: when it is deasserted, those begun till
then; when it is asserted, the byte that waited too, where one did: none waits while the byte begun before is still
being sent (R168, L28). -/
def Tx.atClear (x : Tx) (level : Bool) (begun : Nat) : Tx :=
  if level then { x with begun := min (max x.begun (min begun (x.begun + 1))) x.bytes.length }
  else { x with begun := max x.begun (min begun x.bytes.length) }

/-- CLEAR_LINE_CHANGE (R168). While the reset pin is held low a change is not taken, and the start keeps the level last
taken (L28, L41). -/
def execClearLineChange (level : Bool) (begun : Nat) (s : State) : Out :=
  live s (if s.link.clear = level then s else
    { s with
      link := { s.link with clear := level, tx := s.link.tx.map fun x => x.atClear level begun } })

/-- The last byte of a reply has been sent: its slot is freed, a Fetch hold ends, a Restart's start begins (R170, R187,
R194). -/
def State.replyGone (s : State) (x : Tx) (t : Int) : State :=
  let s := { s with link := { s.link with tx := none, buffer := s.link.buffer.tail } }
  match x.after with
  | .nothing => s.lines
  | .fetch => State.lines { s with notices := { s.notices with fetchHold := false } }
  | .restart => s.start true t

/-- The reply whose last byte can be sent: the clear line is asserted, or its last byte has been begun (R168). -/
def State.sendable (s : State) : Option Tx :=
  s.link.tx.filter fun x => s.link.clear || x.begun = x.bytes.length

/-- REPLY_SENT. A Restart's start takes its first temperature reading t (R193, L32). -/
def execReplySent (t : Int) (s : State) : Out :=
  live s (match s.sendable with
    | some x => s.replyGone x t
    | none => s)

/-! ### Starts (R193, R194) -/

/-- POWER_ON: the logic supply comes; `kept` says the holdup cell kept Retained Memory (R192, R193). -/
def execPowerOn (kept : Bool) (t : Int) (s : State) : Out := .next (s.powerOn kept t)

/-- RESET_PIN_ASSERT: the part stays at step 1 of a start (R194). A running window stops with the time remaining that
it has at this moment (R78, L47). -/
def execResetPinAssert (s : State) : Out :=
  live s { s.outputsOff with resetHeld := true, bays := s.bays.map fun b => b.halt s.now }

/-- RESET_PIN_RELEASE: the start proceeds from step 2 (R194). -/
def execResetPinRelease (t : Int) (s : State) : Out :=
  .next (if s.resetHeld then s.start false t else s)

end Sys2Proof.Machine
end

