-- ==== Sys2Proof/Machine/Requests.lean ====
section
/-! DEFINITION. The taking of a request and the forming of its reply (R171, R172), and the requests that only report:
Identify, Cart Status, Bay Status, Bay Summary, Pool Status. Layouts the spec does not spell out are those of L25. -/

namespace Sys2Proof.Machine

/-- The frame to be taken next: the oldest, while no reply is being formed or waiting to be sent (R171). -/
def State.head? (s : State) : Option RxFrame := if s.link.tx.isNone then s.link.buffer.head? else none

/-- The frame to be taken next, where its kind is this one. -/
def State.asked (s : State) (kind : Nat) : Option RxFrame := s.head?.filter (·.kind.toNat = kind)

/-- A reply formed (R172). Its first byte is begun where the clear line allows (R168). -/
def State.reply (s : State) (f : RxFrame) (r : Result) (payload : List Byte)
    (after : AfterReply := .nothing) : State :=
  { s with
    link := { s.link with
      tx := some ⟨replyBytes f.tag f.kind r payload, if s.link.clear then 1 else 0, after⟩ } }

/-- A request of a kind taken: its length checked, then handed to its owner (R171, L4). -/
def State.request (s : State) (kind : Nat) (act : State → RxFrame → State) : Out :=
  live s (match s.asked kind with
    | some f =>
      if payloadLength? kind = some f.payload.length then act s f else s.reply f .badLength []
    | none => s)

/-- UNKNOWN_KIND: the frame to be taken is of no kind of the catalogue (R171). -/
def execUnknownKind (s : State) : Out :=
  live s (match s.head? with
    | some f => if (payloadLength? f.kind.toNat).isNone then s.reply f .unknownKind [] else s
    | none => s)

/-- A code that may be none, and whose every value is a code. -/
def optCode {α : Type} (v : Option α) (code : α → Nat) : List Byte :=
  optField 1 (v.map fun x => [byte (code x)])

/-! ### Identify (R175) -/

/-- The payload of Identify (chapter 12, Central Reply Payloads). -/
def State.identifyPayload (s : State) (f : RxFrame) : List Byte :=
  be2 Config.productCode ++ [Config.firmwareMajor, Config.firmwareMinor, byte (startCode s.link.cause),
    flag !s.link.fromImage] ++ be4 s.retained.seconds ++
  [byte s.loop.bayCount, flag f.standalone]

/-- IDENTIFY_REQUEST (R175). -/
def execIdentifyRequest (s : State) : Out :=
  s.request 0x01 fun s f => s.reply f .done (s.identifyPayload f)

/-! ### Cart Status (R176) -/

/-- How many elements of a list satisfy a test. -/
def count {α : Type} (p : α → Bool) (l : List α) : Nat := (l.filter p).length

/-- A drain record or none: kind, stage, time remaining. -/
def State.drainBytes (s : State) : List Byte :=
  optField 4 (s.power.drain.map fun d =>
    [byte (drainCode d.kind), byte d.stage] ++ be2 (s.secondsLeft d.due))

/-- A rebuild record or none: phase, cause, position reached. -/
def State.rebuildBytes (s : State) : List Byte :=
  optField 3 (s.loop.rebuild.map fun r =>
    [byte (rebuildPhaseCode r.phase), byte (causeCode r.cause), byte r.position])

/-- A slot free, or its bay, direction, attempt and phase. -/
def slotBytes (p : Option Pulse) : List Byte :=
  optField 4 (p.map fun x =>
    [byte (bayNumber x.bay), byte (dirCode x.dir), byte x.attempt, byte (phaseCode x.phase)])

/-- The seconds remaining on the host-silence timer, counted from the arrival of the frame that asks (R176, L39). -/
def State.silenceBytes (s : State) (f : RxFrame) : List Byte :=
  optField 2 (s.link.silenceDue.map fun _ =>
    be2 ((s.cfg .silence * 1000 - (s.now - f.arrived)) / 1000))

/-- The payload of Cart Status, in the order of the table of R176; the duration of the last scan pass takes two bytes,
modulo 65536 (L25). -/
def State.cartPayload (s : State) (f : RxFrame) : List Byte :=
  byte (powerCode s.power.state) :: s.drainBytes ++
  flag s.loop.power :: s.rebuildBytes ++
  bayByte s.loop.scan.position :: be2 s.loop.scan.lastDuration ++
  ((List.range 7).map fun r => byte (count (fun t => t.rank == r) s.loop.queued)) ++
  [byte s.loop.waiting.length,
    byte (count (fun i => (s.bay i).isPending) allBays),
    byte (count (fun i => (s.bay i).recon == .deferred) allBays),
    flag s.cust.grace, flag s.keyswitch, byte s.cust.readySet.length,
    byte s.arb.queue.length, byte s.slotLimit] ++
  slotBytes s.arb.slotA ++ slotBytes s.arb.slotB ++
  byte s.sess.queue.length ::
  (allChans.flatMap fun c => [byte (chanCode (s.chan c).state), byte ((s.chan c).session.getD 0)]) ++
  [byte (roundCode s.round.state), flag s.round.pending, flag f.standalone] ++
  be2 (s.cfg .silence) ++ s.silenceBytes f ++
  byte s.notices.queue.length :: be4 s.retained.seconds

/-- CART_STATUS (R176). The event finds the service keyswitch at this level (L31). -/
def execCartStatus (key : Bool) (s : State) : Out :=
  s.request 0x02 fun s f =>
    let s := { s with keyswitch := key }
    s.reply f .done (s.cartPayload f)

/-! ### Bay Status and Bay Summary (R177) -/

/-- The charge part (R24). -/
def chargeBytes (b : Bay) : List Byte :=
  [match b.soc with | some q => byte q | none => 0xFF,
    byte b.pneg, byte b.applied, byte b.commanded, byte b.measured, flag b.overTemp, flag b.short,
    byte b.share.cap, byte b.share.floor, byte b.share.tier] ++
  optField 3 (b.kept.map fun k => [byte k.cap, byte k.floor, byte k.tier]) ++
  [flag b.overdraw, byte b.overdrawCount, flag b.hot] ++ optField 4 (b.hotTime.map be4) ++
  [flag b.chargeOn, flag (eligibleNow b), byte (counted b)]

/-- The Held reason of a custody state, 0 where it has none (L76). -/
def heldOf : Custody → Nat
  | .held r => heldCode r
  | .vacant | .seating | .securing | .locked | .releasing | .released | .clearing | .jammed _ _ => 0

/-- The Jammed record of a custody state: direction, origin and the origin's Held reason. -/
def jamOf : Custody → Option (List Byte)
  | .jammed d o => some [byte (dirCode d), byte (originCode o).1, byte (originCode o).2]
  | .vacant | .seating | .securing | .locked | .releasing | .released | .clearing | .held _ => none

/-- Whether a Seating bay's settle (0) or its tag read (1) is running (R54). A bay whose seating is stopped runs
neither, and 1 is sent (L49). -/
def seatingOf (b : Bay) : Option (List Byte) :=
  if b.custody = .seating then some [flag b.seatDue.isNone] else none

/-- The window of a release record, and its time remaining where it has one (R78). -/
def State.windowBytes (s : State) (w : WindowClock) : List Byte :=
  match w with
  | .notStarted => byte 0 :: optField 2 none
  | .running due => byte 1 :: optField 2 (some (be2 (s.secondsLeft due)))
  | .stopped left => byte 2 :: optField 2 (some (be2 (left / 1000)))

/-- The release record (R78). -/
def State.releaseBytes (s : State) (r : Release) : List Byte :=
  [byte r.length] ++ s.windowBytes r.window ++
  holderBytes r.holder ++
  [byte (match r.origin with | .host => 0 | .button => 1), flag r.cancel, flag r.late]

/-- The link state Bay Status reports: Absent for a bay above the bay count in force, whatever its position had before
(R177, L25). -/
def State.linkReported (s : State) (i : BayIx) : LinkState :=
  if s.loop.bayCount < bayNumber i then .absent else (s.bay i).link

/-- The custody fields (R54) and the release record (R78). Presence and bolt position are unknown where the link reported
is not Linked (R57, R177). The release window of R54 is that of the record: it is sent once, within the record, which
stands after the other custody fields (L25). -/
def State.custodyBytes (s : State) (i : BayIx) : List Byte :=
  let b := s.bay i
  let seen := s.linkReported i = .linked
  [byte (custodyCode b.custody), byte (heldOf b.custody)] ++ optField 3 (jamOf b.custody) ++
  flag b.admission :: assetBytes b.assetId ++ optCode b.standing standingCode ++
  optField 1 (if seen then b.presence.map fun p => [flag p] else none) ++
  optCode (if seen then b.bolt else none) boltCode ++ optField 1 (seatingOf b) ++
  flag (s.member i) :: optCode b.lampShown colourCode ++
  optField 12 (b.release.map s.releaseBytes)

/-- The code of a pulse slot. -/
def slotCode : PulseSlot → Nat
  | .a => 0
  | .b => 1

/-- The standing of a bay's pulse (R110): the standing, direction, position, slot, attempt and phase. The position and
the attempt count from 1 and are 0 where they do not apply; the others have a presence byte. -/
def pulseBytes (x : PulseStanding) : List Byte :=
  let fields := fun (st : Nat) (d : Option Dir) (position : Nat) (k : Option PulseSlot) (attempt : Nat)
      (phase : Option Phase) =>
    byte st :: optCode d dirCode ++ byte position :: optCode k slotCode ++ byte attempt ::
      optCode phase phaseCode
  match x with
  | .none => fields 0 none 0 none 0 none
  | .queued d n => fields 1 (some d) n none 0 none
  | .inFlight k p => fields 2 (some p.dir) 0 (some k) p.attempt (some p.phase)

/-- The session reference, 0 for none (R195), and the last session outcome with its session ID (R131). An outcome of none
is sent as 0, with no presence byte (L76). -/
def State.sessionBytes (s : State) (i : BayIx) : List Byte :=
  [byte (match s.sessionOf? i with | some x => x.id | none => 0),
    byte (match (s.bay i).lastOutcome with | some o => outcomeCode o.1 | none => 0),
    byte (match (s.bay i).lastOutcome with | some o => o.2 | none => 0)]

/-- The payload of Bay Status, in the order of the list of R177 (L25). -/
def State.bayPayload (s : State) (i : BayIx) : List Byte :=
  chargeBytes (s.bay i) ++ s.custodyBytes i ++ pulseBytes (s.standing i) ++ s.sessionBytes i ++
  [byte (linkCode (s.linkReported i)), byte (s.bay i).miss]

/-- BAY_STATUS (R177). -/
def execBayStatus (s : State) : Out :=
  s.request 0x03 fun s f =>
    match bayOf? (payByte f.payload 0) with
    | some i => s.reply f .done (s.bayPayload i)
    | none => s.reply f .noBay []

/-- The Jammed direction of a custody state. -/
def jamDir? : Custody → Option Dir
  | .jammed d _ => some d
  | .vacant | .seating | .securing | .locked | .releasing | .released | .clearing | .held _ => none

/-- One record of Bay Summary, each field as its owner has it, the link state too (R177, L25). -/
def State.summaryBytes (s : State) (i : BayIx) : List Byte :=
  let b := s.bay i
  [byte (linkCode b.link), byte (custodyCode b.custody), byte (heldOf b.custody)] ++
  optCode (jamDir? b.custody) dirCode ++ optCode b.standing standingCode ++
  [match b.soc with | some q => byte q | none => 0xFF,
    byte b.applied, byte b.share.tier, flag b.overdraw, flag b.hot, flag b.chargeOn,
    flag (s.member i)] ++
  optCode ((s.sessionOf? i).map (·.state)) sessCode ++ optCode b.lampShown colourCode

/-- BAY_SUMMARY (R177). -/
def execBaySummary (s : State) : Out :=
  s.request 0x04 fun s f =>
    match bayOf? (payByte f.payload 0) with
    | some i =>
      let bays := (allBays.drop i.1).take 12
      s.reply f .done
        ([flag (i.1 + 12 < 36), byte bays.length] ++ bays.flatMap s.summaryBytes)
    | none => s.reply f .noBay []

/-! ### Pool Status (R11) -/

/-- The payload of Pool Status (chapter 12, Central Reply Payloads). The one byte of the number of strikes carries it
modulo 256 (L50). -/
def State.poolPayload (s : State) : List Byte :=
  be2 s.pool.inForce ++ be2 s.pool.atLast ++ be2 s.vin ++ be2 s.iin ++
  [byte s.inlet.voltRing.length, byte s.inlet.currRing.length, sbyte s.inlet.tc, byte s.inlet.derate,
    sbyte s.inlet.trim] ++ be2 (s.cfg .qcap) ++
  [byte (condCode s.inlet.cond), byte s.inlet.strikes.length,
    byte (match s.inlet.holdoffDue with | some d => s.secondsLeft d | none => 0),
    byte ((if s.inlet.sensorFault then 1 else 0) + (if s.pool.quiet then 2 else 0) +
      (if s.inlet.latch then 4 else 0))]

/-- POOL_STATUS (R11). -/
def execPoolStatus (s : State) : Out := s.request 0x05 fun s f => s.reply f .done s.poolPayload

end Sys2Proof.Machine
end

