-- ==== Sys2Proof/Machine/SettingRequests.lean ====
section
/-! DEFINITION. The requests of the Settings Store, the quiet flag and the Notice Queue (R9, R183, R186, R189 to R191),
and Restart (R194). -/

namespace Sys2Proof.Machine

/-! ### Set Setting and Get Setting (R189, R190) -/

/-- What a change of a numbered setting does at once (R189, last column). -/
def State.settingActs (s : State) (i : SettingId) : State :=
  match i with
  | .irate | .headroom | .efficiency | .pfix | .ppulse | .qcap => s.recomputePool
  | .pport | .fsess => s.refreshShares
  | .silence =>
    { s with link := { s.link with silenceDue := silenceFrom s.now (s.cfg .silence) } }
  | .autoRebuild | .rebuildHoldoff => s.autoCheck
  | .rideThrough | .drainLimit | .settle | .batch | .spacing | .seatSettle | .foreignPolicy
  | .wrongHomePolicy | .window | .bestMin | .readyThreshold | .pulseLength | .linkTimer
  | .drainSettle | .bayCount | .scanPeriod | .attention => s

/-- A value becomes the live value of a numbered setting, with its effect where it is a change (R189, R190). -/
def State.putSetting (s : State) (i : SettingId) (v : Nat) : State :=
  if s.cfg i = v then s else State.settingActs { s with settings := s.settings.set i v } i

/-- The channel and field of a channel setting's number (R189). -/
def chanSetting? (n : Nat) : Option (ChanIx × Nat) :=
  if 0x40 ≤ n ∧ n < 0x50 then some (⟨(n - 0x40) / 4 % 4, Nat.mod_lt _ (by decide)⟩, (n - 0x40) % 4)
  else none

/-- Set Setting of a numbered setting (R190). -/
def State.setNumbered (s : State) (f : RxFrame) (i : SettingId) (v : Nat) : State :=
  if Config.enumerated i && 1 < v then s.reply f .badValue []
  else
    let taken := settingTaken i v
    ((s.putSetting i taken).reply f (if taken = v then .done else .clamped)
      (byte (Config.settingRow i).number :: be2 taken)).settle

/-- Set Setting of a channel field (R112, R113, R190). -/
def State.setChannel (s : State) (f : RxFrame) (c : ChanIx) (field v : Nat) : State :=
  let old := (s.chan c).wanted
  match changeChan? old field v with
  | none => s.reply f .badValue []
  | some new =>
    let kept := chanField new field = v ∧ (field = 2 → new.base = old.base)
    ((s.configure c new).reply f (if kept then .done else .clamped)
      (byte (0x40 + 4 * c.1 + field) :: be2 (chanField new field))).settle

/-- SET_SETTING (R190). -/
def execSetSetting (s : State) : Out :=
  s.request 0x10 fun s f =>
    let n := payByte f.payload 0
    let v := payNat f.payload 1 2
    match settingOf? n, chanSetting? n with
    | some i, _ => s.setNumbered f i v
    | none, some (c, field) => s.setChannel f c field v
    | none, none => s.reply f .badValue []

/-- GET_SETTING (R190, L25). -/
def execGetSetting (s : State) : Out :=
  s.request 0x11 fun s f =>
    let n := payByte f.payload 0
    match settingOf? n, chanSetting? n with
    | some i, _ =>
      s.reply f .done (be2 (s.cfg i) ++ if i = .bayCount then be2 s.loop.bayCount else [])
    | none, some (c, field) =>
      s.reply f .done (be2 (chanField (s.chan c).cfg field) ++
        optField 2 ((s.chan c).pendingCfg.map fun p => be2 (chanField p field)))
    | none, none => s.reply f .badValue []

/-! ### Save Settings (R191) -/

/-- The image Save Settings writes: the pending value of a channel field that has one (R191). -/
def State.imageNow (s : State) : SettingsImage :=
  ⟨s.settings, s.sess.channels.map Channel.wanted, s.notices.levels⟩

/-- SAVE_SETTINGS: with what the store did with the write (R191, L8). -/
def execSaveSettings (w : StoreWrite) (s : State) : Out :=
  s.request 0x12 fun s f =>
    match w with
    | .taken => State.reply { s with image := some s.imageNow } f .done []
    | .failed left => State.reply { s with image := left } f .faulted []

/-! ### Set Quiet (R9) -/

/-- SET_QUIET (R9). -/
def execSetQuiet (s : State) : Out :=
  s.request 0x13 fun s f =>
    match payFlag f.payload 0 with
    | none => s.reply f .badValue []
    | some on =>
      ((State.recomputePool { s with pool := { s.pool with quiet := on } }).reply f .done []).settle

/-! ### Restart (R194) -/

/-- RESTART: answered Done; the start follows the last byte of the reply (R194). -/
def execRestart (s : State) : Out := s.request 0x53 fun s f => s.reply f .done [] .restart

/-! ### Fetch Notices and Set Notice Level (R183, R185, R186) -/

/-- The notices a Fetch takes, and what it leaves: the oldest records removed, the overflow flag cleared, the hold begun
(R186, R187). -/
def Notices.fetch (n : Notices) (k : Nat) : Notices :=
  { n with queue := n.queue.drop k, overflow := false, fetchHold := true }

/-- The payload of Fetch Notices (R186). -/
def Notices.fetchPayload (n : Notices) (k : Nat) : List Byte :=
  [byte ((if n.overflow then 1 else 0) + (if k < n.queue.length then 2 else 0)),
    byte (min k n.queue.length)] ++ (n.queue.take k).flatMap noticeBytes

/-- FETCH_NOTICES (R186). -/
def execFetchNotices (s : State) : Out :=
  s.request 0x60 fun s f =>
    let n := payByte f.payload 0
    let k := min (max n 1) 8
    (State.reply { s with notices := s.notices.fetch k } f (if k = n then .done else .clamped)
      (s.notices.fetchPayload k) .fetch).lines

/-- SET_NOTICE_LEVEL (R183). -/
def execSetNoticeLevel (s : State) : Out :=
  s.request 0x61 fun s f =>
    match kindOf? (payByte f.payload 0) with
    | none => s.reply f .badValue []
    | some k =>
      let asked := payByte f.payload 1
      let v := min asked 7
      if Config.fixedLevel k && v != 7 then s.reply f .wrongState []
      else
        State.reply
          { s with notices := { s.notices with levels := s.notices.levels.set k v } } f
          (if v = asked then .done else .clamped) [byte (Config.kindRow k).1, byte v]

end Sys2Proof.Machine
end

