-- ==== Sys2Proof/Machine/CustodyRequests.lean ====
section
/-! DEFINITION. The requests of the Custody Unit: the roster (R70 to R74), releases (R79 to R84, R89), Admit Bay (R67,
R68) and the ready set (R91 to R93). -/

namespace Sys2Proof.Machine

/-! ### The roster -/

/-- The asset ID of a payload. -/
def payAsset (p : List Byte) (k : Nat) : AssetId := BitVec.ofNat 64 (payNat p k 8)

/-- The custody states in which a Foreign bay may be adopted (R72). -/
def adoptableIn : Custody → Bool
  | .securing | .locked | .releasing | .released | .held .unknown => true
  | .vacant | .seating | .clearing | .jammed _ _ | .held .noTag | .held .wrongHome
  | .held .duplicate | .held .swapped => false

/-- The bay that a Roster Put adopts (R72). -/
def State.adoptable? (s : State) (a : AssetId) : Option BayIx :=
  allBays.find? fun i =>
    (s.bay i).assetId = some a && (s.bay i).standing = some .foreign && adoptableIn (s.bay i).custody

/-- A new entry appended, adopting a bay or none (R72). -/
def State.addEntry (s : State) (a : AssetId) (home bay : Option BayIx) : State :=
  let st := match bay with | some i => EntryState.docked i | none => .unknown
  let s := { s with
    cust := { s.cust with
      roster := s.cust.roster ++ [⟨a, home, st, none, none⟩], grace := false } }
  match bay with
  | some i => s.modBay i fun b => { b with standing := some .docked }
  | none => s

/-- Roster Put of an ID already in the roster (R72). -/
def State.rehome (s : State) (a : AssetId) (home : Option BayIx) : State :=
  let s := s.mapRoster fun e => if e.asset = a then { e with home } else e
  { s with cust := { s.cust with grace := false } }

/-- ROSTER_PUT (R71, R72). The reply for an ID already in the roster names no bay adopted (L56). -/
def execRosterPut (s : State) : Out :=
  s.request 0x20 fun s f =>
    let a := payAsset f.payload 0
    let h := payByte f.payload 8
    if a = 0 ∨ 36 < h then s.reply f .badValue []
    else if (s.entry? a).isSome then (s.rehome a (bayOf? h)).reply f .done [0]
    else if 64 ≤ s.cust.roster.length then s.reply f .full []
    else
      let bay := s.adoptable? a
      (s.addEntry a (bayOf? h) bay).reply f .done [bayByte bay]

/-- An entry removed; the bays that hold its ID stand Foreign (R73). -/
def State.dropEntry (s : State) (a : AssetId) : State :=
  let s := { s with cust := { s.cust with roster := s.cust.roster.filter (·.asset ≠ a) } }
  s.modBays fun _ b => if b.assetId = some a then { b with standing := some .foreign } else b

/-- ROSTER_DROP (R71, R73). -/
def execRosterDrop (s : State) : Out :=
  s.request 0x21 fun s f =>
    let a := payAsset f.payload 0
    if a = 0 then s.reply f .badValue []
    else if (s.entry? a).isNone then s.reply f .unknown []
    else (s.dropEntry a).reply f .done []

/-- The bytes of a roster entry (R74, L25). -/
def entryBytes (e : Entry) : List Byte :=
  be8 e.asset ++
  [bayByte e.home, byte (entryCode e.state),
    match e.state with | .docked b => byte (bayNumber b) | .out | .missing | .unknown => 0] ++
  holderBytes e.holder ++ optField 4 (e.outSince.map be4)

/-- ROSTER_GET (R71, R74). -/
def execRosterGet (s : State) : Out :=
  s.request 0x22 fun s f =>
    let a := payAsset f.payload 0
    if a = 0 then s.reply f .badValue []
    else match s.entry? a with
      | some e =>
        s.reply f .done (entryBytes e ++ [byte (s.cust.roster.findIdx (·.asset = a))])
      | none => s.reply f .unknown []

/-- ROSTER_LIST (R74). -/
def execRosterList (s : State) : Out :=
  s.request 0x23 fun s f =>
    let k := payByte f.payload 0
    s.reply f .done
      (byte s.cust.roster.length :: ((s.cust.roster.drop k).take 8).flatMap entryBytes ++
        [flag (k + 8 < s.cust.roster.length)])

/-! ### Releases -/

/-- The window a release takes for the one asked for (R79). -/
def State.windowTaken (s : State) (w : Nat) : Nat := if w = 0 then s.cfg .window else min (max w 5) 120

/-- The window was clamped (R79). -/
def windowClamped (w : Nat) : Bool := w != 0 && (w < 5 || 120 < w)

/-- A release accepted and answered; a drain of kind Rebuild then deals with it (R82, R156). -/
def State.grantRelease (s : State) (f : RxFrame) (i : BayIx) (w : Nat) (holder : Option Badge) : State :=
  let window := s.windowTaken w
  let s := s.acceptRelease i window holder .host
  let reached := (s.bay i).custody
  let result : Result :=
    if windowClamped w then .clamped else if reached = .releasing then .accepted else .done
  ((s.reply f result [byte (bayNumber i), byte window, byte (custodyCode reached)]).drainMind i).settle

/-- The checks of R80 on a bay number, and the release where they pass. -/
def State.releaseNumber (s : State) (f : RxFrame) (n w : Nat) (holder : Option Badge) (force : Bool) :
    State :=
  match s.bayNamed? n with
  | none => s.reply f .noBay []
  | some i =>
    match s.releaseRefusal? i force with
    | some r => s.reply f r []
    | none => s.grantRelease f i w holder

/-- RELEASE_BAY (R80, R82). -/
def execReleaseBay (s : State) : Out :=
  s.request 0x30 fun s f =>
    let p := f.payload
    match payFlag p 6 with
    | none => s.reply f .badValue []
    | some force => s.releaseNumber f (payByte p 0) (payByte p 1) (payHolder p 2) force

/-- RELEASE_ASSET (R81, R82). -/
def execReleaseAsset (s : State) : Out :=
  s.request 0x31 fun s f =>
    let p := f.payload
    let a := payAsset p 0
    match payFlag p 13 with
    | none => s.reply f .badValue []
    | some force =>
      if a = 0 then s.reply f .badValue []
      else if (s.entry? a).isNone then s.reply f .unknown []
      else match s.dockedBay? a with
        | none => s.reply f .noBay []
        | some i => s.releaseNumber f (bayNumber i) (payByte p 8) (payHolder p 9) force

/-- A candidate for Release Best (R83), whether or not it lies within the bay count in force (L62). -/
def State.bestCandidate (s : State) (i : BayIx) : Bool :=
  let b := s.bay i
  b.custody = .locked && b.link = .linked && !s.sessionBay i && b.standing = some .docked &&
    !b.overdraw && !b.hot

/-- The choice of Release Best (R83). -/
def State.chooseBest (s : State) : Option BayIx :=
  let all := sortByKey s.readyKey (allBays.filter s.bestCandidate)
  match all.find? s.member with
  | some i => some i
  | none => all.find? fun i => s.cfg .bestMin ≤ (s.bay i).soc.getD 0

/-- RELEASE_BEST (R83, R84). -/
def execReleaseBest (s : State) : Out :=
  s.request 0x32 fun s f =>
    let p := f.payload
    match payFlag p 5 with
    | none => s.reply f .badValue []
    | some _ =>
      if s.power.state ≠ .serving then s.reply f .transit []
      else match s.chooseBest with
        | none => s.reply f .noneReady []
        | some i => s.grantRelease f i (payByte p 0) (payHolder p 1)

/-- A release cancelled (R89). -/
def State.cancelRelease (s : State) (i : BayIx) : State :=
  match (s.bay i).custody with
  | .releasing =>
    match s.standing i with
    | .queued _ _ => (s.askBolt i .engage).become i .locked
    | .none | .inFlight _ _ =>
      s.modBay i fun b => { b with release := b.release.map fun r => { r with cancel := true } }
  | _ => (s.dropRelease i).secureBay i

/-- The checks of Cancel Release (R89). -/
def State.cancelRefusal? (s : State) (i : BayIx) : Option Result :=
  if s.power.state ≠ .serving then some .transit
  else match (s.bay i).custody with
    | .releasing | .released => none
    | .vacant | .seating | .securing | .locked | .clearing | .held _ | .jammed _ _ => some .wrongState

/-- CANCEL_RELEASE (R89). -/
def execCancelRelease (s : State) : Out :=
  s.request 0x33 fun s f =>
    match s.bayNamed? (payByte f.payload 0) with
    | none => s.reply f .noBay []
    | some i =>
      match s.cancelRefusal? i with
      | some r => s.reply f r []
      | none => ((s.cancelRelease i).reply f .done []).settle

/-! ### Admit Bay -/

/-- The asset of a bay is Docked in another bay. -/
def State.dockedAway (s : State) (i : BayIx) : Bool :=
  match (s.bay i).assetId with
  | some a => match s.dockedBay? a with | some j => j != i | none => false
  | none => false

/-- The checks of Admit Bay (R68). -/
def State.admitRefusal? (s : State) (i : BayIx) : Option Result :=
  if s.power.state ≠ .serving then some .transit
  else if (s.bay i).link ≠ .linked then some .lost
  else match (s.bay i).custody with
    | .held _ => if s.dockedAway i then some .duplicate else none
    | .vacant | .seating | .securing | .locked | .releasing | .released | .clearing | .jammed _ _ =>
      some .wrongState

/-- A Held bay admitted (R67, R68). -/
def State.admitBay (s : State) (i : BayIx) : State :=
  let a := (s.bay i).assetId
  let s := match a.bind s.entry? with
    | some e => (s.setAsset i a (some .docked)).dockEntry e.asset i
    | none => s.setAsset i a (some .foreign)
  (s.secureBay i).modBay i fun b => { b with admission := true }

/-- ADMIT_BAY (R68). -/
def execAdmitBay (s : State) : Out :=
  s.request 0x34 fun s f =>
    match s.bayNamed? (payByte f.payload 0) with
    | none => s.reply f .noBay []
    | some i =>
      match s.admitRefusal? i with
      | some r => s.reply f r []
      | none => ((s.admitBay i).reply f .accepted []).settle

/-! ### The ready set -/

/-- A SoC byte: FFh where unknown (R195). -/
def socByte (q : Option Nat) : Byte := match q with | some n => byte n | none => 0xFF

/-- PREPARE_READY_SET (R91). -/
def execPrepareReadySet (s : State) : Out :=
  s.request 0x35 fun s f =>
    let n := payByte f.payload 0
    let k := min (max n 1) 36
    if s.power.state ≠ .serving then s.reply f .transit []
    else
      let s := s.prepareReady k
      (s.reply f (if k = n then .done else .clamped)
        (s.cust.readySet.flatMap fun i => [byte (bayNumber i), socByte (s.bay i).soc])).settle

/-- CLEAR_READY_SET (R93). -/
def execClearReadySet (s : State) : Out :=
  s.request 0x36 fun s f => ((s.emptyReady .host).reply f .done []).settle

/-- The payload of Ready Set Status from a position (R93). -/
def State.readyPayload (s : State) (k : Nat) : List Byte :=
  let all := s.cust.readySet
  let page := (all.drop k).take 8
  [byte all.length,
    byte (count (fun i => match (s.bay i).soc with
      | some q => s.cfg .readyThreshold ≤ q
      | none => false) all),
    flag (k + 8 < all.length), byte page.length] ++
  page.flatMap fun i => [byte (bayNumber i), socByte (s.bay i).soc] ++ assetBytes (s.bay i).assetId

/-- READY_SET_STATUS (R93). -/
def execReadySetStatus (s : State) : Out :=
  s.request 0x37 fun s f => s.reply f .done (s.readyPayload (payByte f.payload 0))

end Sys2Proof.Machine
end

