-- ==== Sys2Proof/Machine/SessionRequests.lean ====
section
/-! DEFINITION. The requests of the Session Scheduler (R117, R118, R121 to R125, R131), of the Charge Allocator (R48,
R49) and of the Loop Master (R145). -/

namespace Sys2Proof.Machine

/-! ### Open Session (R117, R118) -/

/-- The default minimum charge of a class (R117). -/
def classMinimum : SessClass → Nat
  | .image => 40
  | .update => 25
  | .inventory => 0

/-- The minimum charge taken for one asked for (R117). -/
def minimumTaken (k : SessClass) (n : Nat) : Nat := if n = 255 then classMinimum k else min n 100

/-- The idle limit taken for one asked for (R117). -/
def idleTaken (n : Nat) : Nat := min (max n 10) 600

/-- The checks of Open Session after the bay is known (R118). -/
def State.openRefusal? (s : State) (i : BayIx) (k : SessClass) : Option Result :=
  if s.power.state ≠ .serving then some .transit
  else if (s.bay i).custody ≠ .locked then some .wrongState
  else if s.member i then some .reserved
  else if (s.sessionOf? i).isSome then some .duplicate
  else if !s.routed i k then some .noRoute
  else if 24 ≤ s.sess.queue.length then some .full
  else none

/-- The state of a session in the queue, as its code. -/
def State.sessStateByte (s : State) (id : Nat) : Byte :=
  match s.session? id with
  | some x => byte (sessCode x.state)
  | none => 0

/-- A session opened, dispatched where it can be, and answered (R118). -/
def State.openSession (s : State) (f : RxFrame) (i : BayIx) (k : SessClass) (charge idle : Nat) :
    State :=
  let id := s.takenId
  let s := s.admitSession i k (minimumTaken k charge) (idleTaken idle)
  let kept := (charge = 255 ∨ charge ≤ 100) ∧ idleTaken idle = idle
  (s.reply f (if kept then .accepted else .clamped) [byte id, s.sessStateByte id]).settle

/-- OPEN_SESSION (R117, R118). A frame that was already waiting when the standalone flag was set is taken like any other
(L58). -/
def execOpenSession (s : State) : Out :=
  s.request 0x40 fun s f =>
    let p := f.payload
    match classOf? (payByte p 1) with
    | none => s.reply f .badValue []
    | some k =>
      match s.bayNamed? (payByte p 0) with
      | none => s.reply f .noBay []
      | some i =>
        match s.openRefusal? i k with
        | some r => s.reply f r []
        | none => s.openSession f i k (payByte p 2) (payNat p 3 2)

/-! ### Session requests (R121 to R125) -/

/-- A session request: the session named must be in the queue (R121). -/
def State.onSession (s : State) (f : RxFrame) (act : Session → State) : State :=
  match s.session? (payByte f.payload 0) with
  | some x => act x
  | none => s.reply f .unknown []

/-- LINK_UP (R122). -/
def execLinkUp (s : State) : Out :=
  s.request 0x41 fun s f => s.onSession f fun x =>
    if x.state = .linking then ((s.linkUpSession x).reply f .done []).lines
    else s.reply f .wrongState []

/-- PROGRESS (R123). -/
def execProgress (s : State) : Out :=
  s.request 0x42 fun s f => s.onSession f fun x =>
    let n := payByte f.payload 1
    let v := min n 100
    if x.state = .active then (s.progressSession x v).reply f (if v = n then .done else .clamped) []
    else s.reply f .wrongState []

/-- FINISH_SESSION: the session named must be in the queue, which R121 has checked before any other; then the result must
be one of its set, whatever the session's state (R124, R174, L11); then the session must be Active (R124). -/
def execFinishSession (s : State) : Out :=
  s.request 0x43 fun s f => s.onSession f fun x =>
    let r := payByte f.payload 1
    if 1 < r then s.reply f .badValue []
    else if x.state = .active then (s.finishActive x (r = 0)).reply f .done []
    else s.reply f .wrongState []

/-- ABORT_SESSION (R125). -/
def execAbortSession (s : State) : Out :=
  s.request 0x44 fun s f => s.onSession f fun x =>
    if x.state = .draining then s.reply f .wrongState []
    else ((s.endSession x.id .aborted).reply f .done []).settle

/-! ### Session Status (R131) -/

/-- The position of a session in the queue, counted from 1. -/
def State.queuePosition (s : State) (x : Session) : Nat := s.sess.queue.findIdx (·.id = x.id) + 1

/-- The record of a session (R115, R131, L25). A Queued session's channel of none is sent as 0, with no presence byte
(L76). -/
def State.sessionPayload (s : State) (x : Session) : List Byte :=
  [byte x.id, byte (bayNumber x.bay), byte (classCode x.cls), byte x.minCharge] ++ be2 x.idleLimit ++
  [byte (sessCode x.state), byte (match x.channel with | some c => c.1 + 1 | none => 0)] ++
  be4 x.admittedAt ++ optField 4 (x.linkedAt.map be4) ++ optCode x.progress id ++
  optCode x.result (fun ok => if ok then 0 else 1) ++
  optField 2 (x.due.map fun d => be2 (s.secondsLeft d)) ++
  (if x.state = .queued then [byte (s.queuePosition x), 1, byte (s.gateCode x)] else [0, 0, 0])

/-- The bytes of a channel configuration, one for each field (L25). -/
def cfgBytes (c : ChanCfg) : List Byte := [flag c.enabled, byte c.base, byte c.size, flag c.restricted]

/-- The summary for the ID 0 (R131, L25). -/
def State.sessionSummary (s : State) : List Byte :=
  [byte s.sess.queue.length, byte s.sess.nextId] ++
  allChans.flatMap fun c =>
    let ch := s.chan c
    cfgBytes ch.cfg ++ optField 4 (ch.pendingCfg.map cfgBytes) ++
      [byte (chanCode ch.state), byte (ch.session.getD 0)]

/-- SESSION_STATUS (R131). -/
def execSessionStatus (s : State) : Out :=
  s.request 0x45 fun s f =>
    if payByte f.payload 0 = 0 then s.reply f .done s.sessionSummary
    else s.onSession f fun x => s.reply f .done (s.sessionPayload x)

/-! ### Set Bay Charge and Clear Fault (R48, R49, R16, R108) -/

/-- A bay number from 1 to the bay count in force (R48, R49). -/
def State.bayCounted? (s : State) (n : Nat) : Option BayIx :=
  if n ≤ s.loop.bayCount then bayOf? n else none

/-- SET_BAY_CHARGE (R49). -/
def execSetBayCharge (s : State) : Out :=
  s.request 0x50 fun s f =>
    match payFlag f.payload 1 with
    | none => s.reply f .badValue []
    | some on =>
      match s.bayCounted? (payByte f.payload 0) with
      | none => s.reply f .noBay []
      | some i =>
        (((s.modBay i fun b => { b with chargeOn := on }).markPending).reply f .done []).settle

/-- Clear Fault with bay 0 (R16). -/
def State.clearLatch (s : State) : State :=
  State.recomputePool { s with inlet := { s.inlet with latch := false, strikes := [] } }

/-- The bay is Jammed. -/
def Bay.isJammed (b : Bay) : Bool :=
  match b.custody with
  | .jammed _ _ => true
  | .vacant | .seating | .securing | .locked | .releasing | .released | .clearing | .held _ => false

/-- Clear Fault of a bay with an Overdraw fault or Jammed (R48, R69, R108). -/
def State.clearBayFault (s : State) (i : BayIx) : State :=
  let s :=
    if (s.bay i).overdraw then (s.modBay i fun b => { b with overdraw := false }).markPending else s
  if (s.bay i).isJammed then s.unjam i else s

/-- CLEAR_FAULT (R48, R16, R108). -/
def execClearFault (s : State) : Out :=
  s.request 0x51 fun s f =>
    if payByte f.payload 0 = 0 then (s.clearLatch.reply f .done []).settle
    else match s.bayCounted? (payByte f.payload 0) with
      | none => s.reply f .noBay []
      | some i =>
        if (s.bay i).overdraw || (s.bay i).isJammed then
          ((s.clearBayFault i).reply f .done []).settle
        else s.reply f .wrongState []

/-! ### Rebuild Loop (R145) -/

/-- REBUILD_LOOP (R145). -/
def execRebuildLoop (s : State) : Out :=
  s.request 0x52 fun s f =>
    if s.loop.rebuild.isSome || s.cust.reconActive then s.reply f .busy []
    else if s.power.state ≠ .serving then s.reply f .transit []
    else ((s.startRebuild .host).reply f .accepted []).settle

end Sys2Proof.Machine
end

