-- ==== Sys2Proof/Machine/Dispatch.lean ====
section
/-! DEFINITION. The meaning of every command: one direct call for each constructor of Instr. -/

namespace Sys2Proof.Machine

def exec (i : Instr) (s : State) : Host.Outcome State Fault Refusal :=
  match i with
  | .voltageSample volts amps => Sys2Proof.Machine.execVoltageSample volts amps s
  | .inletRestored volts amps => Sys2Proof.Machine.execInletRestored volts amps s
  | .strike volts amps => Sys2Proof.Machine.execStrike volts amps s
  | .strikeAgeOut => Sys2Proof.Machine.execStrikeAgeOut s
  | .strikeHoldoffExpiry => Sys2Proof.Machine.execStrikeHoldoffExpiry s
  | .temperatureReading t => Sys2Proof.Machine.execTemperatureReading t s
  | .poolRecompute => Sys2Proof.Machine.execPoolRecompute s
  | .trimAudit => Sys2Proof.Machine.execTrimAudit s
  | .rideThroughExpiry => Sys2Proof.Machine.execRideThroughExpiry s
  | .drainLimitExpiry => Sys2Proof.Machine.execDrainLimitExpiry s
  | .settleExpiry => Sys2Proof.Machine.execSettleExpiry s
  | .roundBegin => Sys2Proof.Machine.execRoundBegin s
  | .loopTransactionBegin => Sys2Proof.Machine.execLoopTransactionBegin s
  | .placementAppended => Sys2Proof.Machine.execPlacementAppended s
  | .responseWaitExpiry => Sys2Proof.Machine.execResponseWaitExpiry s
  | .linkLost => Sys2Proof.Machine.execLinkLost s
  | .status resp key => Sys2Proof.Machine.execStatus resp key s
  | .grant resp => Sys2Proof.Machine.execGrant resp s
  | .tag resp => Sys2Proof.Machine.execTag resp s
  | .lock resp => Sys2Proof.Machine.execLock resp s
  | .lamp resp => Sys2Proof.Machine.execLamp resp s
  | .shed => Sys2Proof.Machine.execShed s
  | .identify resp => Sys2Proof.Machine.execIdentify resp s
  | .assign resp => Sys2Proof.Machine.execAssign resp s
  | .pass resp => Sys2Proof.Machine.execPass resp s
  | .nodereset resp => Sys2Proof.Machine.execNodereset resp s
  | .scanPassStart => Sys2Proof.Machine.execScanPassStart s
  | .scanStatusPlace => Sys2Proof.Machine.execScanStatusPlace s
  | .rebuildPowerOffEnd => Sys2Proof.Machine.execRebuildPowerOffEnd s
  | .rebuildBootEnd => Sys2Proof.Machine.execRebuildBootEnd s
  | .autoRebuildCheck => Sys2Proof.Machine.execAutoRebuildCheck s
  | .travelWaitExpiry slot => Sys2Proof.Machine.execTravelWaitExpiry slot s
  | .busyRetryExpiry slot => Sys2Proof.Machine.execBusyRetryExpiry slot s
  | .cooldownExpiry slot => Sys2Proof.Machine.execCooldownExpiry slot s
  | .seatSettleExpiry bay => Sys2Proof.Machine.execSeatSettleExpiry bay s
  | .tagRetryDelayExpiry bay => Sys2Proof.Machine.execTagRetryDelayExpiry bay s
  | .refusedDisplayEnd bay => Sys2Proof.Machine.execRefusedDisplayEnd bay s
  | .releaseWindowExpiry bay => Sys2Proof.Machine.execReleaseWindowExpiry bay s
  | .overdrawFault resp key => Sys2Proof.Machine.execOverdrawFault resp key s
  | .linkTimerExpiry session => Sys2Proof.Machine.execLinkTimerExpiry session s
  | .idleTimerExpiry session => Sys2Proof.Machine.execIdleTimerExpiry session s
  | .drainSettleExpiry session => Sys2Proof.Machine.execDrainSettleExpiry session s
  | .frameArrival byte gap => Sys2Proof.Machine.execFrameArrival byte gap s
  | .replySent t => Sys2Proof.Machine.execReplySent t s
  | .hostSilenceExpiry => Sys2Proof.Machine.execHostSilenceExpiry s
  | .holdupSense charge => Sys2Proof.Machine.execHoldupSense charge s
  | .secondsTick => Sys2Proof.Machine.execSecondsTick s
  | .powerOn kept t => Sys2Proof.Machine.execPowerOn kept t s
  | .resetPinAssert => Sys2Proof.Machine.execResetPinAssert s
  | .resetPinRelease t => Sys2Proof.Machine.execResetPinRelease t s
  | .unknownKind => Sys2Proof.Machine.execUnknownKind s
  | .identifyRequest => Sys2Proof.Machine.execIdentifyRequest s
  | .cartStatus key => Sys2Proof.Machine.execCartStatus key s
  | .bayStatus => Sys2Proof.Machine.execBayStatus s
  | .baySummary => Sys2Proof.Machine.execBaySummary s
  | .poolStatus => Sys2Proof.Machine.execPoolStatus s
  | .setSetting => Sys2Proof.Machine.execSetSetting s
  | .getSetting => Sys2Proof.Machine.execGetSetting s
  | .saveSettings write => Sys2Proof.Machine.execSaveSettings write s
  | .setQuiet => Sys2Proof.Machine.execSetQuiet s
  | .rosterPut => Sys2Proof.Machine.execRosterPut s
  | .rosterDrop => Sys2Proof.Machine.execRosterDrop s
  | .rosterGet => Sys2Proof.Machine.execRosterGet s
  | .rosterList => Sys2Proof.Machine.execRosterList s
  | .releaseBay => Sys2Proof.Machine.execReleaseBay s
  | .releaseAsset => Sys2Proof.Machine.execReleaseAsset s
  | .releaseBest => Sys2Proof.Machine.execReleaseBest s
  | .cancelRelease => Sys2Proof.Machine.execCancelRelease s
  | .admitBay => Sys2Proof.Machine.execAdmitBay s
  | .prepareReadySet => Sys2Proof.Machine.execPrepareReadySet s
  | .clearReadySet => Sys2Proof.Machine.execClearReadySet s
  | .readySetStatus => Sys2Proof.Machine.execReadySetStatus s
  | .openSession => Sys2Proof.Machine.execOpenSession s
  | .linkUp => Sys2Proof.Machine.execLinkUp s
  | .progress => Sys2Proof.Machine.execProgress s
  | .finishSession => Sys2Proof.Machine.execFinishSession s
  | .abortSession => Sys2Proof.Machine.execAbortSession s
  | .sessionStatus => Sys2Proof.Machine.execSessionStatus s
  | .setBayCharge => Sys2Proof.Machine.execSetBayCharge s
  | .clearFault => Sys2Proof.Machine.execClearFault s
  | .rebuildLoop => Sys2Proof.Machine.execRebuildLoop s
  | .restart => Sys2Proof.Machine.execRestart s
  | .fetchNotices => Sys2Proof.Machine.execFetchNotices s
  | .setNoticeLevel => Sys2Proof.Machine.execSetNoticeLevel s
  | .byteReceived byte gap => Sys2Proof.Machine.execByteReceived byte gap s
  | .lineError => Sys2Proof.Machine.execLineError s
  | .clearLineChange level begun => Sys2Proof.Machine.execClearLineChange level begun s
  | .responseNotValid resp => Sys2Proof.Machine.execResponseNotValid resp s

end Sys2Proof.Machine
end

