-- ==== Sys2Proof/Safety.lean ====
section
/-! DEFINITION. What holds in every state the part can reach: the invariant that the statements of
Certificates/Slice0/Obligations.lean name, and what the events within the part never touch. -/

namespace Sys2Proof.Machine

/-- The Notice Queue: at most 32 records, levels from 0 to 7 with the fixed kinds at 7, and every record queued with a
level from 1 to 7 (R182 to R184). -/
structure Notices.Sound (n : Notices) : Prop where
  room : n.queue.length ≤ 32
  levels : ∀ k, n.levels.get k ≤ 7
  fixed : ∀ k, Config.fixedLevel k = true → n.levels.get k = 7
  ranked : ∀ r ∈ n.queue, 1 ≤ r.level ∧ r.level ≤ 7

/-- The Bolt Pulse Arbiter: at most one entry per bay, none for a bay whose pulse is in a slot, and no bay in both slots
(R97). -/
structure Arbiter.Sound (a : Arbiter) : Prop where
  once : (a.queue.map (·.1)).Nodup
  apartA : ∀ p, a.slotA = some p → p.bay ∉ a.queue.map (·.1)
  apartB : ∀ p, a.slotB = some p → p.bay ∉ a.queue.map (·.1)
  apart : ∀ p q, a.slotA = some p → a.slotB = some q → p.bay ≠ q.bay

/-- The channel state of a session's state (R111). -/
def chanStateOf : SessState → ChanState
  | .queued => .free
  | .linking => .linking
  | .active => .busy
  | .draining => .draining

/-- The join that a session's state gives its channel: its bay while Linking or Active (R114). -/
def joinOf (y : Session) : Option BayIx :=
  match y.state with
  | .linking | .active => some y.bay
  | .queued | .draining => none

/-- A channel agrees with the queue: without a session it is Free or Off, unjoined, with nothing pending; with one, its
state and join follow that session's, whose bay lies within its window (R111, R113, R114). -/
def Sessions.ChanSound (x : Sessions) (c : ChanIx) : Prop :=
  match x.channels[c.1].session with
  | none => x.channels[c.1] = Channel.idle x.channels[c.1].cfg
  | some id =>
    ∃ y ∈ x.queue, y.id = id ∧ y.channel = some c ∧ y.state ≠ .queued ∧
      x.channels[c.1].state = chanStateOf y.state ∧ x.channels[c.1].join = joinOf y ∧
      x.channels[c.1].cfg.base ≤ y.bay.1 ∧
      y.bay.1 < x.channels[c.1].cfg.base + x.channels[c.1].cfg.size

/-- A session agrees with its channel: none while Queued, the one that holds it otherwise (R115). -/
def Sessions.HoldSound (x : Sessions) (y : Session) : Prop :=
  match y.channel with
  | none => y.state = .queued
  | some c => x.channels[c.1].session = some y.id

/-- The session queue and the channel table: at most 24 sessions, each of its own identifier, no two for one bay, and
sessions and channels in agreement (R111, R114 to R116). -/
structure Sessions.Sound (x : Sessions) : Prop where
  room : x.queue.length ≤ 24
  ids : (x.queue.map (·.id)).Nodup
  bays : (x.queue.map (·.bay)).Nodup
  range : ∀ y ∈ x.queue, 1 ≤ y.id ∧ y.id ≤ 255
  next : 1 ≤ x.nextId ∧ x.nextId ≤ 255
  chans : ∀ c, x.ChanSound c
  holds : ∀ y ∈ x.queue, x.HoldSound y

/-- The Inlet Monitor: rings of at most eight samples within their ranges, counts and trim within theirs (R1, R2, R4,
R5, R13, R14). -/
structure Inlet.Sound (x : Inlet) : Prop where
  volts : x.voltRing.length ≤ 8 ∧ ∀ v ∈ x.voltRing, v ≤ 300
  amps : x.currRing.length ≤ 8 ∧ ∀ a ∈ x.currRing, a ≤ 2000
  restore : x.restoreCount ≤ 1
  high : x.highCount ≤ 2
  trim : -40 ≤ x.trim ∧ x.trim ≤ 80
  derate : x.derate = deratingOf x.tc

/-- The roster: at most 64 entries, each of a nonzero asset ID of its own (R70). -/
structure RosterSound (assets : List AssetId) : Prop where
  room : assets.length ≤ 64
  unique : assets.Nodup
  nonzero : (0 : AssetId) ∉ assets

/-- Every live setting holds a value of its range or set (R189). -/
def SettingsSound (c : Settings) : Prop := ∀ i, settingTaken i (c.get i) = c.get i

/-- The pool in force is 0 outside Serving, in Brownout, and with the inlet-fault latch set (R6). -/
def State.SupplySound (s : State) : Prop :=
  s.power.state ≠ .serving ∨ s.inlet.cond = .brownout ∨ s.inlet.latch = true → s.pool.inForce = 0

/-- A bay may stand in the ready set: Locked, Linked, without a fault and without a session (R91). -/
def State.ReadyBay (s : State) (i : BayIx) : Prop :=
  (s.bay i).custody = .locked ∧ (s.bay i).link = .linked ∧ (s.bay i).overdraw = false ∧
    (s.bay i).hot = false ∧ s.sessionOf? i = none

/-- The ready set: each member once and fit to stand in it, and none outside Serving and Riding (R91, R93). -/
structure State.ReadySound (s : State) : Prop where
  once : s.cust.readySet.Nodup
  members : ∀ i ∈ s.cust.readySet, s.ReadyBay i
  serving : s.power.state ≠ .serving → s.power.state ≠ .riding → s.cust.readySet = []

/-- What holds of the part while the reset pin is high, the ready set apart. -/
structure State.RunSound (s : State) : Prop where
  notices : s.notices.Sound
  arbiter : s.arb.Sound
  sessions : s.sess.Sound
  inlet : s.inlet.Sound
  roster : RosterSound (s.cust.roster.map (·.asset))
  settings : SettingsSound s.settings
  buffer : s.link.buffer.length ≤ 2
  supply : s.SupplySound

/-- What holds while the reset pin is held low: the outputs stand at their start values (R193 step 1, R194), and what the
start will find in Retained Memory is sound. -/
structure State.HeldSound (s : State) : Prop where
  loop : s.loop.power = false
  joins : ∀ c, (s.chan c).join = none
  ready : s.link.ready = false
  attention : s.notices.attention = false
  reply : s.link.tx = none
  roster : RosterSound (s.cust.roster.map (·.asset))
  trim : -40 ≤ s.inlet.trim ∧ s.inlet.trim ≤ 80

/-- The invariant of the part. -/
structure State.Inv (s : State) : Prop where
  running : s.resetHeld = false → s.RunSound
  held : s.resetHeld = true → s.HeldSound

/-! ### What an event keeps -/

/-- The part of the state that the operations within an event keep: the clock, the reset pin, the key, the inlet, the
quiet flag, the host link but for its ready line, the levels and the Fetch hold, the grace flag, the assets of the
roster and their order, the settings and their image, the seconds counter and the queue of commands. -/
structure Kept where
  now : Nat
  resetHeld : Bool
  keyswitch : Bool
  inlet : Inlet
  quiet : Bool
  rx : RxState
  buffer : List RxFrame
  tx : Option Tx
  clear : Bool
  silenceDue : Option Nat
  standalone : Bool
  cause : StartCause
  fromImage : Bool
  levels : Levels
  fetchHold : Bool
  grace : Bool
  assets : List AssetId
  settings : Settings
  image : Option SettingsImage
  retained : Retained
  pending : List Instr
deriving DecidableEq, Repr

/-- What the operations within an event keep of a state. -/
def State.kept (s : State) : Kept where
  now := s.now
  resetHeld := s.resetHeld
  keyswitch := s.keyswitch
  inlet := s.inlet
  quiet := s.pool.quiet
  rx := s.link.rx
  buffer := s.link.buffer
  tx := s.link.tx
  clear := s.link.clear
  silenceDue := s.link.silenceDue
  standalone := s.link.standalone
  cause := s.link.cause
  fromImage := s.link.fromImage
  levels := s.notices.levels
  fetchHold := s.notices.fetchHold
  grace := s.cust.grace
  assets := s.cust.roster.map (·.asset)
  settings := s.settings
  image := s.image
  retained := s.retained
  pending := s.pending

/-- What the bay's node and the loop last said of a bay, and the bay faults: the fields that no work of custody,
sessions, rounds or lamps touches. -/
structure Seen where
  link : LinkState
  serial : Option Serial
  miss : Nat
  lostAt : Option Secs
  resync : Bool
  soc : Option Nat
  pneg : Nat
  applied : Nat
  measured : Nat
  overTemp : Bool
  short : Bool
  overdraw : Bool
  overdrawCount : Nat
  hot : Bool
  hotTime : Option Secs
  chargeOn : Bool
  presence : Option Bool
  bolt : Option Bolt
  lampShown : Option Colour
  recon : ReconMark
deriving DecidableEq, Repr

/-- The fields of a bay that no work of custody, sessions, rounds or lamps touches. -/
def Bay.seen (b : Bay) : Seen where
  link := b.link
  serial := b.serial
  miss := b.miss
  lostAt := b.lostAt
  resync := b.resync
  soc := b.soc
  pneg := b.pneg
  applied := b.applied
  measured := b.measured
  overTemp := b.overTemp
  short := b.short
  overdraw := b.overdraw
  overdrawCount := b.overdrawCount
  hot := b.hot
  hotTime := b.hotTime
  chargeOn := b.chargeOn
  presence := b.presence
  bolt := b.bolt
  lampShown := b.lampShown
  recon := b.recon

/-- No reconciliation and no drain is in progress, so that what an event ends with moves only pulses, rounds and
lamps. -/
def State.Calm (s : State) : Prop := s.cust.reconActive = false ∧ s.power.drain = none

end Sys2Proof.Machine
end

