-- ==== Sys2Proof/Certificates/Slice0/Obligations.lean ====
section
/-! DEFINITION. The statements for the provers. Each says in its docstring which rules of spec/ it states, and which
conventions of the model (log entries L) it rests on. -/

open Sys2Proof Sys2Proof.Machine

namespace Sys2Proof.Machine

/-- The request of this kind and payload length that is taken next: the reset pin is high, no reply is in hand, and the
frame stands at the head of the receive buffer (R170, R171). -/
structure State.Asks (s : State) (kind len : Nat) (f : RxFrame) : Prop where
  awake : s.resetHeld = false
  free : s.link.tx = none
  head : s.link.buffer.head? = some f
  kind : f.kind.toNat = kind
  length : f.payload.length = len

/-- The reply in hand: formed whole for the frame, with its first byte begun where the clear line is asserted (R168,
R172). -/
def State.Replies (s t : State) (f : RxFrame) (r : Result) (payload : List Byte)
    (after : AfterReply := .nothing) : Prop :=
  t.link.tx = some ⟨replyBytes f.tag f.kind r payload, if s.link.clear then 1 else 0, after⟩

/-- The custody state of a bay is one from which a release is taken: Locked or Held (R80). -/
def Bay.releasable (b : Bay) : Bool :=
  match b.custody with
  | .locked | .held _ => true
  | .vacant | .seating | .securing | .releasing | .released | .clearing | .jammed _ _ => false

/-- The bay is Held. -/
def Bay.isHeld (b : Bay) : Bool := b.releasable && b.custody != .locked

/-- The end of a window that runs. -/
def WindowClock.runsTo : WindowClock → Option Nat
  | .running due => some due
  | .notStarted | .stopped _ => none

/-- The request kind a command takes, none for a command that is no request of the catalogue (chapter 12). -/
def requestKind? : Instr → Option Nat
  | .identifyRequest => some 0x01 | .cartStatus _ => some 0x02 | .bayStatus => some 0x03
  | .baySummary => some 0x04 | .poolStatus => some 0x05 | .setSetting => some 0x10
  | .getSetting => some 0x11 | .saveSettings _ => some 0x12 | .setQuiet => some 0x13
  | .rosterPut => some 0x20 | .rosterDrop => some 0x21 | .rosterGet => some 0x22
  | .rosterList => some 0x23 | .releaseBay => some 0x30 | .releaseAsset => some 0x31
  | .releaseBest => some 0x32 | .cancelRelease => some 0x33 | .admitBay => some 0x34
  | .prepareReadySet => some 0x35 | .clearReadySet => some 0x36 | .readySetStatus => some 0x37
  | .openSession => some 0x40 | .linkUp => some 0x41 | .progress => some 0x42
  | .finishSession => some 0x43 | .abortSession => some 0x44 | .sessionStatus => some 0x45
  | .setBayCharge => some 0x50 | .clearFault => some 0x51 | .rebuildLoop => some 0x52
  | .restart => some 0x53 | .fetchNotices => some 0x60 | .setNoticeLevel => some 0x61 | _ => none

/-- A rebuild of cause Host or Auto has been started from a state with the loop powered (R145, R154): the bay count in
force is the live one, and the rebuild waits in Draining for a drain of kind Rebuild, which sheds, empties the ready set,
lets the sessions run on and leaves the power state. With nothing queued, no pulse in flight and no engage to ask for,
the drain completes at once, and the rebuild is in PowerOff (R146, R156, R157). -/
structure State.RebuildBegins (s t : State) (c : RebuildCause) : Prop where
  count : t.loop.bayCount = s.cfg .bayCount
  started : ∃ r, t.loop.rebuild = some r ∧ r.cause = c ∧ r.bayCount = s.cfg .bayCount
  state : t.power.state = s.power.state
  shed : (∀ i, (t.bay i).commanded = 0 ∧ (t.bay i).outstanding = none) ∧ t.round.suspended = true
  ready : t.cust.readySet = []
  sessions : ∀ x ∈ s.sess.queue, x.state ≠ .queued → x ∈ t.sess.queue
  waits : s.arb.slotA.isSome ∨ s.arb.slotB.isSome →
    t.power.drain = some ⟨.rebuild, 5, t.now + s.cfg .drainLimit * 1000⟩ ∧ t.loop.power = true ∧
      ∀ r, t.loop.rebuild = some r → r.phase = .draining
  ends : s.arb.queue = [] → s.arb.slotA = none → s.arb.slotB = none →
    (∀ i, (s.bay i).custody = .released → (s.bay i).link ≠ .linked ∨ (s.bay i).presence ≠ some true) →
    t.power.drain = none ∧ t.loop.power = false ∧ (∀ i, (t.bay i).link = .dark) ∧
      ∀ r, t.loop.rebuild = some r → r.phase = .powerOff ∧ r.due = t.now + 500

/-- A pulse is queued or in flight for a bay in a direction (R97). -/
def State.hasPulse (s : State) (i : BayIx) (d : Dir) : Prop :=
  (i, d) ∈ s.arb.queue ∨ ∃ k p, s.slot k = some p ∧ p.bay = i ∧ p.dir = d

/-- The commands of the host line, of reports, of the image and the notices, and the ticks that only count. -/
def onlyServes : Instr → Bool
  | .strikeAgeOut | .frameArrival _ _ | .byteReceived _ _ | .lineError | .clearLineChange _ _ | .replySent _
  | .holdupSense _ | .secondsTick | .unknownKind | .identifyRequest | .cartStatus _ | .bayStatus | .baySummary
  | .poolStatus | .getSetting | .saveSettings _ | .rosterGet | .rosterList | .readySetStatus | .sessionStatus
  | .restart | .fetchNotices | .setNoticeLevel => true
  | _ => false

/-- The commands at whose event no phase of a round begins or ends and no grant is changed. -/
def leavesRound (c : Instr) : Bool :=
  onlyServes c || match c with
  | .placementAppended | .shed | .scanPassStart | .scanStatusPlace | .rebuildPowerOffEnd | .rebuildBootEnd
  | .travelWaitExpiry _ | .busyRetryExpiry _ | .cooldownExpiry _ | .seatSettleExpiry _ | .tagRetryDelayExpiry _
  | .rosterPut | .rosterDrop | .linkUp | .progress | .finishSession => true
  | _ => false

/-- The commands that may move the power state or its timers: the inlet's samples, the power timers, and what starts or
ends a rebuild. -/
def mayMovePower : Instr → Bool
  | .voltageSample _ _ | .inletRestored _ _ | .strike _ _ | .rideThroughExpiry | .drainLimitExpiry
  | .settleExpiry | .autoRebuildCheck | .setSetting | .rebuildLoop | .identify _ | .pass _ | .nodereset _
  | .responseWaitExpiry | .responseNotValid _ => true
  | _ => false

/-- The commands that may move the loop power or a rebuild, the assertion of the reset pin, which switches the loop power
off, among them (R194). -/
def mayMoveRebuild (c : Instr) : Bool :=
  mayMovePower c || match c with
  | .assign _ | .rebuildPowerOffEnd | .rebuildBootEnd | .resetPinAssert => true
  | _ => false

/-- The commands that may begin or end a transaction on the loop. -/
def mayMoveLine (c : Instr) : Bool :=
  mayMoveRebuild c || match c with
  | .loopTransactionBegin | .linkLost | .status _ _ | .overdrawFault _ _ | .grant _ | .tag _ | .lock _
  | .lamp _ | .shed => true
  | _ => false

/-- The commands that may move sessions or channels, the assertion of the reset pin, which opens every join, among them
(R194). -/
def mayMoveSessions (c : Instr) : Bool :=
  mayMovePower c || match c with
  | .linkLost | .status _ _ | .overdrawFault _ _ | .grant _ | .tag _ | .lock _ | .lamp _ | .linkTimerExpiry _
  | .idleTimerExpiry _ | .drainSettleExpiry _ | .hostSilenceExpiry | .releaseBay | .releaseAsset | .releaseBest
  | .cancelRelease | .openSession | .linkUp | .progress | .finishSession | .abortSession | .resetPinAssert => true
  | _ => false

/-- The commands that may move a bay's custody or release record, or ask for or end a pulse, the assertion of the reset pin,
which stops the windows, among them (R78, L47). -/
def mayMoveCustody (c : Instr) : Bool :=
  mayMovePower c || match c with
  | .linkLost | .status _ _ | .overdrawFault _ _ | .tag _ | .lock _ | .loopTransactionBegin
  | .releaseWindowExpiry _ | .releaseBay | .releaseAsset | .releaseBest | .cancelRelease | .admitBay
  | .clearFault | .rosterPut | .rosterDrop | .resetPinAssert => true
  | _ => false

/-- The commands that may move a roster entry: a report that is judged, a tag read, and the requests for it. -/
def mayMoveRoster : Instr → Bool
  | .status _ _ | .overdrawFault _ _ | .tag _ | .admitBay | .rosterPut | .rosterDrop => true
  | _ => false

end Sys2Proof.Machine

/-! ### The machine as a whole -/

/-- A step with a command at the front of the queue is that command's effect on the state with the queue's rest. With
nothing commanded one millisecond passes and nothing else happens (the model's choice, L2). -/
def Obligations.StepRunsTheFrontCommand : Prop :=
  (∀ (c : Instr) (rest : List Instr) (s : State),
    step { s with pending := c :: rest } = exec c { s with pending := rest }) ∧
  ∀ s : State, s.pending = [] → step s = .next { s with now := s.now + 1 }

/-- Every command answers a next state, and leaves the commands that wait as they are. While the reset pin is held low
no event but the release of the pin or a power-on does anything: the model's choice (L41), of which the spec says only
that the part takes nothing from either line. -/
def Obligations.EveryCommandAnswersANextState : Prop :=
  ∀ (c : Instr) (s : State), (∃ t, exec c s = .next t ∧ t.pending = s.pending) ∧
    (s.resetHeld = true → (∀ kept t, c ≠ .powerOn kept t) → (∀ t, c ≠ .resetPinRelease t) →
      exec c s = .next s)

/-! ### The invariants -/

/-- Both invariants hold right after a cold start. -/
def Obligations.ResetSatisfiesTheInvariants : Prop := State.reset.Inv ∧ State.reset.ReadySound

/-- Every step keeps the invariant: the Notice Queue, the arbiter, sessions and channels, the inlet, the roster, the
settings, the receive buffer and the pool in force (R1, R4, R6, R70, R97, R111, R114 to R116, R170, R182 to R184,
R189). -/
def Obligations.EveryStepKeepsTheInvariant : Prop :=
  ∀ s t : State, s.Inv → step s = .next t → t.Inv

/-- Every step keeps the ready set sound: each member stands in it once, is Locked and Linked, has no fault and no
session, and outside Serving and Riding there is none (R91, R92). -/
def Obligations.EveryStepKeepsTheReadySetSound : Prop :=
  ∀ s t : State, s.ReadySound → step s = .next t → t.ReadySound

/-- No level-7 record is displaced: whatever is commanded, each stays in the Notice Queue, but at a Fetch, which
removes those it returns, and at a start, which begins an empty queue (R184, R186, R188). -/
def Obligations.NoLevelSevenNoticeIsDisplaced : Prop :=
  ∀ (c : Instr) (s t : State), s.Inv → exec c s = .next t →
    c ≠ .fetchNotices → (∀ kept x, c ≠ .powerOn kept x) → (∀ x, c ≠ .resetPinRelease x) →
    (∀ x, c = .replySent x → ∀ tx, s.link.tx = some tx → tx.after ≠ .restart) →
    ∀ r ∈ s.notices.queue, r.level = 7 → r ∈ t.notices.queue

/-! ### The inlet, the pool and the power states (chapter 1) -/

/-- VOLTAGE_SAMPLE completes in every state, and leaves the Inlet Monitor as R1 (range, period, ring), R2 (condition and
restore count), R3 (the brownout test of the new mean), R4 and R14 (the count of high samples against Irate × 11) say.
A sample below 70 V is a dropout. In Serving it makes the cart Riding, with the ride-through timer running from the
sample and the pool 0 (R18); in Riding, in Draining with its drain waiting for a pulse, and in Transit it moves no power
state (R18 to R20); in Settling it returns the cart to Transit with the settle timer stopped, the rebuild or the
reconciliation that follows it abandoned and the loop power off (R21). A reconciliation that could end, and a drain that
could complete, at the same sample are left aside. The sample brings the clock to its due time (L2). -/
def Obligations.SampleEntersTheRingsAndIsJudged : Prop :=
  ∀ (volts amps : Nat) (s : State), s.resetHeld = false →
    ∃ t, exec (.voltageSample volts amps) s = .next t ∧
      let v := min volts 300
      let a := min amps 2000
      let ring := pushRing s.inlet.voltRing v
      let restores : Prop := s.inlet.cond = .lost ∧ 90 ≤ v ∧ 1 ≤ s.inlet.restoreCount
      t.now = max s.now s.inlet.sampleDue ∧ t.inlet.sampleDue = s.inlet.sampleDue + 100 ∧
      t.inlet.currRing = pushRing s.inlet.currRing a ∧
      (restores → t.inlet.voltRing = ring.drop (ring.length - 2) ∧ t.inlet.cond = .normal ∧
        t.inlet.restoreCount = 0) ∧
      (¬ restores → t.inlet.voltRing = ring) ∧
      (v < 70 → t.inlet.cond = .lost ∧ t.inlet.restoreCount = 0) ∧
      (70 ≤ v → v < 90 → t.inlet.restoreCount = 0 ∧ (s.inlet.cond = .lost → t.inlet.cond = .lost)) ∧
      (90 ≤ v → s.inlet.cond = .lost → s.inlet.restoreCount = 0 →
        t.inlet.cond = .lost ∧ t.inlet.restoreCount = 1) ∧
      (70 ≤ v → s.inlet.cond ≠ .lost →
        t.inlet.cond = if ringMean ring < 90 then .brownout else .normal) ∧
      (s.cfg .irate * 11 < a → s.inlet.highCount < 2 → t.inlet.highCount = s.inlet.highCount + 1) ∧
      (s.cfg .irate * 11 < a → 2 ≤ s.inlet.highCount → t.inlet.highCount = 0) ∧
      (a ≤ s.cfg .irate * 11 → t.inlet.highCount = 0) ∧
      t.inlet.tc = s.inlet.tc ∧ t.inlet.derate = s.inlet.derate ∧ t.inlet.trim = s.inlet.trim ∧
      (v < 70 → (s.cust.reconActive = true → ∃ i, (s.bay i).isPending = true) →
        (s.power.drain.isSome → s.arb.queue ≠ [] ∨ s.arb.slotA.isSome ∨ s.arb.slotB.isSome) →
        (s.power.state = .serving →
          t.power = { s.power with
            state := .riding, rideDue := some (max s.now s.inlet.sampleDue + s.cfg .rideThrough) } ∧
          t.pool.inForce = 0 ∧ t.loop.power = s.loop.power) ∧
        (s.power.state = .riding ∨ s.power.state = .draining ∨ s.power.state = .transit →
          t.power = s.power ∧ t.loop.power = s.loop.power)) ∧
      (v < 70 → s.power.state = .settling → s.power.drain = none →
        (s.cust.reconActive = true → s.loop.power = true) →
        t.power = { s.power with state := .transit, settleDue := none } ∧ t.pool.inForce = 0 ∧
        t.loop.power = false ∧ t.loop.rebuild = none ∧ t.cust.reconActive = false)

/-- INLET_RESTORED: the sample that restores the inlet makes a cart in Transit Settling, with the settle timer running
from it at the settle interval and the rebuild cause Start for the first Settling after a start, Settle later (R20,
R145; after a first Settling cut short the cause is the model's choice, L52); in Riding it returns the cart to Serving
with the ride-through timer stopped (R18); in Draining, with the drain waiting for a pulse, it moves no power state and
the drain goes on (R19). In Transit and Draining an InletBack notice carries Vin. The inlet is Normal, the restore count
0 and the ring cut back to two samples (R2). That INLET_RESTORED is the sample is the model's choice (L3), and the sample
brings the clock to its due time (L2). -/
def Obligations.RestorationMovesThePowerState : Prop :=
  ∀ (volts amps : Nat) (s : State), s.resetHeld = false → s.cust.reconActive = false → s.inlet.cond = .lost →
    s.inlet.restoreCount = 1 → 90 ≤ volts →
    (s.power.drain.isSome → s.arb.queue ≠ [] ∨ s.arb.slotA.isSome ∨ s.arb.slotB.isSome) →
    ∃ t, exec (.inletRestored volts amps) s = .next t ∧ exec (.voltageSample volts amps) s = .next t ∧
      let back := s.notices.queue.length ≤ 16 → s.notices.levels.get .inletBack ≠ 0 →
        ⟨.inletBack, s.notices.levels.get .inletBack, s.retained.seconds, none, none, none, some t.vin, none⟩ ∈
          t.notices.queue
      t.inlet.cond = .normal ∧ t.inlet.restoreCount = 0 ∧
      t.inlet.voltRing.length = min 2 (s.inlet.voltRing.length + 1) ∧
      (s.power.state = .transit →
        t.power = { s.power with
          state := .settling
          settleDue := some (max s.now s.inlet.sampleDue + s.cfg .settle * 1000)
          settleCause := s.power.nextCause
          nextCause := .settle } ∧ t.pool.inForce = 0 ∧ back) ∧
      (s.power.state = .draining → t.power = s.power ∧ t.loop.power = s.loop.power ∧ back) ∧
      (s.power.state = .riding → t.power.state = .serving ∧ t.power.rideDue = none)

/-- STRIKE: the third consecutive sample above Irate × 11 appends the strike with the present seconds counter, due to
leave 600 s later, starts the 10 s hold-off, returns the count to 0, sets every commanded grant to 0, brings the round
to Holdoff with recompute pending, stores 0 as the pool at last allocation, and sets the latch, with the pool 0, where
the record then holds three strikes (R14 to R16, R42). A sample that also returns the cart from Riding is left aside.
STRIKE_AGE_OUT: the oldest strike leaves the record 600 s after its time; STRIKE_HOLDOFF_EXPIRY: the hold-off no
longer runs and a round state of Holdoff becomes Idle (R15, R43); either brings the clock to its due time (L2) and
changes nothing else. The sample does so too, and is STRIKE itself (L3); a strike's 600 s run on the model's clock (L54). -/
def Obligations.StrikesAreRecordedAndAgeOut : Prop :=
  (∀ (volts amps : Nat) (s : State), s.resetHeld = false → s.Calm → s.inlet.highCount = 2 →
    s.cfg .irate * 11 < min amps 2000 → (s.power.state = .riding → volts < 90) →
    ∃ t, exec (.strike volts amps) s = .next t ∧
      t.inlet.strikes =
        s.inlet.strikes ++ [⟨s.retained.seconds, max s.now s.inlet.sampleDue + 600000⟩] ∧
      t.inlet.holdoffDue = some (max s.now s.inlet.sampleDue + 10000) ∧ t.inlet.highCount = 0 ∧
      (∀ i, (t.bay i).commanded = 0 ∧ (t.bay i).outstanding = none) ∧
      t.round.state = .holdoff ∧ t.round.pending = true ∧ t.pool.atLast = 0 ∧
      t.inlet.latch = (s.inlet.latch || 2 ≤ s.inlet.strikes.length) ∧
      (s.inlet.latch = false → 2 ≤ s.inlet.strikes.length → t.pool.inForce = 0)) ∧
  ∀ s : State, s.resetHeld = false →
    (∀ x rest, s.inlet.strikes = x :: rest →
      exec .strikeAgeOut s =
        .next { s with now := max s.now x.due, inlet := { s.inlet with strikes := rest } }) ∧
    (∀ due, s.inlet.holdoffDue = some due →
      exec .strikeHoldoffExpiry s =
        .next { s with
          now := max s.now due
          inlet := { s.inlet with holdoffDue := none }
          round := { s.round with
            state := if s.round.state = .holdoff then .idle else s.round.state } })

/-- TEMPERATURE_READING: a reading from −20 to 100 is taken as Tc, any other as a sensor fault with Tc 55; D is 0 up to
35, 5 × (Tc − 35) from 36 to 54, 100 from 55; the next reading is due a second later (R5). -/
def Obligations.TemperatureGivesTheDerating : Prop :=
  ∀ (x : Int) (s : State), s.resetHeld = false →
    ∃ t, exec (.temperatureReading x) s = .next t ∧
      t.inlet.tempDue = s.inlet.tempDue + 1000 ∧
      (x < -20 ∨ 100 < x → t.inlet.tc = 55 ∧ t.inlet.derate = 100 ∧ t.inlet.sensorFault = true) ∧
      (-20 ≤ x → x ≤ 100 → t.inlet.tc = x ∧ t.inlet.sensorFault = false) ∧
      (-20 ≤ x → x ≤ 35 → t.inlet.derate = 0) ∧
      (36 ≤ x → x ≤ 54 → (t.inlet.derate : Int) = 5 * (x - 35)) ∧
      (55 ≤ x → x ≤ 100 → t.inlet.derate = 100) ∧
      t.inlet.voltRing = s.inlet.voltRing ∧ t.inlet.currRing = s.inlet.currRing ∧
      t.inlet.cond = s.inlet.cond ∧ t.inlet.trim = s.inlet.trim

/-- POOL_RECOMPUTE: the pool in force becomes the pool of the ten steps of R6, each division rounded down, and a pool
below the pool at last allocation, or 5 W or more above it, marks recompute pending (R6, R7). A pool below the counted
sum also sets the at-once mark; in Lowering or Raising every unsent GRANT of the round is withdrawn, which restores the
commanded grant it replaced, no raise follows, and the round ends unless a GRANT that it waits for is on the loop (R29,
R40, R41). An unsent fault GRANT that replaced a lowering GRANT of the round (R47) is none of those withdrawn: its bay's
commanded grant stays, and the round ends without waiting for it, the model's choice (L43). The recomputation brings
the clock to its due time (L2). -/
def Obligations.PoolFollowsTheTenSteps : Prop :=
  ∀ s : State, s.resetHeld = false → s.Calm →
    ∃ t, exec .poolRecompute s = .next t ∧
      let pin := s.vin * s.cfg .irate / 10
      let pusable := pin * (100 - s.cfg .headroom) / 100
      let pdc := pusable * s.cfg .efficiency / 100
      let pder := pdc * (100 - s.inlet.derate) / 100
      let pact := 2 * s.cfg .ppulse
      let raw : Int := (pder : Int) - s.cfg .pfix - pact - s.inlet.trim
      let capped : Int := if s.pool.quiet then min (max raw 0) (s.cfg .qcap) else max raw 0
      (t.pool.inForce : Int) =
        (if s.inlet.cond = .brownout ∨ s.power.state ≠ .serving ∨ s.inlet.latch = true then 0 else capped) ∧
      t.pool.recomputeDue = s.pool.recomputeDue + 1000 ∧ t.pool.quiet = s.pool.quiet ∧
      t.inlet = s.inlet ∧ t.power = s.power ∧
      (t.pool.inForce < t.pool.atLast ∨ t.pool.atLast + 5 ≤ t.pool.inForce → t.round.pending = true) ∧
      (t.pool.inForce < s.countedSum → t.round.atOnce = true ∧ t.round.pending = true ∧
        (s.round.state = .lowering ∨ s.round.state = .raising →
          let waited := if s.round.state = .lowering then s.round.lowering else s.round.raising
          let runsOn := ∃ o, s.loop.onLoop = some o ∧ ∃ i ∈ waited, o.txn.isRoundsFor i = true
          let unsent := fun i : BayIx => s.loop.unsent.any (Txn.isRoundGrantFor i) = true
          (∀ i, ¬ t.loop.unsent.any (Txn.isRoundGrantFor i)) ∧ t.round.toRaise = [] ∧
          (∀ i o, unsent i → (s.bay i).outstanding = some o →
            (t.bay i).commanded = o.replaced ∧ (t.bay i).outstanding = none) ∧
          (∀ i, ¬ unsent i → (t.bay i).commanded = (s.bay i).commanded) ∧
          (runsOn → t.round.state = s.round.state ∧ t.round.lastEnd = s.round.lastEnd) ∧
          (¬ runsOn → t.round.state = .idle ∧ t.round.lastEnd = some t.now)))

/-- TRIM_AUDIT: made only in Serving, with the round Idle or in Holdoff, both slots free and at least 1 s after the last
change of a grant, and skipped otherwise, when nothing changes but the next due time and the clock, brought to the
due time (L2) (R12); where it is made, a difference above +12 raises the trim by 8, one below −12 lowers it by 8, and
the trim stays within −40 and +80 (R13). -/
def Obligations.AuditMovesTheTrim : Prop :=
  ∀ s : State, s.resetHeld = false →
    let now := max s.now s.inlet.auditDue
    let delta : Int :=
      ((s.vin * s.iin / 100 * s.cfg .efficiency / 100 : Nat) : Int) -
        ((allBays.map fun i => if (s.bay i).link = .linked then (s.bay i).measured else 0).sum +
          s.cfg .pfix : Nat)
    let made : Prop :=
      s.power.state = .serving ∧ (s.round.state = .idle ∨ s.round.state = .holdoff) ∧
        s.arb.slotA = none ∧ s.arb.slotB = none ∧ s.round.lastGrantChange + 1000 ≤ now
    (¬ made → exec .trimAudit s =
      .next { s with now, inlet := { s.inlet with auditDue := s.inlet.auditDue + 4000 } }) ∧
    (made → ∃ t, exec .trimAudit s = .next t ∧ t.inlet.auditDue = s.inlet.auditDue + 4000 ∧
      (12 < delta → t.inlet.trim = min (s.inlet.trim + 8) 80) ∧
      (delta < -12 → t.inlet.trim = max (s.inlet.trim - 8) (-40)) ∧
      (-12 ≤ delta → delta ≤ 12 → t.inlet.trim = s.inlet.trim))

/-- RIDE_THROUGH_EXPIRY: the cart leaves Riding with the ride-through timer stopped, the pool 0, the ready set empty,
and no session Linking or Active, each of those ended Interrupted. While a pulse is in flight it is Draining, with a
drain of kind Cart that the drain limit ends, and the bays stand as stages 3 and 4 leave them: a Releasing bay whose
retract is queued becomes Locked with no record and no entry, one whose retract is in flight stays Releasing; a Released
bay that is Linked and present becomes Securing, its record kept with the window stopped and the late-take mark set, and
an engage asked for; another stays Released with its window stopped. With nothing queued, no pulse in flight and no
engage to ask for, the drain completes at once (R19, R90, R126, R129, R154 to R157). What a drain of kind Cart finds in
a window not started counts as its full length (L22); where a retract of R58 is queued for a bay made Securing, the
engage takes its place (L44). The expiry brings the clock to its due time (L2). -/
def Obligations.RideThroughExpiryBeginsADrain : Prop :=
  ∀ s : State, s.resetHeld = false → s.sess.Sound → ∀ due, s.power.rideDue = some due →
    ∃ t, exec .rideThroughExpiry s = .next t ∧
      let now := max s.now due
      let stopped := fun r : Release => match r.window with
        | .running end_ => end_ - now
        | .stopped left => left
        | .notStarted => r.length * 1000
      let open_ := fun i : BayIx => (s.bay i).link = .linked ∧ (s.bay i).presence = some true
      t.power.rideDue = none ∧ t.pool.inForce = 0 ∧
      (t.power.state = .draining ∨ t.power.state = .transit ∨ t.power.state = .settling) ∧
      t.cust.readySet = [] ∧ (∀ x ∈ t.sess.queue, x.state = .queued ∨ x.state = .draining) ∧
      (∀ x ∈ s.sess.queue, x.state = .linking ∨ x.state = .active →
        (t.bay x.bay).lastOutcome = some (.interrupted, x.id)) ∧
      (s.arb.slotA.isSome ∨ s.arb.slotB.isSome → s.loopHeld = false →
        t.power.state = .draining ∧
        t.power.drain = some ⟨.cart, 5, now + s.cfg .drainLimit * 1000⟩ ∧
        (∀ i, (s.bay i).custody = .releasing →
          (s.pulseInFlight i = true → (t.bay i).custody = .releasing) ∧
          (s.pulseInFlight i = false → (∃ d, (i, d) ∈ s.arb.queue) →
            (t.bay i).custody = .locked ∧ (t.bay i).release = none ∧ ∀ d, (i, d) ∉ t.arb.queue)) ∧
        (∀ i r, (s.bay i).custody = .released → (s.bay i).release = some r →
          (open_ i → (t.bay i).custody = .securing ∧
            (t.bay i).release = some { r with late := true, window := .stopped (stopped r) } ∧
            ((i, Dir.engage) ∈ t.arb.queue ∨ t.pulseInFlight i = true)) ∧
          (¬ open_ i → (t.bay i).custody = .released ∧
            (t.bay i).release = some { r with window := .stopped (stopped r) }))) ∧
      (s.arb.queue = [] → s.arb.slotA = none → s.arb.slotB = none →
        (∀ i, (s.bay i).custody = .released → ¬ open_ i) →
        t.power.drain = none ∧ t.loop.power = false ∧
        t.power.state = if s.inlet.cond = .lost then .transit else .settling)

/-- A drain ends at its limit, where it stands, or by completion: here at the verification read that ends the last pulse,
an engage verified on a present tablet, with nothing queued (R63, R105, R107, R156, R157). A drain of kind Cart leads to
Transit (R19), or through it to Settling where the inlet is back; one of kind Rebuild to the rebuild's PowerOff. Either
way the loop power goes off: every link Dark, nothing queued or on the loop, the arbiter held and empty, grants 0 (R134,
R107, R30). No round is in progress in a drain, whose shed ended it (R51). The limit brings the clock to its due time
(L2). -/
def Obligations.DrainLimitSwitchesTheLoopOff : Prop :=
  ∀ s : State, s.resetHeld = false → s.loop.power = true →
    (s.round.state = .idle ∨ s.round.state = .holdoff) → ∀ d, s.power.drain = some d →
    (d.kind = .rebuild → s.loop.rebuild.isSome) →
    let ended := fun (e : Out) (now : Nat) => ∃ t, e = .next t ∧
      t.power.drain = none ∧ t.loop.power = false ∧
      t.loop.queued = [] ∧ t.loop.waiting = [] ∧ t.loop.heldBack = [] ∧ t.loop.onLoop = none ∧
      t.loop.scan.running = false ∧ t.arb.queue = [] ∧ t.arb.slotA = none ∧ t.arb.slotB = none ∧
      t.arb.held = true ∧ t.cust.readySet = [] ∧
      (∀ i, (t.bay i).link = .dark ∧ (t.bay i).applied = 0 ∧ (t.bay i).commanded = 0 ∧
        (t.bay i).outstanding = none ∧ (t.bay i).lampShown = some .off) ∧
      (d.kind = .cart → s.inlet.cond = .lost → t.power.state = .transit) ∧
      (d.kind = .cart → s.inlet.cond ≠ .lost → t.power.state = .settling) ∧
      (d.kind = .rebuild → t.power.state = s.power.state ∧
        t.loop.rebuild = s.loop.rebuild.map fun r => { r with phase := .powerOff, due := now + 500 })
    ended (exec .drainLimitExpiry s) (max s.now d.due) ∧
    (∀ o, s.loop.onLoop = some o → ∀ k i, o.txn = .verify k i → ∀ p, s.slot k = some p → p.bay = i →
      p.dir = .engage → s.arb.queue = [] → (s.arb.slotA = none ∨ s.arb.slotB = none) →
      s.cust.reconActive = false → (s.bay i).recon = .none → (s.bay i).custody = .securing →
      ∀ resp a, answer? o.txn resp = some a → a.result = .ok → a.block.presence = true →
      a.block.bolt = .engaged → ∀ key, ended (exec (.status resp key) s) s.now)

/-- SETTLE_EXPIRY: the rebuild begins with the cause that the Settling carries, in PowerOff until the loop power has
been off for 500 ms and in Booting for 50 ms otherwise, and the live bay count comes into force (R21, R145, R146,
R189). The expiry brings the clock to its due time (L2). -/
def Obligations.SettleExpiryStartsTheRebuild : Prop :=
  ∀ s : State, s.resetHeld = false → s.Calm → s.loop.power = false →
    ∀ due, s.power.settleDue = some due →
    ∃ t, exec .settleExpiry s = .next t ∧ t.power = { s.power with settleDue := none } ∧
      t.loop.bayCount = s.cfg .bayCount ∧
      (max s.now due < s.loop.offSince + 500 →
        t.loop.power = false ∧
        t.loop.rebuild = some ⟨.powerOff, s.power.settleCause, 0, s.cfg .bayCount, 0, 0, false,
          s.loop.offSince + 500⟩) ∧
      (s.loop.offSince + 500 ≤ max s.now due →
        t.loop.power = true ∧
        t.loop.rebuild = some ⟨.booting, s.power.settleCause, 0, s.cfg .bayCount, 0, 0, false,
          max s.now due + 50⟩)


/-! ### Charge allocation (chapter 2) -/

/-- ROUND_BEGIN: where recompute pending is marked in Serving with the round Idle and the allocator not suspended, the
round takes its snapshot, its targets and the values at last allocation, and stores the pool as the pool at last
allocation. Every bay whose target lies below its commanded or applied grant is lowered; with none to lower and none to
raise the round ends at once; with raises issued the counted sum of all bays lies within the pool in force (R8, R28, R35
to R38, R40). The round's beginning brings the clock to the moment it was due (L2). -/
def Obligations.RoundTakesItsSnapshotAndTargets : Prop :=
  ∀ s : State, s.resetHeld = false → s.Calm → s.round.pending = true → s.round.state = .idle →
    s.power.state = .serving → s.round.suspended = false →
    ∃ t, exec .roundBegin s = .next t ∧
      let due := if s.round.atOnce then s.now else
        match s.round.lastEnd with
        | some e => e + s.cfg .spacing * 1000
        | none => s.now
      let goal := s.targetsNow
      let lowered := fun i : BayIx => goal[i.1] < (s.bay i).commanded ∨ goal[i.1] < (s.bay i).applied
      let raised := fun i : BayIx => (s.bay i).commanded < goal[i.1] ∧ ¬ lowered i
      t.now = max s.now due ∧ { t.kept with now := s.now } = s.kept ∧ t.round.targets = goal ∧
      t.round.snapPool = s.pool.inForce ∧ t.round.snapAlloc = s.allocatable ∧
      t.pool.atLast = s.pool.inForce ∧ t.pool.inForce = s.pool.inForce ∧ t.power = s.power ∧
      (∀ i, (t.bay i).kept = (if eligibleNow (s.bay i) then some (s.bay i).share else none) ∧
        (t.bay i).seen = (s.bay i).seen) ∧
      ((∃ i, lowered i) → t.round.state = .lowering ∧
        ∀ i, (t.bay i).commanded = if lowered i then goal[i.1] else (s.bay i).commanded) ∧
      ((∀ i, ¬ lowered i) → (∀ i, ¬ raised i) → t.round.state = .idle ∧ t.round.lastEnd = some t.now ∧
        ∀ i, (t.bay i).commanded = (s.bay i).commanded) ∧
      (s.round.raising = [] → t.round.raising ≠ [] → t.countedSum ≤ t.pool.inForce)

/-- The targets of a computation sum to no more than the allocatable pool; at most a batch of bays without a grant is
admitted; a target other than 0 goes to an eligible bay, from its floor to its cap; and a bay gets more than its floor
only where every admitted bay of an earlier tier has its cap (R31 to R33). -/
def Obligations.TargetsFitTheAllocatablePool : Prop :=
  ∀ s : State,
    let goal := s.targetsNow
    (allBays.map fun i => goal[i.1]).sum ≤ s.allocatable ∧
    (allBays.filter fun i => (s.bay i).commanded = 0 && goal[i.1] != 0).length ≤ s.cfg .batch ∧
    (∀ i : BayIx, goal[i.1] ≠ 0 → eligibleNow (s.bay i) = true ∧ (s.bay i).share.floor ≤ goal[i.1] ∧
      goal[i.1] ≤ max (s.bay i).share.floor (s.bay i).share.cap) ∧
    (∀ i j : BayIx, goal[i.1] ≠ 0 → (s.bay i).share.tier < (s.bay j).share.tier →
      (s.bay j).share.floor < goal[j.1] → goal[i.1] = max (s.bay i).share.floor (s.bay i).share.cap)

/-- A change of the bay port limit computes the cap, floor and tier of every bay afresh: the lesser of Pneg and Pport, 5
for a Pneg of 0; the taper from SoC 80, with 2 from SoC 98; the session floor for a session bay; and the tiers in their
order, unknown SoC counting as 50 (R26 to R28). -/
def Obligations.PortLimitRefreshesEveryShare : Prop :=
  ∀ s : State, s.Calm → ∀ f, s.link.buffer.head? = some f → s.Asks 0x10 3 f → payByte f.payload 0 = 0x10 →
    let pport := settingTaken .pport (payNat f.payload 1 2)
    pport ≠ s.cfg .pport →
    ∃ t, exec .setSetting s = .next t ∧ t.cfg .pport = pport ∧
      ∀ i,
        let b := s.bay i
        let soc := b.soc.getD 50
        let raw := min (if b.pneg = 0 then 5 else b.pneg) pport
        let tapered := if 98 ≤ soc then 2 else if 80 ≤ soc then max 5 (raw * (100 - soc) / 20) else raw
        let session : Bool := match s.sessionOf? i with
          | some x => x.state != .queued
          | none => false
        (t.bay i).share.cap = (if session then max tapered (s.cfg .fsess) else tapered) ∧
        (t.bay i).share.floor =
          (if session then s.cfg .fsess else if tapered = 2 then 2 else min 5 tapered) ∧
        (t.bay i).share.tier =
          (if session then 0 else if i ∈ s.cust.readySet then 1 else if 98 ≤ soc then 3 else 2)

/-! ### The bay loop (chapter 7) -/

/-- LOOP_TRANSACTION_BEGIN: on an idle loop that no rebuild holds, the oldest transaction of the highest class queue
that holds one begins where its position is Linked or Lost; one for an Absent or Dark position is not sent, and no
position that is Absent or Dark is ever addressed (R139, R143). The response wait counts from the begin of the attempt
(L29). -/
def Obligations.FrontOfTheHighestClassTakesTheLoop : Prop :=
  ∀ s : State, s.resetHeld = false → s.Calm → s.loop.onLoop = none → s.loopHeld = false →
    ∀ x, frontTxn s.loop.queued = some x → (x = .shed → s.loop.power = true) →
    ∃ t, exec .loopTransactionBegin s = .next t ∧ (∀ y ∈ s.loop.queued, x.rank ≤ y.rank) ∧
      s.loop.queued.find? (fun y => y.rank = x.rank) = some x ∧ t.kept = s.kept ∧ t.power = s.power ∧
      (∀ i, (t.bay i).seen = (s.bay i).seen) ∧
      ((∀ i, x.bay? = some i → (s.bay i).link = .linked ∨ (s.bay i).link = .lost) →
        t.loop.onLoop = some ⟨x, 1, s.now + 3, false⟩ ∧ t.loop.lastFrame = x.frame) ∧
      (∀ o, t.loop.onLoop = some o → ∀ i, o.txn.bay? = some i →
        (t.bay i).link = .linked ∨ (t.bay i).link = .lost)

/-- PLACEMENT_APPENDED: with a place free, the waiting placement of the highest class, the earliest among those, is
appended behind those queued, and nothing but the placements changes (R142). Which placements may enter when one is
kept back is the model's choice (L13). -/
def Obligations.WaitingPlacementTakesTheFreePlace : Prop :=
  ∀ s : State, s.resetHeld = false → s.loop.queued.length < 64 → ∀ x, frontTxn s.loop.waiting = some x →
    (∀ y ∈ s.loop.waiting, x.rank ≤ y.rank) ∧
    s.loop.waiting.find? (fun y => y.rank = x.rank) = some x ∧
    ∃ t, exec .placementAppended s = .next t ∧
      t.loop.queued.take (s.loop.queued.length + 1) = s.loop.queued ++ [x] ∧ t.loop.queued.length ≤ 64 ∧
      (s.loop.heldBack = [] →
        t.loop.queued = s.loop.queued ++ [x] ∧ t.loop.waiting = s.loop.waiting.erase x ∧
        t.loop.heldBack = []) ∧
      t = { s with
        loop := { s.loop with
          queued := t.loop.queued, waiting := t.loop.waiting, heldBack := t.loop.heldBack } }

/-- A first or second failed attempt sends the same command again at once: RESPONSE_WAIT_EXPIRY at the end of its
wait, to which the clock is brought (L2), RESPONSE_NOT_VALID where it comes (R136, R139). The response wait counts from
the begin of the attempt (L29). -/
def Obligations.FailedAttemptIsSentAgain : Prop :=
  ∀ s : State, s.resetHeld = false → ∀ o, s.loop.onLoop = some o → o.txn.address ≠ 63 → o.attempt < 3 →
    exec .responseWaitExpiry s = .next { s with
      now := max s.now o.waitDue
      loop := { s.loop with
        onLoop := some { o with attempt := o.attempt + 1, waitDue := max s.now o.waitDue + 3 }
        lastFrame := o.txn.frame } } ∧
    (∀ resp, answer? o.txn resp = none →
      exec (.responseNotValid resp) s = .next { s with
        loop := { s.loop with
          onLoop := some { o with attempt := o.attempt + 1, waitDue := s.now + 3 }
          lastFrame := o.txn.frame } })

/-- The third failed attempt of a transaction to a bay, a wait that expires or a response that is not valid, ends it
NoAnswer: the miss count rises, to 3 at most, and where a
Linked bay's count reaches 3 the link becomes Lost, with the seconds counter as its time of loss, and the bay leaves the
ready set. LINK_LOST is that event (L3). Of every other bay the fields that its node last reported and its bay faults
stay (R57, R92, R139, R140). A TAG of a Seating bay that ends so is placed again while the link stays Linked, its
attempts not counted up, and with the link Lost the seating stops (R57, R60); a GRANT that ends so, no round waiting for
it, leaves the commanded and the applied grant (R39). A wait that expires brings the clock to its end (L2). -/
def Obligations.ThirdFailedAttemptIsAMiss : Prop :=
  ∀ s : State, s.resetHeld = false → s.Calm → ∀ o, s.loop.onLoop = some o → o.attempt = 3 →
    ∀ i, o.txn.bay? = some i →
    let ends := fun (e : Out) (now : Nat) => ∃ t, e = .next t ∧ t.now = now ∧ t.loop.onLoop = none ∧
      let lost : Prop := (s.bay i).miss = 2 ∧ (s.bay i).link = .linked
      (t.bay i).miss = (if (s.bay i).miss < 3 then (s.bay i).miss + 1 else (s.bay i).miss) ∧
      (lost →
        (t.bay i).link = .lost ∧
        (t.bay i).lostAt = some s.retained.seconds ∧ (t.bay i).seatDue = none ∧ i ∉ t.cust.readySet) ∧
      (¬ lost → (t.bay i).link = (s.bay i).link ∧ (t.bay i).lostAt = (s.bay i).lostAt) ∧
      (t.bay i).soc = (s.bay i).soc ∧ (t.bay i).applied = (s.bay i).applied ∧
      (t.bay i).presence = (s.bay i).presence ∧ (t.bay i).bolt = (s.bay i).bolt ∧
      (∀ j, j ≠ i → (t.bay j).seen = (s.bay j).seen) ∧
      (o.txn = .tag i false → o.stale = false → (s.bay i).custody = .seating → (s.bay i).tagTries ≠ 0 →
        (t.bay i).custody = .seating ∧
        (lost → (t.bay i).tagTries = 0 ∧ (t.bay i).tagRetryDue = none) ∧
        (¬ lost → (s.bay i).link = .linked →
          (t.bay i).tagTries = (s.bay i).tagTries ∧ .tag i false ∈ t.loop.unsent)) ∧
      (∀ k w, o.txn = .grant k i w → s.round.state = .idle ∨ s.round.state = .holdoff →
        (t.bay i).commanded = (s.bay i).commanded ∧
        (t.bay i).outstanding = (if s.unsentGrant i then (s.bay i).outstanding else none))
    ends (exec .responseWaitExpiry s) (max s.now o.waitDue) ∧
    ((s.bay i).miss = 2 → (s.bay i).link = .linked → exec .linkLost s = exec .responseWaitExpiry s) ∧
    (∀ resp, answer? o.txn resp = none → ends (exec (.responseNotValid resp) s) s.now)

/-- STATUS: an answer OK to any STATUS addressed to a bay stores its fields, with SoC limited at 100, measured power
at 60 and the negotiated maximum brought to 5 to 45 where it is not 0; the miss count becomes 0 and a Lost link Linked
again. An answer that is a protocol fault stores nothing. Of every other bay the fields that its node last reported and
its bay faults stay (R24, R56, R138, R140, R141, R143). The keyswitch input is held as the event finds it (L31). What
the report brings about in custody is said by StatusIsJudgedByCustody and ReconciliationDecidesEveryBay. -/
def Obligations.StatusStoresTheReport : Prop :=
  ∀ (key : Bool) (s : State), s.resetHeld = false → s.Calm → ∀ o, s.loop.onLoop = some o →
    o.txn.opCode = 0x04 → ∀ i, o.txn.bay? = some i → ∀ resp a, answer? o.txn resp = some a →
    ∃ t, exec (.status resp key) s = .next t ∧ t.loop.onLoop = none ∧ t.keyswitch = key ∧
      (t.bay i).link = (if (s.bay i).link = .lost then .linked else (s.bay i).link) ∧
      (t.bay i).miss = 0 ∧ ((s.bay i).link = .lost → (t.bay i).lostAt = none) ∧
      (∀ j, j ≠ i → (t.bay j).seen = (s.bay j).seen) ∧
      (a.result = .ok →
        (t.bay i).presence = some a.block.presence ∧ (t.bay i).bolt = some a.block.bolt ∧
        (t.bay i).applied = a.block.limit ∧ (t.bay i).soc = a.block.soc ∧
        (t.bay i).pneg = (if a.block.pneg = 0 then 0 else min (max a.block.pneg 5) 45) ∧
        (t.bay i).measured = min a.block.measured 60 ∧ (t.bay i).overTemp = a.block.overTemp ∧
        (t.bay i).short = a.block.short ∧
        (a.block.overTemp = true → (t.bay i).hot = true ∧ (t.bay i).hotTime = some s.retained.seconds) ∧
        (a.block.short = true → (t.bay i).overdraw = true)) ∧
      (a.result ≠ .ok →
        (t.bay i).presence = (s.bay i).presence ∧ (t.bay i).bolt = (s.bay i).bolt ∧
        (t.bay i).applied = (s.bay i).applied ∧ (t.bay i).soc = (s.bay i).soc ∧
        (t.bay i).measured = (s.bay i).measured ∧ (t.bay i).overdraw = (s.bay i).overdraw ∧
        (t.bay i).hot = (s.bay i).hot)

/-- OVERDRAW_FAULT is the STATUS at which a bay's measured power lies above its applied grant and the greater of 3 and a
tenth of it for the third time in a row: the bay takes the fault, its count returns to 0, it is not eligible and leaves
the ready set, and outside a round it is commanded 0 where the loop is powered and not held (R44, R47). That
OVERDRAW_FAULT is the STATUS itself is the model's choice (L3). -/
def Obligations.ThirdReportOverTheBoundIsAFault : Prop :=
  ∀ (key : Bool) (s : State), s.resetHeld = false → s.Calm → ∀ o, s.loop.onLoop = some o →
    o.txn.opCode = 0x04 → ∀ i, o.txn.bay? = some i → (s.bay i).overdraw = false →
    (s.bay i).overdrawCount = 2 → ∀ resp a, answer? o.txn resp = some a → a.result = .ok →
    a.block.limit + max 3 (a.block.limit / 10) < min a.block.measured 60 →
    ∃ t, exec (.overdrawFault resp key) s = .next t ∧ exec (.status resp key) s = .next t ∧
      (t.bay i).overdraw = true ∧ (t.bay i).overdrawCount = 0 ∧ eligibleNow (t.bay i) = false ∧
      (t.bay i).applied = a.block.limit ∧ (t.bay i).measured = min a.block.measured 60 ∧
      i ∉ t.cust.readySet ∧
      (s.loop.power = true → s.loopHeld = false → s.round.state = .idle ∨ s.round.state = .holdoff →
        (t.bay i).commanded = 0)

/-- GRANT: an answer OK makes the limit it reports the applied grant and leaves the commanded grant as issued; any other
answer leaves both. The outstanding GRANT is cleared unless a later one waits, and the bay's link and miss count follow
R140 (R29, R39): this is said for a round Idle or in Holdoff, where no phase waits for the GRANT. A GRANT of the round,
answered or ended NoAnswer, is waited for no more: others that the phase waits for hold it; the last of Lowering begins
the raise phase, whose raises keep the counted sum within the pool in force, or ends a round that has none to raise or
was cut short; the last of Raising ends the round, which marks recompute pending where it left a backlog or a raise
unsent (R37 to R41, R47). -/
def Obligations.GrantAnswerSetsTheAppliedGrant : Prop :=
  (∀ s : State, s.resetHeld = false → s.Calm → (s.round.state = .idle ∨ s.round.state = .holdoff) →
    ∀ o, s.loop.onLoop = some o → o.txn.opCode = 0x06 → ∀ i, o.txn.bay? = some i →
    ∀ resp a, answer? o.txn resp = some a →
    ∃ t, exec (.grant resp) s = .next t ∧ t.loop.onLoop = none ∧ t.kept = s.kept ∧
      (t.bay i).applied = (if a.result = .ok then (a.byteAt 0).toNat else (s.bay i).applied) ∧
      (t.bay i).commanded = (s.bay i).commanded ∧
      (t.bay i).outstanding = (if s.unsentGrant i then (s.bay i).outstanding else none) ∧
      (t.bay i).miss = 0 ∧ (t.bay i).link = (if (s.bay i).link = .lost then .linked else (s.bay i).link) ∧
      (t.bay i).soc = (s.bay i).soc ∧ (t.bay i).presence = (s.bay i).presence ∧
      (∀ j, j ≠ i → (t.bay j).seen = (s.bay j).seen ∧ (t.bay j).commanded = (s.bay j).commanded)) ∧
  ∀ s : State, s.resetHeld = false → s.Calm → ∀ o, s.loop.onLoop = some o → ∀ k i w, o.txn = .grant k i w →
    k ≠ .fault false → s.loop.unsent.any (Txn.isRoundsFor i) = false →
    let ends := fun e : Out => ∃ t, e = .next t ∧
      (s.round.state = .lowering → (∃ j ∈ s.round.lowering, j ≠ i) →
        t.round.state = .lowering ∧ t.round.lowering = s.round.lowering.filter (· ≠ i)) ∧
      (s.round.state = .raising → (∃ j ∈ s.round.raising, j ≠ i) →
        t.round.state = .raising ∧ t.round.raising = s.round.raising.filter (· ≠ i)) ∧
      (s.round.state = .lowering → (∀ j ∈ s.round.lowering, j = i) →
        (s.round.cut = true ∨ s.round.toRaise = [] ∧ s.round.raising = [] →
          t.round.state = .idle ∧ t.round.lastEnd = some t.now) ∧
        (s.round.cut = false → s.round.raising = [] → t.round.toRaise = [] ∧
          (t.round.raising = [] → t.round.state = .idle ∧ t.round.lastEnd = some t.now) ∧
          (t.round.raising ≠ [] → t.round.state = .raising ∧ t.countedSum ≤ t.pool.inForce))) ∧
      (s.round.state = .raising → (∀ j ∈ s.round.raising, j = i) →
        t.round.state = .idle ∧ t.round.lastEnd = some t.now ∧
        (s.round.backlog ≠ 0 ∨ s.round.raiseUnsent = true → t.round.pending = true))
    (∀ resp a, answer? o.txn resp = some a → ends (exec (.grant resp) s)) ∧
    (o.attempt = 3 → ends (exec .responseWaitExpiry s))

/-- TAG: the read of a Seating bay of a known tablet with this home bay or none docks it: the bay becomes Securing
with the ID Docked and the entry Docked here, its holder and out-since cleared; an ID not in the roster under Refuse
and without the grace, and a second failed read, leave the bay Held Unknown and Held NoTag; a first failed read waits
1 s for the second (R60, R61). -/
def Obligations.TagReadIdentifiesTheTablet : Prop :=
  ∀ s : State, s.resetHeld = false → s.Calm → ∀ o, s.loop.onLoop = some o → o.stale = false →
    ∀ i, o.txn = .tag i false → (s.bay i).custody = .seating → (s.bay i).link = .linked →
    1 ≤ (s.bay i).tagTries → ∀ resp a, answer? o.txn resp = some a →
    ∃ t, exec (.tag resp) s = .next t ∧ t.loop.onLoop = none ∧ (t.bay i).miss = 0 ∧
      (a.result ≠ .ok ∨ a.asset = 0 → (s.bay i).tagTries < 2 →
        (t.bay i).custody = .seating ∧ (t.bay i).tagRetryDue = some (s.now + 1000)) ∧
      (a.result ≠ .ok ∨ a.asset = 0 → 2 ≤ (s.bay i).tagTries →
        (t.bay i).custody = .held .noTag ∧ (t.bay i).assetId = none ∧ (t.bay i).standing = none) ∧
      (a.result = .ok → a.asset ≠ 0 → s.entry? a.asset = none → s.cust.grace = false →
        s.cfg .foreignPolicy = 0 →
        (t.bay i).custody = .held .unknown ∧ (t.bay i).assetId = some a.asset ∧
        (t.bay i).standing = some .foreign) ∧
      (a.result = .ok → a.asset ≠ 0 → s.entry? a.asset = none →
        s.cust.grace = true ∨ s.cfg .foreignPolicy = 1 →
        (t.bay i).custody = .securing ∧ (t.bay i).assetId = some a.asset ∧
        (t.bay i).standing = some .foreign) ∧
      (∀ e, s.entry? a.asset = some e → a.result = .ok → a.asset ≠ 0 →
        (∀ b, e.state = .docked b → b ≠ i →
          (t.bay i).custody = .held .duplicate ∧ (t.bay i).assetId = some a.asset ∧
          (t.bay i).standing = some .unbound ∧ t.entry? a.asset = some e) ∧
        ((∀ b, e.state = .docked b → b = i) → e.home = none ∨ e.home = some i ∨ s.cfg .wrongHomePolicy = 1 →
          (t.bay i).custody = .securing ∧ (t.bay i).assetId = some a.asset ∧
          (t.bay i).standing = some .docked ∧
          t.entry? a.asset = some { e with state := .docked i, holder := none, outSince := none }) ∧
        ((∀ b, e.state = .docked b → b = i) → (∀ h, e.home = some h → h ≠ i) → e.home.isSome →
          s.cfg .wrongHomePolicy ≠ 1 →
          (t.bay i).custody = .held .wrongHome ∧ (t.bay i).standing = some .unbound ∧
          t.entry? a.asset = some e))

/-- LOCK: answered OK, the slot enters Travel for the pulse length it carried and 50 ms; refused or ended NoAnswer, the
attempt has failed: the first one cools down for 1 s, the second makes the bay Jammed with the direction of its pulse
and frees the slot (R69, R101, R104, R105). The verification read fails an attempt alike by a position that does not
verify its direction, a protocol fault or NoAnswer; verified, the slot is free and the bay goes on: Securing to Locked,
or Clearing without its tablet (R63); Releasing to Released with its window running, or Securing with the cancel mark
set (R85, R89); Clearing to Seating or Vacant (R66, R103). The freed slot goes to the oldest entry whose link is Linked,
with a LOCK of the pulse length in force; of two free slots slot A is taken, and an entry whose link is Lost keeps its
place (R100, R106). RELEASE_WINDOW_EXPIRY shows the same of a free arbiter: the engage that the end of a window asks for
takes slot A at once where the link is Linked and waits in the queue where it is not (R87), whatever the last presence,
false on a Linked bay included, the model's choice (L57). A verification read is judged as a report before it ends
(R143, L10). A wait that ends brings the clock to its end (L2). -/
def Obligations.LockAnswerMovesThePulse : Prop :=
  (∀ s : State, s.resetHeld = false → s.Calm → ∀ o, s.loop.onLoop = some o →
    ∀ k i d ms, o.txn = .lock k i d ms → ∀ p, s.slot k = some p → p.bay = i →
    let failed := fun (t : State) (now : Nat) =>
      (p.attempt = 1 → t.slot k = some { p with phase := .cooldown (now + 1000) }) ∧
      (p.attempt ≠ 1 → t.slot k ≠ some p ∧ ∃ w, (t.bay i).custody = .jammed p.dir w)
    (∀ resp a, answer? o.txn resp = some a →
      ∃ t, exec (.lock resp) s = .next t ∧ t.loop.onLoop = none ∧ (t.bay i).miss = 0 ∧
        (a.result = .ok → t.slot k = some { p with phase := .travel (s.now + ms + 50) }) ∧
        (a.result ≠ .ok → a.result ≠ .busy → failed t s.now)) ∧
    (o.attempt = 3 → ∃ t, exec .responseWaitExpiry s = .next t ∧ failed t (max s.now o.waitDue))) ∧
  (∀ s : State, s.resetHeld = false → s.Calm → ∀ o, s.loop.onLoop = some o →
    ∀ k i, o.txn = .verify k i → ∀ p, s.slot k = some p → p.bay = i → s.arb.Sound → (s.bay i).recon = .none →
    let failed := fun (t : State) (now : Nat) =>
      (p.attempt = 1 → t.slot k = some { p with phase := .cooldown (now + 1000) }) ∧
      (p.attempt ≠ 1 → ∃ w, (t.bay i).custody = .jammed p.dir w)
    let position : Bolt := match p.dir with
      | .engage => .engaged
      | .retract => .retracted
    (o.attempt = 3 → ∃ t, exec .responseWaitExpiry s = .next t ∧ failed t (max s.now o.waitDue)) ∧
    (∀ key resp a, answer? o.txn resp = some a →
      ∃ t, exec (.status resp key) s = .next t ∧
        let asks := fun d : Dir => (i, d) ∈ t.arb.queue ∨ t.pulseInFlight i = true
        let here := a.block.presence
        (a.result ≠ .ok ∨ a.block.bolt ≠ position → failed t s.now) ∧
        (a.result = .ok → a.block.bolt = position → t.slot k ≠ some p ∧
          (s.arb.queue = [] → p.dir = .engage → (s.bay i).custody = .securing → here = true →
            t.slot k = none) ∧
          (p.dir = .engage → (s.bay i).custody = .securing →
            (here = true → (t.bay i).custody = .locked ∧ (t.bay i).release = none) ∧
            (here = false → (t.bay i).custody = .clearing ∧ asks .retract)) ∧
          (∀ r, (s.bay i).release = some r → p.dir = .retract → (s.bay i).custody = .releasing → here = true →
            (r.cancel = false → (t.bay i).custody = .released ∧
              (t.bay i).release = some { r with window := .running (s.now + r.length * 1000) }) ∧
            (r.cancel = true → (t.bay i).custody = .securing ∧ (t.bay i).release = none ∧ asks .engage)) ∧
          (p.dir = .retract → (s.bay i).custody = .clearing →
            (here = true → (t.bay i).custody = .seating ∧
              (t.bay i).seatDue = some (s.now + s.cfg .seatSettle * 1000)) ∧
            (here = false → (t.bay i).custody = .vacant)) ∧
          (∀ e, s.arb.queue.find? (fun e => (s.bay e.1).link = .linked) = some e →
            p.dir = .engage → (s.bay i).custody = .securing → here = true → (s.bay i).link = .linked →
            s.power.state = .serving → s.arb.held = false →
            let g : PulseSlot := if k = .b ∧ s.arb.slotA.isSome then .b else .a
            t.slot g = some ⟨e.1, e.2, 1, s.cfg .pulseLength, 0, .sending none⟩ ∧
            .lock g e.1 e.2 (s.cfg .pulseLength) ∈ t.loop.unsent ∧ ∀ d, (e.1, d) ∉ t.arb.queue)))) ∧
  ∀ (i : BayIx) (s : State), s.resetHeld = false → s.Calm → s.power.state = .serving →
    s.arb = ⟨[], none, none, false⟩ → ∀ due, s.windowDue i = some due →
    ∃ t, exec (.releaseWindowExpiry i) s = .next t ∧
      ((s.bay i).link = .linked →
        t.arb = ⟨[], some ⟨i, .engage, 1, s.cfg .pulseLength, 0, .sending none⟩, none, false⟩ ∧
        .lock .a i .engage (s.cfg .pulseLength) ∈ t.loop.unsent) ∧
      ((s.bay i).link ≠ .linked → t.arb = ⟨[(i, .engage)], none, none, false⟩)

/-- A LOCK answered Busy raises the slot's Busy count by 1 and leaves the slot in Sending; below 5 the same LOCK is
placed again 100 ms after the answer, with the same direction, pulse length and attempt; the fifth Busy answer of an
attempt ends it as failed, and no verification read is placed (R102, R104). -/
def Obligations.BusyLockIsPlacedAgain : Prop :=
  ∀ s : State, s.resetHeld = false → s.Calm → ∀ o, s.loop.onLoop = some o →
    ∀ k i d ms, o.txn = .lock k i d ms → ∀ p, s.slot k = some p → p.bay = i →
    ∀ resp a, answer? o.txn resp = some a → a.result = .busy →
    ∃ t, exec (.lock resp) s = .next t ∧
      (∀ j, .verify k j ∈ t.loop.unsent → .verify k j ∈ s.loop.unsent) ∧
      (p.busy < 4 →
        t.slot k = some { p with busy := p.busy + 1, phase := .sending (some (s.now + 100)) } ∧
        ∃ u, exec (.busyRetryExpiry k) t = .next u ∧ u.now = s.now + 100 ∧
          u.slot k = some { p with busy := p.busy + 1, phase := .sending none } ∧
          .lock k i p.dir p.ms ∈ u.loop.unsent) ∧
      (4 ≤ p.busy → p.attempt = 1 →
        t.slot k = some { p with busy := p.busy + 1, phase := .cooldown (s.now + 1000) }) ∧
      (4 ≤ p.busy → p.attempt ≠ 1 → ∃ w, (t.bay i).custody = .jammed p.dir w)

/-- LAMP: answered OK, its colour becomes the colour shown, and a refusal leaves it unknown (R76); the bay's applied
grant, SoC, presence and custody stay, its miss count is 0 (R140), and of every other bay the fields that its node last
reported and its bay faults stay. SHED: the end of the broadcast leaves
the loop idle and changes nothing else (R139). -/
def Obligations.LampAndShedEnd : Prop :=
  ∀ s : State, s.resetHeld = false → ∀ o, s.loop.onLoop = some o →
    (o.txn = .shed → exec .shed s = .next { s with loop := { s.loop with onLoop := none } }) ∧
    (∀ i c, o.txn = .lamp i c → s.Calm → ∀ resp a, answer? o.txn resp = some a →
      ∃ t, exec (.lamp resp) s = .next t ∧ t.loop.onLoop = none ∧
        (t.bay i).lampShown = (if a.result = .ok then some c else none) ∧ (t.bay i).miss = 0 ∧
        (t.bay i).applied = (s.bay i).applied ∧ (t.bay i).soc = (s.bay i).soc ∧
        (t.bay i).presence = (s.bay i).presence ∧ (t.bay i).custody = (s.bay i).custody ∧
        (∀ j, j ≠ i → (t.bay j).seen = (s.bay j).seen))

/-- REBUILD_POWER_OFF_END switches the loop power on and boots for 50 ms; REBUILD_BOOT_END begins discovery at
position 1 with an IDENTIFY to address 0 (R146, R147). Discovery at a position: IDENTIFY answered OK keeps the serial
and sends ASSIGN; ASSIGN answered OK sets the miss count to 0, counts the position found and sends PASS close, and
refused or ended NoAnswer sends NODERESET; PASS close answered OK below the bay count goes on to the next position, and
at the bay count sends the surplus probe, whose end, NoAnswer among them, sends PASS open (R147, R148). An event at the
end of a timer brings the clock to its due time (L2), and the response wait counts from the begin of the attempt
(L29). -/
def Obligations.DiscoveryWalksThePositions : Prop :=
  (∀ s : State, s.resetHeld = false → ∀ r, s.loop.rebuild = some r →
    (r.phase = .powerOff → exec .rebuildPowerOffEnd s = .next { s with
      now := max s.now r.due
      loop := { s.loop with
        power := true
        rebuild := some { r with phase := .booting, due := max s.now r.due + 50 } } }) ∧
    (r.phase = .booting → exec .rebuildBootEnd s = .next { s with
      now := max s.now r.due
      loop := { s.loop with
        rebuild := some { r with phase := .discovering, position := 1 }
        onLoop := some ⟨.discIdentify 0, 1, max s.now r.due + 3, false⟩
        lastFrame := [0, 1, 0, crc8 [0, 1, 0]] } })) ∧
  (∀ s : State, s.resetHeld = false → s.Calm → ∀ o, s.loop.onLoop = some o →
    ∀ r, s.loop.rebuild = some r → r.phase = .discovering ∨ r.phase = .probing →
    ∀ resp a, answer? o.txn resp = some a →
    (∀ p, o.txn = .discIdentify p → a.result = .ok →
      ∃ t, exec (.identify resp) s = .next t ∧ (t.bay p).serial = some a.serial ∧
        t.loop.onLoop = some ⟨.discAssign p, 1, s.now + 3, false⟩) ∧
    (∀ p, o.txn = .discAssign p → a.result = .ok →
      ∃ t, exec (.assign resp) s = .next t ∧ (t.bay p).miss = 0 ∧
        t.loop.rebuild = some { r with found := p.1 + 1 } ∧
        t.loop.onLoop = some ⟨.discPass p, 1, s.now + 3, false⟩) ∧
    (∀ p, o.txn = .discAssign p → a.result ≠ .ok →
      ∃ t, exec (.assign resp) s = .next t ∧ t.loop.rebuild = some r ∧
        t.loop.onLoop = some ⟨.discReset p, 1, s.now + 3, false⟩) ∧
    (∀ p, o.txn = .discPass p → a.result = .ok → p.1 + 1 < r.bayCount → r.bayCount ≤ 36 →
      ∃ t, exec (.pass resp) s = .next t ∧
        t.loop.rebuild = some { r with phase := .discovering, position := p.1 + 2 } ∧
        ∃ x, t.loop.onLoop = some x ∧ x.attempt = 1 ∧ x.txn.frame = [0, 1, 0, crc8 [0, 1, 0]]) ∧
    (∀ p, o.txn = .discPass p → a.result = .ok → r.bayCount ≤ p.1 + 1 →
      ∃ t, exec (.pass resp) s = .next t ∧ t.loop.rebuild = some { r with phase := .probing } ∧
        t.loop.onLoop = some ⟨.probeIdentify p, 1, s.now + 3, false⟩) ∧
    (∀ p, o.txn = .probeIdentify p →
      ∃ t, exec (.identify resp) s = .next t ∧
        t.loop.rebuild = some { r with surplus := r.surplus || a.result = .ok } ∧
        t.loop.onLoop = some ⟨.probePass p, 1, s.now + 3, false⟩)) ∧
  ∀ s : State, s.resetHeld = false → s.Calm → ∀ o, s.loop.onLoop = some o → o.attempt = 3 →
    ∀ r, s.loop.rebuild = some r → r.phase = .discovering ∨ r.phase = .probing →
    let next := fun x : Txn => ∃ t, exec .responseWaitExpiry s = .next t ∧ t.now = max s.now o.waitDue ∧
      t.loop.rebuild = some r ∧ t.loop.onLoop = some ⟨x, 1, max s.now o.waitDue + 3, false⟩
    (∀ p, o.txn = .discAssign p → next (.discReset p)) ∧ (∀ p, o.txn = .probeIdentify p → next (.probePass p))

/-- The end of a rebuild at a position m: discovery's IDENTIFY refused or ended NoAnswer, PASS close likewise, and the
endings of NODERESET and of the closing PASS open, NoAnswer among them. The record is cleared and the hold ends,
positions up to m are Linked and those beyond Absent, without grants, every time of loss is cleared, and the scanner
starts a fresh pass with the STATUS of position 1. Reconciliation begins, Cold in the first after a cold start and Warm
otherwise: every position found is marked pending with a STATUS of its own, custody stands frozen, and with none found
it ends at once (R30, R147 to R149, R160). A wait that ends brings the clock to its end (L2). -/
def Obligations.RebuildEndsAtThePositionReached : Prop :=
  ∀ s : State, s.resetHeld = false → s.Calm → (s.round.state = .idle ∨ s.round.state = .holdoff) →
    ∀ o, s.loop.onLoop = some o → ∀ r, s.loop.rebuild = some r → r.phase = .discovering ∨ r.phase = .probing →
    let done := fun (e : Out) (m : Nat) => ∃ t, e = .next t ∧ t.loop.rebuild.isSome = false ∧
      (∀ i : BayIx, (t.bay i).link = (if i.1 < m then .linked else .absent) ∧
        (t.bay i).lostAt = none ∧ (t.bay i).custody = (s.bay i).custody ∧
        (m ≤ i.1 → (t.bay i).applied = 0 ∧ (t.bay i).commanded = 0 ∧ (t.bay i).outstanding = none) ∧
        (i.1 < m → (t.bay i).recon = .pending 0 ∧ .recon i ∈ t.loop.unsent)) ∧
      t.loop.scan.running = true ∧ t.loop.onLoop = none ∧
      t.cust.reconCase = (if s.cust.coldNext then .cold else .warm) ∧ t.cust.coldNext = false ∧
      t.cust.reconCause = r.cause ∧
      (m = 0 → t.loop.scan.passActive = false ∧
        ((∀ i, (s.bay i).isPending = false) → t.cust.reconActive = false)) ∧
      (0 < m → t.cust.reconActive = true ∧ t.loop.scan.passActive = true ∧ t.loop.scan.passStart = t.now ∧
        t.loop.scan.interval = s.cfg .scanPeriod / m ∧ t.loop.scan.position = some 0 ∧
        t.loop.scan.outstanding = true ∧ t.loop.scan.left = (allBays.take m).tail ∧
        .scan 0 ∈ t.loop.unsent)
    (∀ resp a, answer? o.txn resp = some a →
      (∀ p, o.txn = .discIdentify p → a.result ≠ .ok → done (exec (.identify resp) s) p.1) ∧
      (∀ p, o.txn = .discPass p → a.result ≠ .ok → done (exec (.pass resp) s) (p.1 + 1)) ∧
      (∀ p, o.txn = .discReset p → done (exec (.nodereset resp) s) p.1) ∧
      (∀ p, o.txn = .probePass p → done (exec (.pass resp) s) (p.1 + 1))) ∧
    (o.attempt = 3 →
      (∀ p, o.txn = .discIdentify p ∨ o.txn = .discReset p → done (exec .responseWaitExpiry s) p.1) ∧
      (∀ p, o.txn = .discPass p ∨ o.txn = .probePass p → done (exec .responseWaitExpiry s) (p.1 + 1)))

/-- SCAN_PASS_START takes the Linked and Lost positions in order, divides the scan period among them, and places the
first STATUS; a pass of none ends at once. SCAN_STATUS_PLACE, once the last STATUS has ended and the interval has
passed, places the next, passing over positions Absent or Dark, or ends the pass (R144). Either brings the clock to its
due time (L2). -/
def Obligations.ScanVisitsEveryPosition : Prop :=
  ∀ s : State, s.resetHeld = false → s.loop.scan.running = true → s.loopHeld = false →
    let on := fun i : BayIx => (s.bay i).link = .linked ∨ (s.bay i).link = .lost
    let bays := allBays.filter fun i => on i
    let from_ := max s.now s.loop.scan.nextStart
    let next := max s.now (s.loop.scan.lastPlaced + s.loop.scan.interval)
    (s.loop.scan.passActive = false →
      ∃ t, exec .scanPassStart s = .next t ∧ t.now = from_ ∧ t.bays = s.bays ∧
        t.loop.scan.passStart = from_ ∧ t.loop.scan.interval = s.cfg .scanPeriod / bays.length ∧
        (bays = [] → t.loop.scan.passActive = false ∧
          t.loop.scan.nextStart = from_ + s.cfg .scanPeriod ∧ t.loop.queued = s.loop.queued) ∧
        (∀ i, bays.head? = some i → t.loop.scan.passActive = true ∧ t.loop.scan.outstanding = true ∧
          t.loop.scan.position = some i ∧ t.loop.scan.left = bays.tail ∧
          t.loop.scan.lastPlaced = from_ ∧ .scan i ∈ t.loop.unsent)) ∧
    (s.loop.scan.passActive = true → s.loop.scan.outstanding = false →
      ∃ t, exec .scanStatusPlace s = .next t ∧ t.now = next ∧ t.bays = s.bays ∧
        (∀ i, s.loop.scan.left.find? (fun i => on i) = some i →
          t.loop.scan.position = some i ∧ t.loop.scan.outstanding = true ∧
          t.loop.scan.lastPlaced = next ∧ .scan i ∈ t.loop.unsent) ∧
        (s.loop.scan.left.find? (fun i => on i) = none → t.loop.scan.passActive = false ∧
          t.loop.scan.lastDuration = next - s.loop.scan.passStart ∧
          t.loop.scan.nextStart = max (s.loop.scan.passStart + s.loop.scan.period) next ∧
          t.loop.queued = s.loop.queued))

/-! ### Custody and reconciliation (chapters 3, 4 and 8) -/

/-- STATUS answered OK, as the scan reads it of a bay that does not wait for reconciliation, is judged against the
custody state (R56, R57). Vacant seats a tablet, or clears the bolt first (R58), but seats it with the bolt out of
place where a pulse for the bay stands (L38); Seating without its tablet is Vacant (R59); Securing without it: taken
Unlocked or Late, Vacant where no pulse is in flight (a queued retract then stays, the model's choice, L61), Securing
until its end where one is (R63, R88), and taken only once (L18); Locked: a tamper, Removed or Bolt (R64, R65), the
bolt of a removal being tested whatever pulse stands for the bay (L69); Releasing: taken Early (R66); Released: taken
InWindow (R86); Held: Vacant, with no notice but of the end of a session or of a charge fault in the same report
(R67), a Held bay being no member of the ready set; Jammed stays, its tablet lost (R69). A bolt out of place at a
Vacant, Held or Released bay asks a retract (R58). A bay whose link was Lost is Linked before it is judged, and an
entry that has waited for it takes a slot that is free for it first (R106, R139). What goes out of the roster takes
the holder and the time, a removal ends the bay's session but a Draining one (R128), a notice is queued where its
level is not 0 and there is room (R182). A press with the key on is a local release of a Locked or Held bay in Serving
without a running session; refused, it shows 2 s of red (R75, R94, R95); with the key off it has no effect. Other bays
keep custody, asset and release. -/
def Obligations.StatusIsJudgedByCustody : Prop :=
  ∀ (key : Bool) (s : State), s.resetHeld = false → s.Calm → s.sess.Sound → s.arb.Sound →
    ∀ o, s.loop.onLoop = some o → ∀ i, o.txn = .scan i → (s.bay i).recon = .none →
    (s.bay i).link = .linked ∨ (s.bay i).link = .lost →
    ∀ resp a, answer? o.txn resp = some a → a.result = .ok →
    ∃ t, exec (.status resp key) s = .next t ∧
      let b := s.bay i
      let here := a.block.presence
      let bolt := a.block.bolt
      let away : Prop := bolt ≠ .retracted ∧ s.standing i = .none
      let waiting := s.arb.queue.filter fun e => e.1 = i ∨ (s.bay e.1).link = .linked
      let granted : Prop := b.link = .lost ∧ ∃ e ∈ waiting.take (s.slotLimit - s.busySlots), e.1 = i
      let flies : Prop := s.pulseInFlight i = true ∨ granted
      let asks := fun d : Dir => (i, d) ∈ t.arb.queue ∨ t.pulseInFlight i = true
      let became := fun c : Custody => (t.bay i).custody = c
      let seats := became .seating ∧ (t.bay i).seatDue = some (s.now + s.cfg .seatSettle * 1000) ∧
        (t.bay i).tagTries = 0
      let moved := fun (st : EntryState) (holder : Option Badge) =>
        t.cust.roster = s.cust.roster.map fun e =>
          if e.state = .docked i then { e with state := st, holder, outSince := some s.retained.seconds } else e
      let emptied := (t.bay i).assetId = none ∧ (t.bay i).standing = none
      let stays := became b.custody ∧ (t.bay i).assetId = b.assetId ∧ (t.bay i).standing = b.standing ∧
        (t.bay i).release = b.release ∧ t.cust.roster = s.cust.roster
      let told := ∀ x ∈ s.sess.queue, x.bay = i →
        (x.state = .draining → x ∈ t.sess.queue) ∧
        (x.state ≠ .draining → t.session? x.id = none ∧ (t.bay i).lastOutcome = some (.removed, x.id))
      let said := fun (k : NoticeKind) (why : Option Reason) (v : Option Nat) =>
        s.notices.queue.length ≤ 16 → s.notices.levels.get k ≠ 0 →
        ⟨k, s.notices.levels.get k, s.retained.seconds, some i, b.assetId, none, v, why⟩ ∈ t.notices.queue
      let left := match b.release.map (·.window) with
        | some (.running due) => (due - s.now) / 1000
        | some (.stopped ms) => ms / 1000
        | some .notStarted => (b.release.map (·.length)).getD 0
        | none => 0
      let holder := b.release.bind (·.holder)
      let late := b.release.any (·.late)
      let running := ∃ x ∈ s.sess.queue, x.bay = i ∧ x.state ≠ .queued
      (∀ j, j ≠ i → (t.bay j).custody = (s.bay j).custody ∧ (t.bay j).assetId = (s.bay j).assetId ∧
        (t.bay j).release = (s.bay j).release) ∧
      (∀ j, j ≠ i → (j ∈ t.cust.readySet ↔ j ∈ s.cust.readySet)) ∧ (flies → t.pulseInFlight i = true) ∧
      (a.block.latch = false ∨ key = false → (t.bay i).displayDue = b.displayDue ∧
        (b.custody = .vacant →
          (here = true → (away → became .clearing ∧ asks .retract) ∧ (¬ away → seats)) ∧
          (here = false → became .vacant ∧ (away → asks .retract))) ∧
        (b.custody = .seating →
          (here = false → became .vacant ∧ (t.bay i).seatDue = none ∧ (t.bay i).tagTries = 0 ∧
            .tag i false ∉ t.loop.unsent) ∧
          (here = true →
            (b.seatDue = none → b.tagTries = 0 → seats) ∧
            (b.seatDue.isSome ∨ b.tagTries ≠ 0 → became .seating ∧ (t.bay i).seatDue = b.seatDue ∧
              (t.bay i).tagTries = b.tagTries))) ∧
        (b.custody = .securing →
          (here = true → stays) ∧
          (here = false →
            (flies → became .securing ∧ (t.bay i).gone = true) ∧
            (¬ flies → became .vacant ∧
              ((i, Dir.engage) ∈ s.arb.queue → ∀ d, (i, d) ∉ t.arb.queue)) ∧
            (b.gone = true → t.cust.roster = s.cust.roster) ∧
            (b.gone = false → emptied ∧ told ∧ (t.bay i).release = none ∧
              (late = true → moved .out holder ∧ said .taken (some .late) (some 0)) ∧
              (late = false → moved .out none ∧ said .taken (some .unlocked) (some 0))))) ∧
        (b.custody = .locked →
          (here = false → moved .missing none ∧ emptied ∧ told ∧ i ∉ t.cust.readySet ∧
            said .tamper (some .removed) none ∧
            (bolt = .engaged → became .clearing ∧ (s.standing i = .none → asks .retract)) ∧
            (bolt ≠ .engaged → became .vacant)) ∧
          (here = true →
            (bolt = .engaged ∨ s.standing i ≠ .none → stays) ∧
            (bolt ≠ .engaged → s.standing i = .none → became .securing ∧ asks .engage ∧
              (t.bay i).assetId = b.assetId ∧ t.cust.roster = s.cust.roster ∧ i ∉ t.cust.readySet ∧
              said .tamper (some .bolt) none ∧ ∀ x ∈ s.sess.queue, x.state ≠ .queued → x ∈ t.sess.queue))) ∧
        (b.custody = .releasing →
          (here = true → stays) ∧
          (here = false → became .clearing ∧ moved .out holder ∧ emptied ∧ (t.bay i).release = none ∧
            said .taken (some .early) (some 0))) ∧
        (b.custody = .released →
          (here = true → stays) ∧
          (here = false → became .vacant ∧ moved .out holder ∧ emptied ∧ (t.bay i).release = none ∧
            said .taken (some .inWindow) (some left)) ∧
          (away → asks .retract)) ∧
        (b.custody = .clearing → stays) ∧
        (b.isHeld = true →
          (here = true → stays) ∧
          (here = false → became .vacant ∧ moved .out none ∧ emptied ∧ told ∧
            (i ∉ s.cust.readySet → ∀ r ∈ t.notices.queue, r ∈ s.notices.queue ∨
              r.kind ∈ [.sessionEnded, .bayOverdraw, .bayHot])) ∧
          (away → asks .retract)) ∧
        (b.isJammed = true → became b.custody ∧
          (here = true ∨ b.assetId = none → t.cust.roster = s.cust.roster ∧ (t.bay i).assetId = b.assetId) ∧
          (here = false → b.assetId ≠ none → moved .missing none ∧ emptied ∧ told ∧
            said .tamper (some .jammed) none))) ∧
      (a.block.latch = true → key = true → here = true → b.link = .linked →
        let first : Option Release := some ⟨s.cfg .window, .notStarted, none, .button, false, false⟩
        let open_ : Option Release :=
          some ⟨s.cfg .window, .running (s.now + s.cfg .window * 1000), none, .button, false, false⟩
        (b.custody = .locked → bolt = .engaged → s.power.state = .serving → ¬ running →
          became .releasing ∧ (t.bay i).release = first ∧ (s.standing i = .none → asks .retract) ∧
            i ∉ t.cust.readySet ∧ said .localRelease none none ∧ (t.bay i).displayDue = b.displayDue) ∧
        (b.isHeld = true → s.power.state = .serving → ¬ running →
          became .released ∧ (t.bay i).release = open_ ∧ said .localRelease none none ∧
            (t.bay i).displayDue = b.displayDue) ∧
        (b.custody ∈ [.releasing, .released, .securing, .clearing] ∨ b.isJammed = true ∨
            (b.custody = .locked ∧ bolt = .engaged ∨ b.isHeld = true) ∧ (s.power.state ≠ .serving ∨ running) →
          became b.custody ∧ (t.bay i).release = b.release ∧
            (t.bay i).displayDue = some (s.now + 2000)))

/-- Reconciliation. A bay that waits is decided at a STATUS answered OK, whoever placed it, while another still waits
or, deferred, after the end (R160, R165); one of presence false decides it also while its tag read is under way (L23).
Warm and present, Locked, Securing and Held begin a tag read and keep their state; at its end the ID equal keeps the
bay (Locked, or Securing with an engage; Held), another makes it Held with a mismatch, and a failed read is repeated
once after 1 s (R161, R163), the end of a read under way deciding a bay deferred meanwhile too (L66). Warm and absent,
these are a mismatch, a tablet taken where the late-take mark stands, and a removal from Held. Vacant, Seating,
Clearing, Releasing, Released and Jammed follow R162, and the Cold case R164. A button latch in these reports is
discarded, that of a deferred bay too (R160, L67). The bolt is tested also where a pulse for the bay is in flight
(L72). A bolt out of place asks a retract, the admission and reconciliation marks are cleared (R68, R160). A
reconciliation STATUS that ends in a protocol fault is placed again and the third in a row defers the bay, one that
ends NoAnswer is placed again while the link is Linked, and with the link Lost the bay is deferred (R160). What leaves
the roster, ends a session or is told by a notice is as in StatusIsJudgedByCustody. With the last bay decided
reconciliation ends: the arbiter is held no more, the allocator leaves suspension with recompute pending, a rebuild of
cause Start or Settle leads to Serving with the pool of R6, and a LAMP is placed for each decided bay whose colour is
other than Off (R21, R52, R76, R165); a bay still deferred gets none before its own decision (L34). Where no bay is
Lost, so that no automatic rebuild follows (R152). -/
def Obligations.ReconciliationDecidesEveryBay : Prop :=
  ∀ (key : Bool) (s : State), s.resetHeld = false → s.power.drain = none → s.sess.Sound → s.arb.Sound →
    ∀ o, s.loop.onLoop = some o → ∀ i, (s.bay i).recon ≠ .none → (s.bay i).link = .linked →
    let b := s.bay i
    let goesOn := s.cust.reconActive = false ∨ ∃ j, j ≠ i ∧ (s.bay j).isPending = true
    let became := fun (t : State) (c : Custody) => (t.bay i).custody = c
    let asks := fun (t : State) (d : Dir) => (i, d) ∈ t.arb.queue ∨ t.pulseInFlight i = true
    let moved := fun (t : State) (st : EntryState) (holder : Option Badge) =>
      t.cust.roster = s.cust.roster.map fun e =>
        if e.state = .docked i then { e with state := st, holder, outSince := some s.retained.seconds } else e
    let emptied := fun t : State => (t.bay i).assetId = none ∧ (t.bay i).standing = none
    let keeps := fun t : State => (t.bay i).assetId = b.assetId ∧ (t.bay i).standing = b.standing ∧
      t.cust.roster = s.cust.roster
    let told := fun t : State => ∀ x ∈ s.sess.queue, x.bay = i →
      (x.state = .draining → x ∈ t.sess.queue) ∧
      (x.state ≠ .draining → t.session? x.id = none ∧ (t.bay i).lastOutcome = some (.removed, x.id))
    let said := fun (t : State) (k : NoticeKind) (why : Reason) (v : Option Nat) =>
      s.notices.queue.length ≤ 16 → s.notices.levels.get k ≠ 0 →
      ⟨k, s.notices.levels.get k, s.retained.seconds, some i, b.assetId, none, v, some why⟩ ∈ t.notices.queue
    let taken := fun t : State => moved t .out (b.release.bind (·.holder)) ∧ emptied t ∧
      (t.bay i).release = none ∧ said t .taken .absent (some 0)
    let held := b.isHeld = true
    let read := s.cust.reconCase = .warm ∧ (b.custody ∈ [.locked, .securing] ∨ held)
    (o.txn = .recon i ∨ o.txn = .scan i → ∀ resp a, answer? o.txn resp = some a → a.result = .ok →
      ∃ t, exec (.status resp key) s = .next t ∧
        let here := a.block.presence
        let home := a.block.bolt = .retracted
        let seats := became t .seating ∧ (t.bay i).seatDue = some (s.now + s.cfg .seatSettle * 1000)
        let empty := (home → became t .vacant) ∧ (¬ home → became t .clearing ∧ asks t .retract)
        (read → here = true → goesOn ∨ b.isPending = true →
          (t.bay i).recon = b.recon ∧ became t b.custody ∧ keeps t ∧
          (t.bay i).release = b.release ∧ (t.bay i).displayDue = b.displayDue ∧
          (b.tagTries = 0 → (t.bay i).tagTries = 1 ∧ .tag i true ∈ t.loop.unsent) ∧
          (b.tagTries ≠ 0 → (t.bay i).tagTries = b.tagTries)) ∧
        (goesOn → ¬ read ∨ here = false →
          (t.bay i).recon = .none ∧ (t.bay i).admission = false ∧ (t.bay i).displayDue = b.displayDue ∧
          (∀ j, j ≠ i → (t.bay j).custody = (s.bay j).custody ∧ (t.bay j).recon = (s.bay j).recon) ∧
          (s.cust.reconActive = false → b.lampShown = some .off → t.lampColour i ≠ .off →
            .lamp i (t.lampColour i) ∈ t.loop.unsent) ∧
          (s.cust.reconCase = .cold ∨ b.custody ∈ [.vacant, .seating, .clearing] → here = true →
            (home → seats) ∧ (¬ home → became t .clearing ∧ asks t .retract)) ∧
          (s.cust.reconCase = .cold → here = false → empty) ∧
          (s.cust.reconCase = .warm →
            (b.custody ∈ [.vacant, .seating, .clearing] → here = false →
              became t .vacant ∧ (¬ home → asks t .retract)) ∧
            (b.custody ∈ [.releasing, .released] →
              (here = true → became t .securing ∧ (t.bay i).release = none ∧ keeps t ∧ asks t .engage ∧
                said t .releaseCancelled (match s.cust.reconCause with
                  | .start | .settle => .transit
                  | .host | .auto => .rebuild) none) ∧
              (here = false → empty ∧ taken t)) ∧
            (b.custody = .locked ∨ b.custody = .securing → here = false → empty ∧
              (b.custody = .securing ∧ b.release.any (·.late) = true → taken t) ∧
              (b.custody = .locked ∨ b.release.any (·.late) = false → moved t .missing none ∧ emptied t ∧
                told t ∧ said t .custodyMismatch .absent none)) ∧
            (held → here = false → became t .vacant ∧ moved t .out none ∧ emptied t ∧ told t) ∧
            (b.isJammed = true → became t b.custody ∧
              (here = true ∨ b.assetId = none → keeps t) ∧
              (here = false → b.assetId ≠ none → moved t .missing none ∧ emptied t ∧ told t ∧
                said t .tamper .jammed none)))) ∧
        (¬ goesOn → ¬ read ∨ here = false → (∀ j, (s.bay j).link ≠ .lost) →
          t.cust.reconActive = false ∧ t.arb.held = false ∧ t.round.suspended = false ∧
          t.round.pending = true ∧
          (s.cust.reconCause = .host ∨ s.cust.reconCause = .auto → t.power = s.power) ∧
          (s.cust.reconCause = .start ∨ s.cust.reconCause = .settle →
            t.power = { s.power with state := .serving } ∧ t.pool.inForce = t.poolNow) ∧
          ∀ j, j = i ∨ (s.bay j).recon = .none → (s.bay j).link = .linked → (s.bay j).lampShown = some .off →
            t.lampColour j ≠ .off → .lamp j (t.lampColour j) ∈ t.loop.unsent)) ∧
    (∀ bolt, b.bolt = some bolt → o.txn = .tag i true → o.stale = false → read → goesOn →
      b.presence = some true → 1 ≤ b.tagTries → ∀ resp a, answer? o.txn resp = some a →
      ∃ t, exec (.tag resp) s = .next t ∧
        let id := if a.result = .ok ∧ a.asset ≠ 0 then some a.asset else none
        (id = none → b.tagTries < 2 → (t.bay i).recon = b.recon ∧ became t b.custody ∧ keeps t ∧
          (t.bay i).tagRetryDue = some (s.now + 1000)) ∧
        (id ≠ none ∨ 2 ≤ b.tagTries → (t.bay i).recon = .none ∧ (t.bay i).admission = false ∧
          (id = b.assetId → keeps t ∧
            (b.isHeld = false → bolt = .engaged → became t .locked ∧ (t.bay i).release = none) ∧
            (b.isHeld = false → bolt ≠ .engaged →
              became t .securing ∧ asks t .engage ∧ (t.bay i).release = b.release) ∧
            (held → became t b.custody ∧ (bolt ≠ .retracted → asks t .retract))) ∧
          (id ≠ b.assetId →
            became t (.held (if held ∧ id = none then .noTag else .swapped)) ∧ (t.bay i).assetId = id ∧
            (t.bay i).standing = (id.map fun x => if (s.entry? x).isSome then .unbound else .foreign) ∧
            moved t .missing none ∧ (t.bay i).release = none ∧ told t ∧
            said t .custodyMismatch .swapped none ∧ (bolt ≠ .retracted → asks t .retract)))) ∧
    (∀ n, b.recon = .pending n → o.txn = .recon i →
      (n < 2 ∨ goesOn ∨ (∀ j, (s.bay j).link ≠ .lost) →
        ∀ resp a, answer? o.txn resp = some a → a.result ≠ .ok →
        ∃ t, exec (.status resp key) s = .next t ∧ became t b.custody ∧ keeps t ∧
          (n < 2 → (t.bay i).recon = .pending (n + 1) ∧ .recon i ∈ t.loop.unsent) ∧
          (2 ≤ n → (t.bay i).recon = .deferred)) ∧
      (o.attempt = 3 → b.miss ≠ 2 ∨ goesOn →
        ∃ t, exec .responseWaitExpiry s = .next t ∧ became t b.custody ∧ keeps t ∧
          (b.miss ≠ 2 → (t.bay i).recon = .pending n ∧ .recon i ∈ t.loop.unsent) ∧
          (b.miss = 2 → (t.bay i).recon = .deferred ∧ (t.bay i).link = .lost)))

/-! ### The timers of pulses, bays and sessions (chapters 3 to 6) -/

/-- TRAVEL_WAIT_EXPIRY places the verification read and the slot checks (R103); COOLDOWN_EXPIRY begins the second
attempt with a LOCK of the pulse length in force, its Busy count at 0 (R104); BUSY_RETRY_EXPIRY places the same LOCK
again (R102). SEAT_SETTLE_EXPIRY places the first TAG of a bay with its attempts at 1; TAG_RETRY_DELAY_EXPIRY places
the next and counts it (R59, R60). Nothing else changes. A timer's event brings the clock to its due time (L2). -/
def Obligations.BoltAndTagTimersPlaceTheirTransactions : Prop :=
  (∀ (k : PulseSlot) (s : State), s.resetHeld = false → ∀ p, s.slot k = some p →
    (∀ due, p.phase = .travel due →
      exec (.travelWaitExpiry k) s =
        .next ((({ s with now := max s.now due } : State).setSlot k
          (some { p with phase := .checking })).place (.verify k p.bay))) ∧
    (∀ due, p.phase = .sending (some due) →
      exec (.busyRetryExpiry k) s =
        .next ((({ s with now := max s.now due } : State).setSlot k
          (some { p with phase := .sending none })).place (.lock k p.bay p.dir p.ms))) ∧
    (∀ due, p.phase = .cooldown due →
      exec (.cooldownExpiry k) s =
        .next ((({ s with now := max s.now due } : State).setSlot k
          (some { p with
            attempt := 2, ms := s.cfg .pulseLength, busy := 0, phase := .sending none })).place
          (.lock k p.bay p.dir (s.cfg .pulseLength))))) ∧
  ∀ (i : BayIx) (s : State), s.resetHeld = false →
    (∀ due, (s.bay i).seatDue = some due →
      exec (.seatSettleExpiry i) s =
        .next ((({ s with now := max s.now due } : State).setBay i
          { s.bay i with seatDue := none, tagTries := 1 }).place (.tag i false))) ∧
    (∀ due, (s.bay i).tagRetryDue = some due →
      exec (.tagRetryDelayExpiry i) s =
        .next ((({ s with now := max s.now due } : State).setBay i
          { s.bay i with tagRetryDue := none, tagTries := (s.bay i).tagTries + 1 }).place
          (.tag i (decide ((s.bay i).recon ≠ .none)))))

/-- REFUSED_DISPLAY_END ends the display, and the lamp's colour is derived without it (R75). RELEASE_WINDOW_EXPIRY
makes a Released bay Securing with its late-take mark set, its window stopped, its asset field and the roster as they
stand, and an engage asked for (R87), in the place of a retract of R58 still queued (L44), whatever the last presence
(L57); the window stopped has nothing remaining (L48). The expiry brings the clock
to its due time (L2). The NotTaken notice is not said here. -/
def Obligations.DisplayAndWindowEnd : Prop :=
  ∀ (i : BayIx) (s : State), s.resetHeld = false → s.Calm →
    (∀ due, (s.bay i).displayDue = some due →
      ∃ t, exec (.refusedDisplayEnd i) s = .next t ∧ (t.bay i).displayDue = none ∧
        (t.bay i).lampDerived = t.lampColour i ∧ (t.bay i).custody = (s.bay i).custody ∧
        (∀ j, (t.bay j).seen = (s.bay j).seen)) ∧
    (∀ r, (s.bay i).release = some r → ∀ due, r.window.runsTo = some due → (s.bay i).custody = .released →
      ∃ t, exec (.releaseWindowExpiry i) s = .next t ∧ t.now = max s.now due ∧
        (t.bay i).custody = .securing ∧
        (t.bay i).release = some { r with late := true, window := .stopped 0 } ∧
        (t.bay i).assetId = (s.bay i).assetId ∧ (t.bay i).standing = (s.bay i).standing ∧
        t.cust.roster = s.cust.roster ∧
        ((i, Dir.engage) ∈ t.arb.queue ∨ t.pulseInFlight i = true) ∧
        (∀ j, (t.bay j).seen = (s.bay j).seen))

/-- The end of a session's timer: in Linking LinkTimeout, in Active Expired, in Draining Completed where its result was
ok and Failed otherwise. The session leaves the queue, its outcome stands with the bay, and its channel loses its join
and takes its pending configuration (R122 to R124, R126). The expiry brings the clock to its due time (L2). The
SessionEnded notice is not said here. -/
def Obligations.SessionTimersEndTheSession : Prop :=
  ∀ s : State, s.resetHeld = false → s.Calm → s.sess.Sound → ∀ x ∈ s.sess.queue, ∀ due, x.due = some due →
    let ends := fun (e : Out) (o : SessOutcome) => ∃ t, e = .next t ∧ t.now = max s.now due ∧
      t.session? x.id = none ∧ (t.bay x.bay).lastOutcome = some (o, x.id) ∧
      (∀ y ∈ s.sess.queue, y.state ≠ .queued → y.id ≠ x.id → y ∈ t.sess.queue) ∧
      (∀ c, x.channel = some c → (t.chan c).session ≠ some x.id ∧
        ((t.chan c).session = none → (t.chan c).join = none) ∧ (t.chan c).pendingCfg = none ∧
        (t.chan c).cfg = (s.chan c).pendingCfg.getD (s.chan c).cfg) ∧
      (∀ j, (t.bay j).seen = (s.bay j).seen)
    (x.state = .linking → ends (exec (.linkTimerExpiry x.id) s) .linkTimeout) ∧
    (x.state = .active → ends (exec (.idleTimerExpiry x.id) s) .expired) ∧
    (x.state = .draining → x.result = some true → ends (exec (.drainSettleExpiry x.id) s) .completed) ∧
    (x.state = .draining → x.result ≠ some true → ends (exec (.drainSettleExpiry x.id) s) .failed)

/-! ### The host line, Retained Memory and the starts (chapters 9 and 11) -/

/-- HOST_SILENCE_EXPIRY: the standalone flag is set, the timer stops, and every Queued session, no other, leaves the
queue with outcome Withdrawn; of the bays the fields that their nodes last reported, the bay faults and the custody
state stay, as do the custody unit, loop, pulses, power and pool (R130, R178, R179). The expiry brings the clock to its
due time (L2). -/
def Obligations.HostSilenceWithdrawsTheQueuedSessions : Prop :=
  ∀ s : State, s.resetHeld = false → s.sess.Sound → ∀ due, s.link.silenceDue = some due →
    ∃ t, exec .hostSilenceExpiry s = .next t ∧ t.now = max s.now due ∧ t.link.standalone = true ∧
      t.link.silenceDue = none ∧ t.sess.queue = s.sess.queue.filter (·.state ≠ .queued) ∧
      t.sess.channels = s.sess.channels ∧
      (∀ x ∈ s.sess.queue, x.state = .queued → (t.bay x.bay).lastOutcome = some (.withdrawn, x.id)) ∧
      (∀ i, (t.bay i).seen = (s.bay i).seen ∧ (t.bay i).custody = (s.bay i).custody) ∧
      t.cust = s.cust ∧ t.arb = s.arb ∧ t.loop = s.loop ∧ t.power = s.power ∧ t.pool = s.pool

/-- HOLDUP_SENSE: a charge below 20 begins an episode where none runs, with one HoldupLow notice of that charge, and 30
or more ends it; SECONDS_TICK: the counter advances by 1 and wraps (R182, R184, R192). Either brings the clock to its
due time (L2). -/
def Obligations.HoldupEpisodesAndSeconds : Prop :=
  ∀ (charge : Nat) (s : State), s.resetHeld = false →
    exec .secondsTick s = .next { s with
      now := max s.now s.retained.secondDue
      retained := { s.retained with
        seconds := s.retained.seconds + 1, secondDue := s.retained.secondDue + 1000 } } ∧
    ∃ t, exec (.holdupSense charge) s = .next t ∧
      t.retained = { s.retained with
        holdupDue := s.retained.holdupDue + 1000
        lowEpisode := charge < 20 || (s.retained.lowEpisode && charge < 30) } ∧
      (20 ≤ charge ∨ s.retained.lowEpisode = true → t.notices.queue = s.notices.queue) ∧
      (charge < 20 → s.retained.lowEpisode = false → s.notices.levels.get .holdupLow ≠ 0 →
        s.notices.queue.length < 32 →
        t.notices.queue = s.notices.queue ++
          [⟨.holdupLow, s.notices.levels.get .holdupLow, s.retained.seconds, none, none, none,
            some charge, none⟩]) ∧
      t.bays = s.bays ∧ t.inlet = s.inlet ∧ t.sess = s.sess ∧ t.loop = s.loop

/-- BYTE_RECEIVED and LINE_ERROR move the frame receiver as the table of R169 states, and a byte that comes more than
20 ms after the one before it is taken in Hunting. Nothing else changes, a discarded frame included, but at
FRAME_ARRIVAL, the checksum byte that makes the sum 0: with a slot free the frame takes it, the host-silence timer
restarts and the standalone flag is cleared, and the ready line follows the slots; with both full it is discarded
(R167, R169, R170, R178, R179). The gap is an operand in microseconds, its bound inclusive (L28); that FRAME_ARRIVAL is
the byte itself is the model's choice (L3). -/
def Obligations.FrameReceiverTakesEachByte : Prop :=
  ∀ (b : Byte) (gap : Nat) (s : State), s.resetHeld = false →
    let r : RxState := if 20000 < gap then .hunting else s.link.rx
    let put := fun x : RxState => Host.Outcome.next { s with link := { s.link with rx := x } }
    let limit := s.cfg .silence
    exec .lineError s = put .hunting ∧
    (r = .hunting → exec (.byteReceived b gap) s = put (if b = 0x5E then .length else .hunting)) ∧
    (r = .length → exec (.byteReceived b gap) s =
      put (if 2 ≤ b.toNat ∧ b.toNat ≤ 250 then .body b.toNat [] else .hunting)) ∧
    (∀ n got, r = .body n got → exec (.byteReceived b gap) s =
      put (if got.length + 1 = n then .checksum (got ++ [b]) else .body n (got ++ [b]))) ∧
    (∀ body, r = .checksum body → byteSum body + byte body.length + b ≠ 0 →
      exec (.byteReceived b gap) s = put .hunting) ∧
    (∀ body, r = .checksum body → byteSum body + byte body.length + b = 0 →
      ∃ t, exec (.byteReceived b gap) s = .next t ∧ exec (.frameArrival b gap) s = .next t ∧
        t.link.rx = .hunting ∧ t.link.tx = s.link.tx ∧ t.notices.queue = s.notices.queue ∧
        t.bays = s.bays ∧
        (s.link.buffer.length < 2 →
          t.link.buffer = s.link.buffer ++
            [⟨body.getD 0 0, body.getD 1 0, body.drop 2, s.link.standalone, s.now⟩] ∧
          t.link.standalone = false ∧
          t.link.silenceDue = (if limit = 0 then none else some (s.now + limit * 1000)) ∧
          t.link.ready = decide (s.link.buffer.length = 0)) ∧
        (2 ≤ s.link.buffer.length → t.link.buffer = s.link.buffer ∧
          t.link.standalone = s.link.standalone ∧ t.link.silenceDue = s.link.silenceDue))

/-- CLEAR_LINE_CHANGE moves the clear line and the count of reply bytes begun, and nothing else (R168, L28).
REPLY_SENT comes only where the line is asserted or the last byte has begun: the slot is freed, the ready line
asserted where a slot is free, and a Fetch hold ends with the attention line judged afresh (R167, R170, R187). -/
def Obligations.ReplyIsSentUnderTheClearLine : Prop :=
  ∀ (level : Bool) (begun : Nat) (x : Int) (s : State), s.resetHeld = false →
    (level = s.link.clear → exec (.clearLineChange level begun) s = .next s) ∧
    (level ≠ s.link.clear →
      ∃ t, exec (.clearLineChange level begun) s = .next t ∧ t.link.clear = level ∧
        t = { s with link := { s.link with clear := level, tx := t.link.tx } } ∧
        (∀ y, s.link.tx = some y → ∃ z, t.link.tx = some z ∧ z.bytes = y.bytes ∧ z.after = y.after ∧
          min y.begun y.bytes.length ≤ z.begun)) ∧
    (∀ y, s.link.tx = some y → s.link.clear = false → y.begun ≠ y.bytes.length →
      exec (.replySent x) s = .next s) ∧
    (∀ y, s.link.tx = some y → s.link.clear = true ∨ y.begun = y.bytes.length → y.after ≠ .restart →
      ∃ t, exec (.replySent x) s = .next t ∧ t.link.tx = none ∧ t.link.buffer = s.link.buffer.tail ∧
        t.link.ready = decide (s.link.buffer.tail.length < 2) ∧
        t.notices.fetchHold = (if y.after = .fetch then false else s.notices.fetchHold) ∧
        t.notices.attention = (!t.notices.fetchHold &&
          s.notices.queue.any fun n => s.cfg .attention ≤ n.level) ∧
        t.notices.queue = s.notices.queue ∧ t.bays = s.bays ∧ t.loop = s.loop ∧ t.sess = s.sess ∧
        t.cust = s.cust ∧ t.power = s.power ∧ t.settings = s.settings)

/-- POWER_ON, RESET_PIN_RELEASE and the end of a Restart's reply make a start with its cause: Cold where Retained
Memory is invalid. Every block stands at its start values, custody, roster, trim, latch and seconds at their cold
values or as they were retained, a kept release record with its window stopped, and the settings and levels as the
image gives them, brought into their ranges as Set Setting would (the model's choice for an image no Save Settings
wrote, L27), or at their defaults where no image holds (R17, R23, R53, R77, R78, R110, R132, R153, R180, R183, R191 to
R193). The Notice Queue is emptied, its overflow flag clear and with no Fetch hold; Started is the first record
placed, at a Warm-restart the SessionEnded notices of outcome Reset follow it in the order of the old queue, and after
them comes no more than the first temperature reading raises (R132, R188). RESET_PIN_ASSERT brings the outputs to
their start values, stops a running window (L47) and keeps what is retained (R194). What the holdup cell kept and the
first temperature are operands of the commands (L8, L32); a window not started of a bay Releasing or Released counts
as stopped at its full length (L22). -/
def Obligations.StartsTakeTheStartValues : Prop :=
  ∀ (x : Int) (s : State),
    let started := fun (e : Out) (c : StartCause) => ∃ t, e = .next t ∧ t.resetHeld = false ∧
      t.link.cause = c ∧ t.link.fromImage = s.image.isSome ∧ t.link.buffer = [] ∧ t.link.tx = none ∧
      t.link.rx = .hunting ∧ t.link.ready = true ∧ t.link.standalone = false ∧
      t.power = ⟨.transit, none, none, none, .start, .start⟩ ∧ t.pool.inForce = 0 ∧ t.pool.atLast = 0 ∧
      t.pool.quiet = false ∧ t.inlet.cond = .lost ∧ t.inlet.voltRing = [] ∧ t.inlet.currRing = [] ∧
      t.inlet.restoreCount = 0 ∧ t.inlet.highCount = 0 ∧ t.inlet.strikes = [] ∧
      t.inlet.holdoffDue = none ∧ t.round.state = .idle ∧ t.round.suspended = true ∧
      t.loop.power = false ∧ t.loop.rebuild = none ∧ t.loop.queued = [] ∧ t.loop.waiting = [] ∧
      t.loop.onLoop = none ∧ t.loop.scan.running = false ∧ t.arb = ⟨[], none, none, true⟩ ∧
      t.sess.queue = [] ∧ t.sess.nextId = 1 ∧ t.cust.readySet = [] ∧ t.cust.reconActive = false ∧
      (∀ k, (t.chan k).join = none ∧ (t.chan k).session = none ∧ (t.chan k).pendingCfg = none) ∧
      (∀ i, (t.bay i).link = .dark ∧ (t.bay i).serial = none ∧ (t.bay i).miss = 0 ∧
        (t.bay i).applied = 0 ∧ (t.bay i).commanded = 0 ∧ (t.bay i).overdraw = false ∧
        (t.bay i).hot = false ∧ (t.bay i).chargeOn = true ∧ (t.bay i).recon = .none) ∧
      (c = .cold → t.cust.roster = [] ∧ t.cust.grace = true ∧ t.inlet.trim = 0 ∧
        t.inlet.latch = false ∧ t.retained.seconds = 0 ∧
        ∀ i, (t.bay i).custody = .vacant ∧ (t.bay i).assetId = none ∧ (t.bay i).release = none) ∧
      (c ≠ .cold → t.cust.roster = s.cust.roster ∧ t.cust.grace = s.cust.grace ∧
        t.inlet.trim = s.inlet.trim ∧ t.inlet.latch = s.inlet.latch ∧
        t.retained.seconds = s.retained.seconds ∧
        ∀ i, (t.bay i).custody = (s.bay i).custody ∧ (t.bay i).admission = (s.bay i).admission ∧
          (t.bay i).assetId = (s.bay i).assetId ∧ (t.bay i).standing = (s.bay i).standing ∧
          (t.bay i).release = (s.bay i).release.map fun r => { r with
            window := match r.window with
              | .running due => .stopped (due - s.now)
              | .stopped left => .stopped left
              | .notStarted =>
                if (s.bay i).custody = .releasing ∨ (s.bay i).custody = .released then
                  .stopped (r.length * 1000)
                else .notStarted }) ∧
      (s.image = none → t.settings = .defaults ∧ t.notices.levels = .defaults) ∧
      (∀ m, s.image = some m →
        (∀ i, i ≠ .settle → i ≠ .silence →
          t.cfg i = min (max (m.settings.get i) (Config.settingRow i).lo) (Config.settingRow i).hi) ∧
        ∀ k, t.notices.levels.get k =
          if Config.fixedLevel k = true then 7 else min (m.levels.get k) 7) ∧
      t.notices.overflow = false ∧ t.notices.fetchHold = false ∧
      t.notices.attention = t.notices.queue.any (fun n => t.cfg .attention ≤ n.level) ∧
      ((c = .warmRestart → s.sess.Sound) →
        let record := fun (k : NoticeKind) (n : Notice) =>
          if t.notices.levels.get k = 0 then []
          else [{ n with kind := k, level := t.notices.levels.get k, time := t.retained.seconds }]
        let first := record .started ⟨.started, 0, 0, none, none, none,
          some (match c with
            | .cold => 0
            | .warmPin => 1
            | .warmRestart => 2),
          some (if s.image.isSome then .storeLoaded else .storeDefaults)⟩
        let resets := if c = .warmRestart then s.sess.queue.flatMap fun x =>
            record .sessionEnded ⟨.sessionEnded, 0, 0, some x.bay, (s.bay x.bay).assetId, some x.id,
              some (match x.channel with
                | some k => k.1 + 1
                | none => 0),
              some (.outcome .reset)⟩
          else []
        let said := first ++ resets
        t.notices.queue.take said.length = said ∧
          (∀ n ∈ t.notices.queue.drop said.length, n.kind = .derating ∨ n.kind = .thermalCutoff) ∧
          (∀ i, (t.bay i).lastOutcome =
            if c = .warmRestart then (s.sessionOf? i).map fun x => (.reset, x.id) else none))
    (∀ kept, started (exec (.powerOn kept x) s)
      (if s.retained.valid = true ∧ kept = true then .warmPin else .cold)) ∧
    (s.resetHeld = true → started (exec (.resetPinRelease x) s)
      (if s.retained.valid = true then .warmPin else .cold)) ∧
    (s.resetHeld = false → ∀ y, s.link.tx = some y → y.after = .restart →
      s.link.clear = true ∨ y.begun = y.bytes.length → started (exec (.replySent x) s)
        (if s.retained.valid = true then .warmRestart else .cold)) ∧
    (s.resetHeld = false → ∃ t, exec .resetPinAssert s = .next t ∧ t.resetHeld = true ∧
      t.loop.power = false ∧ t.link.ready = false ∧ t.link.tx = none ∧ t.notices.attention = false ∧
      (∀ k, (t.chan k).join = none) ∧
      (∀ i, t.bay i = { s.bay i with
        release := (s.bay i).release.map fun r => { r with
          window := match r.window with
            | .running due => .stopped (due - s.now)
            | w => w } }) ∧
      t.cust = s.cust ∧ t.inlet = s.inlet ∧ t.retained = s.retained ∧ t.image = s.image)

/-! ### Requests (chapters 9 to 12) -/

/-- A request of the catalogue with a payload of any other length than its kind allows is answered BadLength, and a
command whose kind is not that of the frame to be taken does nothing (L4); a kind not in the catalogue is answered
UnknownKind. Neither has any effect beyond its reply. A refused
request changes no state: where a command forms a reply with a result code of 11h or above, the reply is all that it
changes, Save Settings answered Faulted being the exception R191 makes (R171, R173). -/
def Obligations.RefusalsOnlyAnswer : Prop :=
  (∀ (c : Instr) (s : State), s.resetHeld = false → s.link.tx = none →
    ∀ f, s.link.buffer.head? = some f →
    (∀ k, requestKind? c = some k → f.kind.toNat = k → payloadLength? k ≠ some f.payload.length →
      exec c s = .next { s with
        link := { s.link with
          tx := some ⟨replyBytes f.tag f.kind .badLength [], if s.link.clear then 1 else 0, .nothing⟩ } }) ∧
    (∀ k, requestKind? c = some k → f.kind.toNat ≠ k → exec c s = .next s) ∧
    (payloadLength? f.kind.toNat = none →
      exec .unknownKind s = .next { s with
        link := { s.link with
          tx := some ⟨replyBytes f.tag f.kind .unknownKind [], if s.link.clear then 1 else 0, .nothing⟩ } })) ∧
  ∀ (c : Instr) (s t : State), s.resetHeld = false → s.link.tx = none → (∀ w, c ≠ .saveSettings w) →
    exec c s = .next t → ∀ x, t.link.tx = some x → 0x11 ≤ (x.bytes.getD 4 0).toNat →
    t = { s with link := { s.link with tx := some x } }

/-- Every reply formed is a frame for the request at the head of the buffer: start byte, length, the tag as received,
the kind with 80h added, and a checksum that makes the sum from the length byte on 0; nothing of the request's frame
is lost from the buffer (R171, R172). Whatever the state, a reply has at most 253 bytes and the length byte counts those
between it and the checksum. -/
def Obligations.EveryReplyIsAFrame : Prop :=
  ∀ (c : Instr) (s t : State), s.resetHeld = false → s.link.tx = none → exec c s = .next t →
    ∀ x, t.link.tx = some x → ∃ f, s.link.buffer.head? = some f ∧ t.link.buffer = s.link.buffer ∧
      x.bytes.take 1 = [0x5E] ∧ (x.bytes.drop 2).take 2 = [f.tag, f.kind + 0x80] ∧
      byteSum x.bytes.tail = 0 ∧ 6 ≤ x.bytes.length ∧ x.bytes.length ≤ 253 ∧
      (x.bytes.getD 1 0).toNat = x.bytes.length - 3 ∧ x.begun ≤ 1

/-- Identify, Cart Status, Pool Status and Get Setting are answered Done in every power state, with the values that
their rules list, and change nothing but the reply and, for Cart Status, the keyswitch input, which the state holds as
last read (L31) (R11, R175, R176, R190). Get Setting gives the live value of a numbered setting, the value in force
beside that of the bay count, and for each of the four fields of a channel the value in force and the pending one; a
number not in the table is refused BadValue (R189, R190). The 19 bytes of Pool Status are those of chapter 12, the signed
ones in two's complement and the number of strikes modulo 256 (L50). The layouts that chapter 12 does not spell out are
the model's (L25), and what Cart Status carries is the list that `cartPayload` names. -/
def Obligations.CartReportsChangeNothing : Prop :=
  ∀ (key : Bool) (s : State), ∀ f, s.link.buffer.head? = some f →
    let only := fun (e : Out) (s : State) (payload : List Byte) => ∃ t, e = .next t ∧
      s.Replies t f .done payload ∧ t = { s with link := { s.link with tx := t.link.tx } }
    let n := payByte f.payload 0
    let field := fun (g : ChanCfg) (k : Nat) => match k with
      | 0 => if g.enabled then 1 else 0
      | 1 => g.base
      | 2 => g.size
      | _ => if g.restricted then 1 else 0
    (s.Asks 0x01 0 f → only (exec .identifyRequest s) s
      ([0x04, 0x36, Config.firmwareMajor, Config.firmwareMinor, byte (startCode s.link.cause),
        if s.link.fromImage then 0 else 1] ++ be4 s.retained.seconds ++
        [byte s.loop.bayCount, if f.standalone then 1 else 0])) ∧
    (s.Asks 0x02 0 f → only (exec (.cartStatus key) s) { s with keyswitch := key }
      (State.cartPayload { s with keyswitch := key } f)) ∧
    (s.Asks 0x05 0 f → only (exec .poolStatus s) s
      (be2 s.pool.inForce ++ be2 s.pool.atLast ++ be2 s.vin ++ be2 s.iin ++
        [byte s.inlet.voltRing.length, byte s.inlet.currRing.length, BitVec.ofInt 8 s.inlet.tc,
          byte s.inlet.derate, BitVec.ofInt 8 s.inlet.trim] ++ be2 (s.cfg .qcap) ++
        [match s.inlet.cond with
          | .lost => 0
          | .normal => 1
          | .brownout => 2,
          byte (s.inlet.strikes.length % 256),
          match s.inlet.holdoffDue with
          | some due => byte ((due - s.now) / 1000)
          | none => 0,
          byte ((if s.inlet.sensorFault then 1 else 0) + (if s.pool.quiet then 2 else 0) +
            (if s.inlet.latch then 4 else 0))])) ∧
    (∀ i, s.Asks 0x11 1 f → n = (Config.settingRow i).number → i ≠ .bayCount →
      only (exec .getSetting s) s (be2 (s.cfg i))) ∧
    (s.Asks 0x11 1 f → n = 0x28 →
      only (exec .getSetting s) s (be2 (s.cfg .bayCount) ++ be2 s.loop.bayCount)) ∧
    (∀ c : ChanIx, ∀ k ∈ [0, 1, 2, 3], s.Asks 0x11 1 f → n = 0x40 + 4 * c.1 + k →
      only (exec .getSetting s) s (be2 (field (s.chan c).cfg k) ++
        match (s.chan c).pendingCfg with
        | some p => 1 :: be2 (field p k)
        | none => [0, 0, 0])) ∧
    (s.Asks 0x11 1 f → (∀ i, n ≠ (Config.settingRow i).number) → n < 0x40 ∨ 0x4F < n →
      exec .getSetting s = .next (s.reply f .badValue []))

/-- Bay Status, Bay Summary, Roster Get, Roster List, Ready Set Status and Session Status change nothing but the
reply. Bay Status and Bay Summary refuse a bay number of 0 or above 36 NoBay; Bay Summary gives up to 12 bays; Roster
List up to 8 entries from a position, with a flag where more remain. Ready Set Status gives the number of members and
of those at the ready threshold, a flag where members remain, and from a position up to 8 members in selection order,
each with its bay, its SoC or FFh and its asset ID (R74, R93, R131, R177; layouts L25). Bay Status reports a bay above
the bay count in force with its link Absent (R177). What Bay Status and Session Status carry are the lists that
`bayPayload`, `sessionPayload` and `sessionSummary` name. -/
def Obligations.BayReportsChangeNothing : Prop :=
  ∀ s : State, ∀ f, s.link.buffer.head? = some f →
    let n := payByte f.payload 0
    let only := fun (e : Out) (r : Result) (payload : List Byte) => ∃ t, e = .next t ∧
      s.Replies t f r payload ∧ t = { s with link := { s.link with tx := t.link.tx } }
    (s.Asks 0x03 1 f → n = 0 ∨ 36 < n → only (exec .bayStatus s) .noBay []) ∧
    (∀ i, s.Asks 0x03 1 f → n = bayNumber i → only (exec .bayStatus s) .done (s.bayPayload i)) ∧
    (∀ i, (s.bayPayload i).reverse.take 2 = [byte (s.bay i).miss,
      byte (if s.loop.bayCount < bayNumber i then 2 else linkCode (s.bay i).link)]) ∧
    (s.Asks 0x04 1 f → n = 0 ∨ 36 < n → only (exec .baySummary s) .noBay []) ∧
    (∀ i, s.Asks 0x04 1 f → n = bayNumber i → only (exec .baySummary s) .done
      ((if n + 11 < 36 then 1 else 0) :: byte (min 12 (37 - n)) ::
        ((allBays.drop (n - 1)).take 12).flatMap s.summaryBytes)) ∧
    (s.Asks 0x23 1 f → only (exec .rosterList s) .done
      (byte s.cust.roster.length :: ((s.cust.roster.drop n).take 8).flatMap entryBytes ++
        [if n + 8 < s.cust.roster.length then 1 else 0])) ∧
    (∀ e, s.entry? (BitVec.ofNat 64 (payNat f.payload 0 8)) = some e → s.Asks 0x22 8 f → e.asset ≠ 0 →
      only (exec .rosterGet s) .done
        (entryBytes e ++ [byte (s.cust.roster.findIdx (·.asset = e.asset))])) ∧
    (s.Asks 0x37 1 f → only (exec .readySetStatus s) .done
      (let all := s.cust.readySet
        let page := (all.drop n).take 8
        [byte all.length,
          byte (all.filter fun i => (s.bay i).soc.any fun q => s.cfg .readyThreshold ≤ q).length,
          if n + 8 < all.length then 1 else 0, byte page.length] ++
        page.flatMap fun i => byte (bayNumber i) ::
          (match (s.bay i).soc with
            | some q => byte q
            | none => 0xFF) :: be8 ((s.bay i).assetId.getD 0))) ∧
    (s.Asks 0x45 1 f → n = 0 → only (exec .sessionStatus s) .done s.sessionSummary) ∧
    (∀ x, s.session? n = some x → s.Asks 0x45 1 f → n ≠ 0 →
      only (exec .sessionStatus s) .done (s.sessionPayload x)) ∧
    (s.Asks 0x45 1 f → n ≠ 0 → s.session? n = none → only (exec .sessionStatus s) .unknown [])

/-- Set Setting: a numbered setting takes the value brought into its range, the settle interval the next allowed one
and the silence limit 0 or at least 30, the reply is Clamped where that changed it, no other setting moves and the
image stays; a settle interval above 32 becomes 32. A value other than 0 or 1 for a policy or the auto rebuild, and a
number of no setting, are refused BadValue. A channel's enabled or restricted other than 0 or 1 is refused BadValue;
its size is taken as the next allowed one, its base at most 63 and a multiple of the size, rounded down at a change of
size too (R112). A channel field goes into force in an Off or Free channel and into the pending configuration
otherwise, and the reply carries the number and the value taken, Clamped where a value was changed. Set Quiet sets or
clears the flag, with the pool of R6 for it at once (R9, R22, R112, R113, R174, R178, R189, R190). -/
def Obligations.SettingsTakeTheirValues : Prop :=
  ∀ s : State, s.Calm → ∀ f, s.link.buffer.head? = some f →
    let v := payNat f.payload 1 2
    (∀ i, s.Asks 0x10 3 f → payByte f.payload 0 = (Config.settingRow i).number →
      (Config.enumerated i = true → 1 < v → exec .setSetting s = .next (s.reply f .badValue [])) ∧
      (Config.enumerated i = false ∨ v ≤ 1 →
        ∃ t, exec .setSetting s = .next t ∧
          (i ≠ .settle → i ≠ .silence →
            t.cfg i = min (max v (Config.settingRow i).lo) (Config.settingRow i).hi) ∧
          (i = .settle → t.cfg i ∈ [2, 4, 8, 16, 32] ∧ (v ≤ 32 → v ≤ t.cfg i ∧ t.cfg i < max 3 (2 * v)) ∧
            (32 < v → t.cfg i = 32)) ∧
          (i = .silence → t.cfg i = if v = 0 then 0 else min (max v 30) 3600) ∧
          s.Replies t f (if t.cfg i = v then .done else .clamped)
            (byte (Config.settingRow i).number :: be2 (t.cfg i)) ∧
          (∀ j, j ≠ i → t.cfg j = s.cfg j) ∧ t.image = s.image ∧
          (i = .silence → t.cfg i ≠ s.cfg i →
            t.link.silenceDue = if t.cfg i = 0 then none else some (s.now + t.cfg i * 1000)))) ∧
    (s.Asks 0x10 3 f → (∀ i, payByte f.payload 0 ≠ (Config.settingRow i).number) →
      payByte f.payload 0 < 0x40 ∨ 0x4F < payByte f.payload 0 →
      exec .setSetting s = .next (s.reply f .badValue [])) ∧
    (∀ (c : ChanIx) (field : Fin 4), s.Asks 0x10 3 f → payByte f.payload 0 = 0x40 + 4 * c.1 + field.1 →
      (field.1 = 0 ∨ field.1 = 3 → 1 < v → exec .setSetting s = .next (s.reply f .badValue [])) ∧
      (field.1 = 1 ∨ field.1 = 2 ∨ v ≤ 1 →
        let old := (s.chan c).wanted
        let size := if v ≤ 4 then 4 else if v ≤ 8 then 8 else if v ≤ 16 then 16 else if v ≤ 32 then 32 else 64
        let aligned := fun n m : Nat => min n 63 / m * m
        let new : ChanCfg := match field.1 with
          | 0 => { old with enabled := decide (v = 1) }
          | 1 => { old with base := aligned v old.size }
          | 2 => { old with size, base := aligned old.base size }
          | _ => { old with restricted := decide (v = 1) }
        let taken := match field.1 with
          | 1 => new.base
          | 2 => size
          | _ => v
        ∃ t, exec .setSetting s = .next t ∧ (t.chan c).wanted = new ∧
        s.Replies t f (if taken = v ∧ (field.1 = 2 → new.base = old.base) then .done else .clamped)
          (byte (payByte f.payload 0) :: be2 taken) ∧
        ((s.chan c).state = .off ∨ (s.chan c).state = .free → new ≠ (s.chan c).wanted →
          (t.chan c).cfg = new) ∧
        ((s.chan c).state ≠ .off → (s.chan c).state ≠ .free → (t.chan c).cfg = (s.chan c).cfg) ∧
        t.settings = s.settings)) ∧
    (s.Asks 0x13 1 f → payByte f.payload 0 ≤ 1 →
      ∃ t, exec .setQuiet s = .next t ∧ s.Replies t f .done [] ∧
        t.pool.quiet = decide (payByte f.payload 0 = 1) ∧
        t.pool.inForce = State.poolNow { s with pool := { s.pool with quiet := t.pool.quiet } } ∧
        t.inlet = s.inlet ∧ t.power = s.power)

/-- Save Settings writes the live settings, the pending configuration of a channel that has one, and the levels, and is
answered Done; where the store does not take the write the image is as the failed write left it, and the reply Faulted.
What the store did is an operand of the command (L8).
The live settings stay (R191). Set Notice Level refuses an unknown kind BadValue and a fixed kind at another level
WrongState, and otherwise sets the kind's level, 7 for any above; no queued record and no line moves (R183). -/
def Obligations.ImageAndLevelsAreWritten : Prop :=
  ∀ (left : Option SettingsImage) (s : State), ∀ f, s.link.buffer.head? = some f →
    let v := payByte f.payload 1
    (s.Asks 0x12 0 f →
      (∃ t, exec (.saveSettings .taken) s = .next t ∧ s.Replies t f .done [] ∧
        t = { s with image := t.image, link := { s.link with tx := t.link.tx } } ∧
        ∃ m, t.image = some m ∧ m.settings = s.settings ∧ m.levels = s.notices.levels ∧
          ∀ c : ChanIx, m.channels[c.1] = (s.chan c).pendingCfg.getD (s.chan c).cfg) ∧
      (∃ t, exec (.saveSettings (.failed left)) s = .next t ∧ s.Replies t f .faulted [] ∧
        t = { s with image := left, link := { s.link with tx := t.link.tx } })) ∧
    (s.Asks 0x61 2 f → (∀ k, payByte f.payload 0 ≠ (Config.kindRow k).1) →
      exec .setNoticeLevel s = .next (s.reply f .badValue [])) ∧
    (∀ k, s.Asks 0x61 2 f → payByte f.payload 0 = (Config.kindRow k).1 →
      (Config.fixedLevel k = true → v < 7 →
        exec .setNoticeLevel s = .next (s.reply f .wrongState [])) ∧
      (Config.fixedLevel k = false ∨ 7 ≤ v →
        ∃ t, exec .setNoticeLevel s = .next t ∧ t.notices.levels.get k = min v 7 ∧
          (∀ j, j ≠ k → t.notices.levels.get j = s.notices.levels.get j) ∧
          s.Replies t f (if v ≤ 7 then .done else .clamped) [byte (Config.kindRow k).1, byte (min v 7)] ∧
          t.notices.queue = s.notices.queue ∧ t.notices.attention = s.notices.attention ∧
          t.settings = s.settings ∧ t.bays = s.bays))

/-- Fetch Notices removes the oldest records, 1 to 8 as asked for, and clears the overflow flag; the reply tells the
flag as it stood, whether records remain, and the records; the Fetch hold begins and releases the attention line.
Nothing else but the ready line, judged afresh, changes (R185 to R187). The layout of the record and the flags is that
of chapter 12 (L25). -/
def Obligations.FetchRemovesTheOldestNotices : Prop :=
  ∀ s : State, ∀ f, s.link.buffer.head? = some f → s.Asks 0x60 1 f →
    let n := payByte f.payload 0
    let k := min (max n 1) 8
    let kept := s.notices.queue.drop k
    ∃ t, exec .fetchNotices s = .next t ∧ t.notices.queue = kept ∧ t.notices.overflow = false ∧
      t.notices.fetchHold = true ∧ t.notices.attention = false ∧ t.notices.levels = s.notices.levels ∧
      s.Replies t f (if n = k then .done else .clamped)
        ([byte ((if s.notices.overflow then 1 else 0) + if kept = [] then 0 else 2),
          byte (min k s.notices.queue.length)] ++ (s.notices.queue.take k).flatMap noticeBytes) .fetch ∧
      t = { s with
        notices := t.notices
        link := { s.link with tx := t.link.tx, ready := decide (s.link.buffer.length < 2) } }

/-- Roster requests are refused with the codes of R71 where their values are out of their sets, and the checks are made
before any change: an asset ID of zeros BadValue, for Put a home bay above 36 BadValue, and for Drop and Get an ID not
in the roster Unknown. -/
def Obligations.RosterRequestsCheckTheirValues : Prop :=
  ∀ s : State, ∀ f, s.link.buffer.head? = some f →
    let a : AssetId := BitVec.ofNat 64 (payNat f.payload 0 8)
    let refused := fun (e : Out) (r : Result) => e = .next { s with
      link := { s.link with
        tx := some ⟨replyBytes f.tag f.kind r [], if s.link.clear then 1 else 0, .nothing⟩ } }
    (s.Asks 0x20 9 f → a = 0 ∨ 36 < payByte f.payload 8 → refused (exec .rosterPut s) .badValue) ∧
    (s.Asks 0x21 8 f → a = 0 → refused (exec .rosterDrop s) .badValue) ∧
    (s.Asks 0x22 8 f → a = 0 → refused (exec .rosterGet s) .badValue) ∧
    (s.Asks 0x21 8 f → a ≠ 0 → (∀ e ∈ s.cust.roster, e.asset ≠ a) → refused (exec .rosterDrop s) .unknown) ∧
    (s.Asks 0x22 8 f → a ≠ 0 → (∀ e ∈ s.cust.roster, e.asset ≠ a) → refused (exec .rosterGet s) .unknown)

/-- Roster Put replaces the home bay of an ID already held, is refused Full at 64 entries, and otherwise appends an
entry, Docked in the lowest bay that holds the ID Foreign in a state that may be adopted, which then stands Docked,
and Unknown where there is none; either way the grace flag is cleared. Roster Drop removes the entry, and the bays
that hold its ID stand Foreign. Custody states stay (R62, R72, R73). That the reply for an ID already held names no bay is
the model's choice (L56). -/
def Obligations.RosterPutAdoptsAndDropLeavesForeign : Prop :=
  ∀ s : State, ∀ f, s.link.buffer.head? = some f →
    let a : AssetId := BitVec.ofNat 64 (payNat f.payload 0 8)
    let h := payByte f.payload 8
    let home := bayOf? h
    let mayAdopt := fun i : BayIx => (s.bay i).assetId = some a ∧ (s.bay i).standing = some .foreign ∧
      (s.bay i).custody ∈ [.securing, .locked, .releasing, .released, .held .unknown]
    (s.Asks 0x20 9 f → a ≠ 0 → h ≤ 36 → (s.entry? a).isSome →
      ∃ t, exec .rosterPut s = .next t ∧ s.Replies t f .done [0] ∧ t.cust.grace = false ∧ t.bays = s.bays ∧
        t.cust.roster = s.cust.roster.map fun e => if e.asset = a then { e with home } else e) ∧
    (s.Asks 0x20 9 f → a ≠ 0 → h ≤ 36 → s.entry? a = none → 64 ≤ s.cust.roster.length →
      exec .rosterPut s = .next (s.reply f .full [])) ∧
    (s.Asks 0x20 9 f → a ≠ 0 → h ≤ 36 → s.entry? a = none → s.cust.roster.length < 64 →
      ∃ t, exec .rosterPut s = .next t ∧ t.cust.grace = false ∧
        (∀ i, (t.bay i).custody = (s.bay i).custody ∧ (t.bay i).assetId = (s.bay i).assetId) ∧
        ((∀ i, ¬ mayAdopt i) → s.Replies t f .done [0] ∧ t.bays = s.bays ∧
          t.cust.roster = s.cust.roster ++ [⟨a, home, .unknown, none, none⟩]) ∧
        (∀ i, mayAdopt i → (∀ j, j < i → ¬ mayAdopt j) → s.Replies t f .done [byte (bayNumber i)] ∧
          t.cust.roster = s.cust.roster ++ [⟨a, home, .docked i, none, none⟩] ∧
          ∀ j, (t.bay j).standing = if j = i then some .docked else (s.bay j).standing)) ∧
    (s.Asks 0x21 8 f → a ≠ 0 → (s.entry? a).isSome →
      ∃ t, exec .rosterDrop s = .next t ∧ s.Replies t f .done [] ∧
        t.cust.roster = s.cust.roster.filter (·.asset ≠ a) ∧
        ∀ i, t.bay i = if (s.bay i).assetId = some a then { s.bay i with standing := some .foreign }
          else s.bay i)

/-! ### Releases, Admit Bay and the ready set (chapters 3 and 4) -/

/-- The release requests are refused on the first check that fails. Release Bay: a force flag that is neither on nor
off BadValue, a bay not known NoBay, outside Serving Transit, a link not Linked Lost, a Jammed bay Jammed, a bay
neither Locked nor Held WrongState, and one whose session runs, without force, InSession. Release Asset finds its bay
in the roster first, and Release Best is refused BadValue, Transit, and NoneReady where no candidate is a member of
the ready set or has the minimum charge (R79 to R81, R83, R84). That a bay above the bay count in force, whose link
still stands, is a candidate like any other is the model's choice (L62). -/
def Obligations.ReleasesAreRefusedInOrder : Prop :=
  ∀ s : State, ∀ f, s.link.buffer.head? = some f →
    let p := f.payload
    let a : AssetId := BitVec.ofNat 64 (payNat p 0 8)
    let refused := fun (e : Out) (r : Result) => e = .next (s.reply f r [])
    let known := fun i : BayIx => bayNumber i ≤ s.loop.bayCount ∧ (s.bay i).link ≠ .absent
    let running := fun i : BayIx => ∃ x ∈ s.sess.queue, x.bay = i ∧ x.state ≠ .queued
    let checks := fun (e : Out) (i : BayIx) (force : Nat) =>
      (¬ known i → refused e .noBay) ∧
      (known i → s.power.state ≠ .serving → refused e .transit) ∧
      (known i → s.power.state = .serving →
        ((s.bay i).link ≠ .linked → refused e .lost) ∧
        ((s.bay i).link = .linked →
          ((s.bay i).isJammed = true → refused e .jammed) ∧
          ((s.bay i).custody ∈ [.vacant, .seating, .securing, .releasing, .released, .clearing] →
            refused e .wrongState) ∧
          ((s.bay i).releasable = true → force = 0 → s.sess.Sound → running i →
            refused e .inSession)))
    let candidate := fun i : BayIx => (s.bay i).custody = .locked ∧ (s.bay i).link = .linked ∧
      (¬ running i) ∧ (s.bay i).standing = some .docked ∧ (s.bay i).overdraw = false ∧ (s.bay i).hot = false
    (s.Asks 0x30 7 f →
      (1 < payByte p 6 → refused (exec .releaseBay s) .badValue) ∧
      (payByte p 6 ≤ 1 → payByte p 0 = 0 ∨ 36 < payByte p 0 → refused (exec .releaseBay s) .noBay) ∧
      (payByte p 6 ≤ 1 → ∀ i, payByte p 0 = bayNumber i → checks (exec .releaseBay s) i (payByte p 6))) ∧
    (s.Asks 0x31 14 f →
      (1 < payByte p 13 → refused (exec .releaseAsset s) .badValue) ∧
      (payByte p 13 ≤ 1 → a = 0 → refused (exec .releaseAsset s) .badValue) ∧
      (payByte p 13 ≤ 1 → a ≠ 0 → s.entry? a = none → refused (exec .releaseAsset s) .unknown) ∧
      (∀ e, s.entry? a = some e → payByte p 13 ≤ 1 → a ≠ 0 →
        (e.state ∈ [.out, .missing, .unknown] → refused (exec .releaseAsset s) .noBay) ∧
        (∀ i, e.state = .docked i → checks (exec .releaseAsset s) i (payByte p 13)))) ∧
    (s.Asks 0x32 6 f →
      (1 < payByte p 5 → refused (exec .releaseBest s) .badValue) ∧
      (payByte p 5 ≤ 1 → s.power.state ≠ .serving → refused (exec .releaseBest s) .transit) ∧
      (payByte p 5 ≤ 1 → s.power.state = .serving → s.sess.Sound →
        (∀ i, candidate i → i ∉ s.cust.readySet ∧ (s.bay i).soc.getD 0 < s.cfg .bestMin) →
        refused (exec .releaseBest s) .noneReady))

/-- A release that passes its checks: the bay's session ends Forced, or Withdrawn where Queued, the bay leaves the
ready set, the record takes the window (0 the setting, otherwise brought to 5 to 120), the holder (absent for zeros)
and origin Host, and a Locked bay becomes Releasing with a retract asked for, a Held one Released with its window
running. The reply carries the bay, the window and the custody state: Clamped where the window was, else Accepted or
Done. Release Best takes the first of the candidates in the ready set, else the first of the minimum charge, in the
order of `readyKey`: highest SoC, then lowest bay, unknown last, a bay above the bay count in force being a candidate
like any other (L62). Roster and other bays stay (R78, R79, R81 to R84, R127). -/
def Obligations.AcceptedReleaseOpensTheBay : Prop :=
  ∀ s : State, s.Calm → s.sess.Sound → s.power.state = .serving → ∀ f, s.link.buffer.head? = some f →
    let p := f.payload
    let a : AssetId := BitVec.ofNat 64 (payNat p 0 8)
    let badge := fun k => if payNat p k 4 = 0 then none else some (BitVec.ofNat 32 (payNat p k 4))
    let running := fun i : BayIx => ∃ x ∈ s.sess.queue, x.bay = i ∧ x.state ≠ .queued
    let free := fun (i : BayIx) (force : Nat) => bayNumber i ≤ s.loop.bayCount ∧
      (s.bay i).link = .linked ∧ (s.bay i).releasable = true ∧ (running i → force = 1)
    let granted := fun (e : Out) (i : BayIx) (w : Nat) (holder : Option Badge) =>
      let window := if w = 0 then s.cfg .window else min (max w 5) 120
      ∃ t, e = .next t ∧
        s.Replies t f
          (if w ≠ 0 ∧ window ≠ w then .clamped else if (s.bay i).custody = .locked then .accepted else .done)
          [byte (bayNumber i), byte window, byte (custodyCode (t.bay i).custody)] ∧
        ((s.bay i).custody = .locked → (t.bay i).custody = .releasing ∧
          (t.bay i).release = some ⟨window, .notStarted, holder, .host, false, false⟩ ∧
          (s.standing i = .none → (i, Dir.retract) ∈ t.arb.queue ∨ t.pulseInFlight i = true)) ∧
        ((s.bay i).custody ≠ .locked → (t.bay i).custody = .released ∧
          (t.bay i).release = some ⟨window, .running (s.now + window * 1000), holder, .host, false, false⟩) ∧
        i ∉ t.cust.readySet ∧ t.sessionOf? i = none ∧
        (∀ x ∈ s.sess.queue, x.bay = i → (t.bay i).lastOutcome =
          some (if x.state = .queued then .withdrawn else .forced, x.id)) ∧
        t.cust.roster = s.cust.roster ∧
        (∀ j, (t.bay j).seen = (s.bay j).seen ∧ (t.bay j).assetId = (s.bay j).assetId ∧
          (t.bay j).standing = (s.bay j).standing) ∧
        (∀ j, j ≠ i → (t.bay j).custody = (s.bay j).custody ∧ (t.bay j).release = (s.bay j).release)
    let candidate := fun i : BayIx => (s.bay i).custody = .locked ∧ (s.bay i).link = .linked ∧
      (¬ running i) ∧ (s.bay i).standing = some .docked ∧ (s.bay i).overdraw = false ∧ (s.bay i).hot = false
    (∀ i, s.Asks 0x30 7 f → payByte p 0 = bayNumber i → payByte p 6 ≤ 1 → free i (payByte p 6) →
      granted (exec .releaseBay s) i (payByte p 1) (badge 2)) ∧
    (∀ e, s.entry? a = some e → ∀ i, e.state = .docked i → s.Asks 0x31 14 f → a ≠ 0 →
      payByte p 13 ≤ 1 → free i (payByte p 13) →
      granted (exec .releaseAsset s) i (payByte p 8) (badge 9)) ∧
    (∀ i, s.Asks 0x32 6 f → payByte p 5 ≤ 1 → candidate i →
      (i ∈ s.cust.readySet ∧
          (∀ j, j ∈ s.cust.readySet → candidate j → s.readyKey i ≤ s.readyKey j)) ∨
        ((∀ j, j ∈ s.cust.readySet → ¬ candidate j) ∧ s.cfg .bestMin ≤ (s.bay i).soc.getD 0 ∧
          ∀ j, candidate j → s.cfg .bestMin ≤ (s.bay j).soc.getD 0 → s.readyKey i ≤ s.readyKey j) →
      granted (exec .releaseBest s) i (payByte p 0) (badge 1))

/-- Cancel Release: refused NoBay, Transit, or WrongState where the bay is neither Releasing nor Released. With the
retract still queued the bay becomes Locked with no record and no entry; in flight the cancel mark is set and the bay
stays Releasing; a Released bay becomes Securing with no record and an engage asked for (R89). Admit Bay: refused
NoBay, Transit, Lost, WrongState where not Held, and Duplicate where its asset is Docked in another bay; else the bay
becomes Securing with the admission mark set and an engage asked for, Docked with its entry where the asset is in the
roster, Foreign otherwise (R67, R68). -/
def Obligations.CancelAndAdmitMoveTheBay : Prop :=
  ∀ s : State, s.Calm → ∀ f, s.link.buffer.head? = some f →
    let n := payByte f.payload 0
    let refused := fun (e : Out) (r : Result) => e = .next (s.reply f r [])
    let known := fun i : BayIx => bayNumber i ≤ s.loop.bayCount ∧ (s.bay i).link ≠ .absent
    let away := fun (i : BayIx) (a : AssetId) => ∃ e, s.entry? a = some e ∧
      ∃ j, j ≠ i ∧ e.state = .docked j
    (s.Asks 0x33 1 f →
      (n = 0 ∨ 36 < n → refused (exec .cancelRelease s) .noBay) ∧
      (∀ i, n = bayNumber i →
        (¬ known i → refused (exec .cancelRelease s) .noBay) ∧
        (known i → s.power.state ≠ .serving → refused (exec .cancelRelease s) .transit) ∧
        (known i → s.power.state = .serving → (s.bay i).custody ≠ .releasing →
          (s.bay i).custody ≠ .released → refused (exec .cancelRelease s) .wrongState) ∧
        (known i → s.power.state = .serving → (s.bay i).custody = .releasing →
          (s.pulseInFlight i = true → exec .cancelRelease s = .next (((s.setBay i { s.bay i with
            release := (s.bay i).release.map fun r => { r with cancel := true } }).reply f .done []).settle)) ∧
          ((i, Dir.retract) ∈ s.arb.queue → s.arb.Sound → ∃ t, exec .cancelRelease s = .next t ∧
            s.Replies t f .done [] ∧ (t.bay i).custody = .locked ∧ (t.bay i).release = none ∧
            (∀ d, (i, d) ∉ t.arb.queue) ∧ t.cust.roster = s.cust.roster)) ∧
        (known i → s.power.state = .serving → (s.bay i).custody = .released →
          ∃ t, exec .cancelRelease s = .next t ∧ s.Replies t f .done [] ∧
            (t.bay i).custody = .securing ∧ (t.bay i).release = none ∧
            (s.standing i = .none → (i, Dir.engage) ∈ t.arb.queue ∨ t.pulseInFlight i = true) ∧
            t.cust.roster = s.cust.roster))) ∧
    (s.Asks 0x34 1 f →
      (n = 0 ∨ 36 < n → refused (exec .admitBay s) .noBay) ∧
      (∀ i, n = bayNumber i →
        (¬ known i → refused (exec .admitBay s) .noBay) ∧
        (known i → s.power.state ≠ .serving → refused (exec .admitBay s) .transit) ∧
        (known i → s.power.state = .serving → (s.bay i).link ≠ .linked → refused (exec .admitBay s) .lost) ∧
        (known i → s.power.state = .serving → (s.bay i).link = .linked → (s.bay i).isHeld = false →
          refused (exec .admitBay s) .wrongState) ∧
        (known i → s.power.state = .serving → (s.bay i).link = .linked → (s.bay i).isHeld = true →
          (∀ a, (s.bay i).assetId = some a → away i a → refused (exec .admitBay s) .duplicate) ∧
          ((∀ a, (s.bay i).assetId = some a → ¬ away i a) →
            ∃ t, exec .admitBay s = .next t ∧ s.Replies t f .accepted [] ∧
              (t.bay i).custody = .securing ∧ (t.bay i).admission = true ∧
              (t.bay i).assetId = (s.bay i).assetId ∧
              (s.standing i = .none → (i, Dir.engage) ∈ t.arb.queue ∨ t.pulseInFlight i = true) ∧
              (∀ e, (s.bay i).assetId.bind s.entry? = some e → (t.bay i).standing = some .docked ∧
                t.entry? e.asset = some { e with state := .docked i, holder := none, outSince := none }) ∧
              ((s.bay i).assetId.bind s.entry? = none → (t.bay i).standing = some .foreign ∧
                t.cust.roster = s.cust.roster) ∧
              (∀ j, (t.bay j).seen = (s.bay j).seen)))))

/-- Prepare Ready Set chooses, from the bays that are Locked, Linked, without a session, Docked and without a fault,
the first n (1 to 36) in the order of `readyKey` (highest SoC, then lowest bay, unknown last), and lists them with
their SoC, Clamped where n was changed; outside Serving it is refused Transit. Clear Ready Set empties the set in
every power state. What either changes beside the set is shares, with the round they mark, and the notice; custody,
sessions and the roster stay (R91, R93). -/
def Obligations.ReadySetIsChosenAndCleared : Prop :=
  ∀ s : State, s.Calm → ∀ f, s.link.buffer.head? = some f →
    let n := payByte f.payload 0
    let k := min (max n 1) 36
    let fit := fun i : BayIx => (s.bay i).custody = .locked ∧ (s.bay i).link = .linked ∧
      (∀ x ∈ s.sess.queue, x.bay ≠ i) ∧ (s.bay i).standing = some .docked ∧
      (s.bay i).overdraw = false ∧ (s.bay i).hot = false
    let others := fun t : State => t.cust.roster = s.cust.roster ∧ t.sess = s.sess ∧
      ∀ i, (t.bay i).seen = (s.bay i).seen ∧ (t.bay i).custody = (s.bay i).custody ∧
        (t.bay i).release = (s.bay i).release
    (s.Asks 0x35 1 f → s.power.state ≠ .serving →
      exec .prepareReadySet s = .next (s.reply f .transit [])) ∧
    (s.Asks 0x35 1 f → s.power.state = .serving →
      ∃ t, exec .prepareReadySet s = .next t ∧ t.cust.readySet.Nodup ∧ others t ∧
        t.cust.readySet.length = min k (allBays.filter fun i => fit i).length ∧
        (∀ i ∈ t.cust.readySet, fit i) ∧
        (∀ i, fit i → i ∉ t.cust.readySet → ∀ j ∈ t.cust.readySet, s.readyKey j ≤ s.readyKey i) ∧
        t.cust.readySet.Pairwise (fun i j => s.readyKey i ≤ s.readyKey j) ∧
        s.Replies t f (if n = k then .done else .clamped)
          (t.cust.readySet.flatMap fun i => [byte (bayNumber i), socByte (s.bay i).soc])) ∧
    (s.Asks 0x36 0 f →
      ∃ t, exec .clearReadySet s = .next t ∧ t.cust.readySet = [] ∧ others t ∧ s.Replies t f .done [] ∧
        (s.cust.readySet = [] → t.notices.queue = s.notices.queue))

/-! ### Sessions (chapter 6) -/

/-- Open Session: a class outside its set BadValue, then NoBay, Transit, WrongState where not Locked, Reserved for a
member of the ready set, Duplicate, NoRoute where no channel's configuration in force serves the bay for the class,
and Full at 24. The standalone flag is no check: for a frame that was waiting when it was set this is the model's
choice (L58). Otherwise the session is appended Queued with an identifier no queued session has, its minimum charge
and idle limit as R117 takes them, and goes to Linking at once, on the lowest Free channel that serves it, where the
gate of R119 allows and no older Queued session may go; the reply carries the identifier and the state, Clamped where
a value was changed (R112, R116 to R120). -/
def Obligations.OpenSessionAdmitsOrRefuses : Prop :=
  ∀ s : State, s.Calm → s.sess.Sound → ∀ f, s.link.buffer.head? = some f → s.Asks 0x40 5 f →
    let p := f.payload
    let charge := payByte p 2
    let idle := payNat p 3 2
    let refused := fun r : Result => exec .openSession s = .next (s.reply f r [])
    let known := fun i : BayIx => bayNumber i ≤ s.loop.bayCount ∧ (s.bay i).link ≠ .absent
    (2 < payByte p 1 → refused .badValue) ∧
    (payByte p 1 ≤ 2 → payByte p 0 = 0 ∨ 36 < payByte p 0 → refused .noBay) ∧
    (∀ c, classOf? (payByte p 1) = some c → ∀ i, payByte p 0 = bayNumber i →
      let carries := fun k : ChanIx => let g := (s.chan k).cfg
        g.enabled = true ∧ g.base ≤ i.1 ∧ i.1 < g.base + g.size ∧ bayNumber i ≤ s.loop.bayCount ∧
          (c = .inventory ∨ g.restricted = false)
      let routed := ∃ k : ChanIx, carries k
      let taker := fun k : ChanIx => (s.chan k).state = .free ∧ carries k
      let kept := fun y : Session => (s.bay y.bay).custody ≠ .locked ∨ (s.bay y.bay).link ≠ .linked ∨
        (s.bay y.bay).soc.getD 0 < y.minCharge
      let minimum := if charge = 255 then (match c with | .image => 40 | .update => 25 | .inventory => 0)
        else min charge 100
      (¬ known i → refused .noBay) ∧
      (known i → s.power.state ≠ .serving → refused .transit) ∧
      (known i → s.power.state = .serving → (s.bay i).custody ≠ .locked → refused .wrongState) ∧
      (known i → s.power.state = .serving → (s.bay i).custody = .locked →
        (i ∈ s.cust.readySet → refused .reserved) ∧
        (i ∉ s.cust.readySet → (s.sessionOf? i).isSome = true → refused .duplicate) ∧
        (i ∉ s.cust.readySet → s.sessionOf? i = none → ¬ routed → refused .noRoute) ∧
        (i ∉ s.cust.readySet → s.sessionOf? i = none → routed → s.sess.queue.length = 24 → refused .full) ∧
        (i ∉ s.cust.readySet → s.sessionOf? i = none → routed → s.sess.queue.length < 24 →
          ∃ t, exec .openSession s = .next t ∧ t.sess.queue.length = s.sess.queue.length + 1 ∧
            ∃ x, t.sess.queue.getLast? = some x ∧
              s.session? x.id = none ∧ 1 ≤ x.id ∧ x.id ≤ 255 ∧
              (s.session? s.sess.nextId = none → x.id = s.sess.nextId) ∧
              t.sess.nextId = (if x.id = 255 then 1 else x.id + 1) ∧
              x.bay = i ∧ x.cls = c ∧ x.minCharge = minimum ∧ x.idleLimit = min (max idle 10) 600 ∧
              x.admittedAt = s.retained.seconds ∧ x.linkedAt = none ∧ x.progress = none ∧
              (x.state = .queued ∨ x.state = .linking) ∧
              ((s.bay i).link ≠ .linked ∨ (s.bay i).soc.getD 0 < minimum → x.state = .queued) ∧
              ((∀ k, (s.chan k).state ≠ .free) → x.state = .queued ∧
                t.sess.queue = s.sess.queue ++ [x]) ∧
              (∀ k, taker k → (∀ j, j < k → ¬ taker j) → (s.bay i).link = .linked →
                minimum ≤ (s.bay i).soc.getD 0 → (∀ y ∈ s.sess.queue, y.state = .queued → kept y) →
                x.state = .linking ∧ x.channel = some k ∧ t.sess.queue = s.sess.queue ++ [x]) ∧
              (∀ k, x.channel = some k → x.state = .linking ∧ (s.chan k).state = .free ∧
                (t.chan k).state = .linking ∧ (t.chan k).session = some x.id ∧
                (t.chan k).join = some i ∧ x.due = some (s.now + s.cfg .linkTimer * 1000)) ∧
              s.Replies t f
                (if (charge = 255 ∨ charge ≤ 100) ∧ 10 ≤ idle ∧ idle ≤ 600 then .accepted else .clamped)
                [byte x.id, byte (sessCode x.state)] ∧
              ∀ j, (t.bay j).seen = (s.bay j).seen ∧ (t.bay j).custody = (s.bay j).custody)))

/-- A session request that names an identifier not in the queue, or 0, is refused Unknown; one that finds its session
in a state that does not allow it is refused WrongState; and the requests act alike in every power state. Link Up
makes a Linking session Active and its channel Busy, with its linked-at time and idle timer; Progress sets an Active
session's progress, at most 100, and restarts its idle timer; Finish makes an Active session Draining, holds its
result and opens the join (R121 to R124). A result of Finish outside its set is refused BadValue whatever the
session's state (R124, R174). With an identifier not in the queue too the refusal is Unknown: R121 has that check made
before any other, and that it goes ahead of R174's check of the result is the model's reading (L11). -/
def Obligations.SessionRequestsFollowTheState : Prop :=
  ∀ s : State, s.sess.Sound → ∀ f, s.link.buffer.head? = some f →
    let n := payByte f.payload 0
    let v := payByte f.payload 1
    let refused := fun (e : Out) (r : Result) => e = .next (s.reply f r [])
    (n = 0 ∨ s.session? n = none →
      (s.Asks 0x41 1 f → refused (exec .linkUp s) .unknown) ∧
      (s.Asks 0x42 2 f → refused (exec .progress s) .unknown) ∧
      (s.Asks 0x43 2 f → refused (exec .finishSession s) .unknown) ∧
      (s.Asks 0x44 1 f → refused (exec .abortSession s) .unknown) ∧
      (s.Asks 0x45 1 f → n ≠ 0 → refused (exec .sessionStatus s) .unknown)) ∧
    (∀ x, s.session? n = some x →
      (s.Asks 0x43 2 f → 1 < v → refused (exec .finishSession s) .badValue) ∧
      (s.Asks 0x41 1 f → x.state ≠ .linking → refused (exec .linkUp s) .wrongState) ∧
      (s.Asks 0x42 2 f → x.state ≠ .active → refused (exec .progress s) .wrongState) ∧
      (s.Asks 0x43 2 f → v ≤ 1 → x.state ≠ .active → refused (exec .finishSession s) .wrongState) ∧
      (s.Asks 0x44 1 f → x.state = .draining → refused (exec .abortSession s) .wrongState) ∧
      (s.Asks 0x41 1 f → x.state = .linking →
        ∃ t, exec .linkUp s = .next t ∧ s.Replies t f .done [] ∧
          t.session? n = some { x with
            state := .active, linkedAt := some s.retained.seconds, due := some (s.now + x.idleLimit * 1000) } ∧
          (∀ c, x.channel = some c → t.chan c = { s.chan c with state := .busy }) ∧
          (∀ y ∈ s.sess.queue, y.id ≠ n → y ∈ t.sess.queue) ∧ t.bays = s.bays ∧ t.cust = s.cust ∧
          t.loop = s.loop) ∧
      (s.Asks 0x42 2 f → x.state = .active →
        ∃ t, exec .progress s = .next t ∧ s.Replies t f (if v ≤ 100 then .done else .clamped) [] ∧
          t.session? n = some { x with progress := some (min v 100), due := some (s.now + x.idleLimit * 1000) } ∧
          (∀ y ∈ s.sess.queue, y.id ≠ n → y ∈ t.sess.queue) ∧
          t = { s with
            sess := { s.sess with queue := t.sess.queue }
            link := { s.link with tx := t.link.tx } }) ∧
      (s.Asks 0x43 2 f → v ≤ 1 → x.state = .active →
        ∃ t, exec .finishSession s = .next t ∧ s.Replies t f .done [] ∧
          t.session? n = some { x with
            state := .draining, result := some (decide (v = 0)), due := some (s.now + s.cfg .drainSettle * 1000) } ∧
          (∀ c, x.channel = some c → t.chan c = { s.chan c with state := .draining, join := none }) ∧
          (∀ y ∈ s.sess.queue, y.id ≠ n → y ∈ t.sess.queue) ∧
          t = { s with sess := t.sess, link := { s.link with tx := t.link.tx } }))

/-- Abort Session: a Queued, Linking or Active session ends with outcome Aborted, its channel loses it and its join, and
the reply is Done; a Draining one does not change and the reply is WrongState. Of an Abort and a timer expiry the first
taken ends the session: afterwards the expiry does not happen, and the Abort is refused Unknown (R125). -/
def Obligations.AbortEndsTheSession : Prop :=
  ∀ s : State, s.sess.Sound → ∀ f, s.link.buffer.head? = some f → s.Asks 0x44 1 f →
    ∀ x, s.session? (payByte f.payload 0) = some x →
    (x.state = .draining → exec .abortSession s = .next (s.reply f .wrongState [])) ∧
    (x.state ≠ .draining →
      ∃ t, exec .abortSession s = .next t ∧ s.Replies t f .done [] ∧ t.session? x.id = none ∧
        (t.bay x.bay).lastOutcome = some (.aborted, x.id) ∧
        (∀ c, x.channel = some c → (t.chan c).session ≠ some x.id ∧
          ((t.chan c).session = none → (t.chan c).join = none)) ∧
        (∀ y ∈ s.sess.queue, y.state ≠ .queued → y.id ≠ x.id → y ∈ t.sess.queue) ∧
        exec (.linkTimerExpiry x.id) t = .next t ∧ exec (.idleTimerExpiry x.id) t = .next t) ∧
    (∀ due, x.due = some due → x.state = .linking ∨ x.state = .active →
      ∃ t, (exec (if x.state = .linking then .linkTimerExpiry x.id else .idleTimerExpiry x.id) s = .next t ∧
        exec .abortSession t = .next (t.reply f .unknown [])))

/-! ### Charge and fault requests, Rebuild Loop, Restart, and who writes what -/

/-- Set Bay Charge sets or clears the flag of a bay up to the bay count and marks recompute pending; another bay is
refused NoBay and another value BadValue. Clear Fault with bay 0 clears the latch and the strike record and computes
the pool afresh; with a bay it clears an Overdraw fault and brings a Jammed bay out of Jammed, NoBay above the bay
count and WrongState where there is neither. Rebuild Loop is refused Busy during a rebuild or its reconciliation and
Transit outside Serving, and else starts a rebuild of cause Host with its drain. Restart is answered Done, and the
start follows the reply (R16, R48, R49, R69, R145, R154, R194). AUTO_REBUILD_CHECK starts a rebuild of cause Auto,
with its drain, exactly where auto rebuild is on, the cart is Serving, no rebuild or reconciliation runs and some bay
has been Lost for the hold-off; otherwise it only comes due again a second later (R145, R152, R154, L33), the clock at
its due time (L2). A retract of origin Securing, which R69 does not list, leads back to Securing (L19), and an unknown
presence counts as true (L21). An engage leads to Securing with the asset field and any record kept, the late-take
mark set (R69, R78), also where the bay jammed while Releasing or Released (L71); a bay returned to Released has its
stopped window running again in Serving and Riding (R69), also one that a drain stopped (L70), and keeps it stopped in
Transit and Settling (R90, L21). The commanded grants stay at a Set Bay Charge where the round does not stand at the
end of a phase, as no run leaves it. -/
def Obligations.ChargeFaultRebuildAndRestart : Prop :=
  (∀ s : State, s.resetHeld = false → s.Calm →
    let long := fun i : BayIx => (s.bay i).link = .lost ∧
      ∃ since, (s.bay i).lostAt = some since ∧ s.cfg .rebuildHoldoff ≤ (s.retained.seconds - since).toNat
    let starts := s.cfg .autoRebuild = 1 ∧ s.power.state = .serving ∧ s.loop.rebuild = none ∧ (∃ i, long i)
    ∃ t, exec .autoRebuildCheck s = .next t ∧ t.now = max s.now s.loop.checkDue ∧
      t.loop.checkDue = s.loop.checkDue + 1000 ∧
      (¬ starts → t.loop.rebuild = s.loop.rebuild ∧ t.power = s.power ∧
        ∀ i, (t.bay i).seen = (s.bay i).seen) ∧
      (starts → s.loop.power = true → s.RebuildBegins t .auto)) ∧
  ∀ s : State, s.power.drain = none → ∀ f, s.link.buffer.head? = some f →
    let n := payByte f.payload 0
    let v := payByte f.payload 1
    let refused := fun (e : Out) (r : Result) => e = .next (s.reply f r [])
    (s.Asks 0x50 2 f →
      (1 < v → refused (exec .setBayCharge s) .badValue) ∧
      (v ≤ 1 → n = 0 ∨ 36 < n ∨ s.loop.bayCount < n → refused (exec .setBayCharge s) .noBay) ∧
      (∀ i, n = bayNumber i → v ≤ 1 → n ≤ s.loop.bayCount → s.Calm →
        ∃ t, exec .setBayCharge s = .next t ∧ s.Replies t f .done [] ∧
          (t.bay i).chargeOn = decide (v = 1) ∧ t.round.pending = true ∧
          (v = 0 → (t.bay i).eligible = false) ∧
          ((s.round.state = .lowering → s.round.lowering ≠ []) →
            (s.round.state = .raising → s.round.raising ≠ []) →
            ∀ j, (t.bay j).commanded = (s.bay j).commanded) ∧
          (t.bay i).custody = (s.bay i).custody ∧ t.cust.readySet = s.cust.readySet ∧
          (∀ j, j ≠ i → (t.bay j).seen = (s.bay j).seen))) ∧
    (s.Asks 0x51 1 f →
      (36 < n ∨ s.loop.bayCount < n → n ≠ 0 → refused (exec .clearFault s) .noBay) ∧
      (n = 0 → s.Calm → ∃ t, exec .clearFault s = .next t ∧ s.Replies t f .done [] ∧
        t.inlet = { s.inlet with latch := false, strikes := [] } ∧
        t.pool.inForce = State.poolNow { s with inlet := t.inlet } ∧
        ∀ i, (t.bay i).seen = (s.bay i).seen ∧ (t.bay i).custody = (s.bay i).custody) ∧
      (∀ i, n = bayNumber i → n ≤ s.loop.bayCount →
        ((s.bay i).overdraw = false → (s.bay i).isJammed = false →
          refused (exec .clearFault s) .wrongState) ∧
        ((s.bay i).overdraw = true ∨ (s.bay i).isJammed = true → s.Calm →
          ∃ t, exec .clearFault s = .next t ∧ s.Replies t f .done [] ∧ (t.bay i).overdraw = false ∧
            ((s.bay i).isJammed = false → (t.bay i).custody = (s.bay i).custody) ∧
            ((s.bay i).overdraw = true → t.round.pending = true) ∧
            (∀ d o, (s.bay i).custody = .jammed d o →
              (t.bay i).custody = (match d, o with
                | .engage, _ => .securing
                | .retract, .releasing => if (s.bay i).presence = some false then .clearing else .releasing
                | .retract, .vacant => .vacant
                | .retract, .held r => .held r
                | .retract, .released => .released
                | .retract, .clearing => .clearing
                | .retract, .securing => .securing) ∧
              (s.standing i = .none → (i, d) ∈ t.arb.queue ∨ t.pulseInFlight i = true) ∧
              (d = .engage → (t.bay i).assetId = (s.bay i).assetId ∧
                (t.bay i).release.map (fun r => (r.length, r.holder, r.late)) =
                  (s.bay i).release.map fun r => (r.length, r.holder, true)) ∧
              (∀ r, (s.bay i).release = some r → d = .retract → o = .released →
                (∀ left, r.window = .stopped left → s.power.state = .serving ∨ s.power.state = .riding →
                  (t.bay i).release = some { r with window := .running (s.now + left) }) ∧
                (∀ left, r.window = .stopped left → s.power.state = .transit ∨ s.power.state = .settling →
                  (t.bay i).release = some r))) ∧
            (∀ j, j ≠ i → (t.bay j).seen = (s.bay j).seen)))) ∧
    (s.Asks 0x52 0 f →
      (s.loop.rebuild.isSome = true ∨ s.cust.reconActive = true → refused (exec .rebuildLoop s) .busy) ∧
      (s.loop.rebuild = none → s.cust.reconActive = false → s.power.state ≠ .serving →
        refused (exec .rebuildLoop s) .transit) ∧
      (s.loop.rebuild = none → s.cust.reconActive = false → s.power.state = .serving →
        ∃ t, exec .rebuildLoop s = .next t ∧ s.Replies t f .accepted [] ∧ t.now = s.now ∧
          (s.loop.power = true → s.RebuildBegins t .host))) ∧
    (s.Asks 0x53 0 f →
      ∃ t, exec .restart s = .next t ∧ s.Replies t f .done [] .restart ∧
        t = { s with link := { s.link with tx := t.link.tx } })

/-- Who writes what, for every command that is no start, the end of an ordinary reply among them: the settings move
only at Set Setting (R189, R190), the image only at Save Settings (R191), the levels only at Set Notice Level (R183),
the roster's assets only at Roster Put and Drop (R72, R73), the trim only at the audit (R13), the rings and strikes
only at the inlet's own commands and Clear Fault (R1, R4, R15, R16), the quiet flag only at Set Quiet (R9), the
seconds counter only at its tick (R192), the receiver only at the host line's commands (R169), and the cause of the
start never (R175, R193). The commands that only serve the host line, report, store or count leave the power state,
the round, the pulses, the sessions, the loop, the bays, the custody unit and the pool in force as they are; those of
`leavesRound` leave the round and the grants (R34 to R41); a roster entry moves only at those of `mayMoveRoster`
(R70). With no drain and no reconciliation in progress the power state and its timers move only at the commands of
`mayMovePower` (R18 to R21), the loop power, the rebuild and the bay count in force at those of `mayMoveRebuild`
(R134, R145), the transaction on the loop at those of `mayMoveLine` (R139, R143), the sessions and channels at those
of `mayMoveSessions` (chapter 6), and custody states, asset fields, release records and the pulses queued or in flight
at those of `mayMoveCustody` (chapters 3 to 5); the assertion of the reset pin is in the last four of these for what
it does to the loop power, the joins and the windows (R193, R194), the windows by the model's choice (L47). What it
moves is said in StartsTakeTheStartValues. Where events beyond a rule's own may judge a block is the model's reading
(L33, L35). -/
def Obligations.EachBlockIsWrittenByItsOwnCommands : Prop :=
  ∀ (c : Instr) (s t : State), exec c s = .next t → (∀ k x, c ≠ .powerOn k x) →
    (∀ x, c ≠ .resetPinRelease x) →
    (∀ x, c = .replySent x → ∀ y, s.link.tx = some y → y.after ≠ .restart) →
    (c ≠ .setSetting → t.settings = s.settings) ∧
    ((∀ w, c ≠ .saveSettings w) → t.image = s.image) ∧
    (c ≠ .setNoticeLevel → t.notices.levels = s.notices.levels) ∧
    (c ≠ .rosterPut → c ≠ .rosterDrop → t.cust.roster.map (·.asset) = s.cust.roster.map (·.asset)) ∧
    (c ≠ .trimAudit → t.inlet.trim = s.inlet.trim) ∧
    ((∀ v a, c ≠ .voltageSample v a) → (∀ v a, c ≠ .inletRestored v a) → (∀ v a, c ≠ .strike v a) →
      t.inlet.voltRing = s.inlet.voltRing ∧ t.inlet.currRing = s.inlet.currRing ∧
      t.inlet.cond = s.inlet.cond ∧
      (c ≠ .strikeAgeOut → c ≠ .clearFault → t.inlet.strikes = s.inlet.strikes) ∧
      (c ≠ .clearFault → t.inlet.latch = s.inlet.latch)) ∧
    (c ≠ .setQuiet → t.pool.quiet = s.pool.quiet) ∧
    (c ≠ .secondsTick → t.retained.seconds = s.retained.seconds) ∧
    ((∀ b g, c ≠ .frameArrival b g) → (∀ b g, c ≠ .byteReceived b g) → c ≠ .lineError →
      t.link.rx = s.link.rx) ∧
    t.link.cause = s.link.cause ∧ t.link.fromImage = s.link.fromImage ∧
    (onlyServes c = true → t.power = s.power ∧ t.round = s.round ∧ t.arb = s.arb ∧ t.sess = s.sess ∧
      t.loop = s.loop ∧ t.bays = s.bays ∧ t.cust = s.cust ∧ t.pool = s.pool) ∧
    (leavesRound c = true → t.round = s.round ∧ ∀ i, (t.bay i).commanded = (s.bay i).commanded ∧
      (t.bay i).applied = (s.bay i).applied ∧ (t.bay i).outstanding = (s.bay i).outstanding) ∧
    (mayMoveRoster c = false → t.cust.roster = s.cust.roster) ∧
    (s.Calm →
      (mayMovePower c = false → t.power = s.power) ∧
      (mayMoveRebuild c = false → t.loop.power = s.loop.power ∧ t.loop.rebuild = s.loop.rebuild ∧
        t.loop.bayCount = s.loop.bayCount) ∧
      (mayMoveLine c = false → t.loop.onLoop.map (·.txn) = s.loop.onLoop.map (·.txn)) ∧
      (mayMoveSessions c = false → t.sess = s.sess) ∧
      (mayMoveCustody c = false →
        (∀ i, (t.bay i).custody = (s.bay i).custody ∧ (t.bay i).assetId = (s.bay i).assetId ∧
          (t.bay i).standing = (s.bay i).standing ∧ (t.bay i).release = (s.bay i).release) ∧
        (s.arb.Sound → ∀ i d, t.hasPulse i d ↔ s.hasPulse i d)))
end

