-- ==== Sys2Proof/Laws/State.lean ====
section
/-! SUPPORT. What each update of the state leaves as it was: one lemma for each field of State, true by rfl, so that no
proof unfolds an update. -/

namespace Sys2Proof.Machine


/-! ### State.setBay -/

@[simp] theorem setBay_now (s : State) (i : BayIx) (b : Bay) : (s.setBay i b).now = s.now := rfl
@[simp] theorem setBay_resetHeld (s : State) (i : BayIx) (b : Bay) : (s.setBay i b).resetHeld = s.resetHeld := rfl
@[simp] theorem setBay_keyswitch (s : State) (i : BayIx) (b : Bay) : (s.setBay i b).keyswitch = s.keyswitch := rfl
@[simp] theorem setBay_inlet (s : State) (i : BayIx) (b : Bay) : (s.setBay i b).inlet = s.inlet := rfl
@[simp] theorem setBay_pool (s : State) (i : BayIx) (b : Bay) : (s.setBay i b).pool = s.pool := rfl
@[simp] theorem setBay_power (s : State) (i : BayIx) (b : Bay) : (s.setBay i b).power = s.power := rfl
@[simp] theorem setBay_round (s : State) (i : BayIx) (b : Bay) : (s.setBay i b).round = s.round := rfl
@[simp] theorem setBay_cust (s : State) (i : BayIx) (b : Bay) : (s.setBay i b).cust = s.cust := rfl
@[simp] theorem setBay_arb (s : State) (i : BayIx) (b : Bay) : (s.setBay i b).arb = s.arb := rfl
@[simp] theorem setBay_sess (s : State) (i : BayIx) (b : Bay) : (s.setBay i b).sess = s.sess := rfl
@[simp] theorem setBay_loop (s : State) (i : BayIx) (b : Bay) : (s.setBay i b).loop = s.loop := rfl
@[simp] theorem setBay_link (s : State) (i : BayIx) (b : Bay) : (s.setBay i b).link = s.link := rfl
@[simp] theorem setBay_notices (s : State) (i : BayIx) (b : Bay) : (s.setBay i b).notices = s.notices := rfl
@[simp] theorem setBay_settings (s : State) (i : BayIx) (b : Bay) : (s.setBay i b).settings = s.settings := rfl
@[simp] theorem setBay_image (s : State) (i : BayIx) (b : Bay) : (s.setBay i b).image = s.image := rfl
@[simp] theorem setBay_retained (s : State) (i : BayIx) (b : Bay) : (s.setBay i b).retained = s.retained := rfl
@[simp] theorem setBay_pending (s : State) (i : BayIx) (b : Bay) : (s.setBay i b).pending = s.pending := rfl

/-! ### State.modBay -/

@[simp] theorem modBay_now (s : State) (i : BayIx) (f : Bay → Bay) : (s.modBay i f).now = s.now := rfl
@[simp] theorem modBay_resetHeld (s : State) (i : BayIx) (f : Bay → Bay) : (s.modBay i f).resetHeld = s.resetHeld := rfl
@[simp] theorem modBay_keyswitch (s : State) (i : BayIx) (f : Bay → Bay) : (s.modBay i f).keyswitch = s.keyswitch := rfl
@[simp] theorem modBay_inlet (s : State) (i : BayIx) (f : Bay → Bay) : (s.modBay i f).inlet = s.inlet := rfl
@[simp] theorem modBay_pool (s : State) (i : BayIx) (f : Bay → Bay) : (s.modBay i f).pool = s.pool := rfl
@[simp] theorem modBay_power (s : State) (i : BayIx) (f : Bay → Bay) : (s.modBay i f).power = s.power := rfl
@[simp] theorem modBay_round (s : State) (i : BayIx) (f : Bay → Bay) : (s.modBay i f).round = s.round := rfl
@[simp] theorem modBay_cust (s : State) (i : BayIx) (f : Bay → Bay) : (s.modBay i f).cust = s.cust := rfl
@[simp] theorem modBay_arb (s : State) (i : BayIx) (f : Bay → Bay) : (s.modBay i f).arb = s.arb := rfl
@[simp] theorem modBay_sess (s : State) (i : BayIx) (f : Bay → Bay) : (s.modBay i f).sess = s.sess := rfl
@[simp] theorem modBay_loop (s : State) (i : BayIx) (f : Bay → Bay) : (s.modBay i f).loop = s.loop := rfl
@[simp] theorem modBay_link (s : State) (i : BayIx) (f : Bay → Bay) : (s.modBay i f).link = s.link := rfl
@[simp] theorem modBay_notices (s : State) (i : BayIx) (f : Bay → Bay) : (s.modBay i f).notices = s.notices := rfl
@[simp] theorem modBay_settings (s : State) (i : BayIx) (f : Bay → Bay) : (s.modBay i f).settings = s.settings := rfl
@[simp] theorem modBay_image (s : State) (i : BayIx) (f : Bay → Bay) : (s.modBay i f).image = s.image := rfl
@[simp] theorem modBay_retained (s : State) (i : BayIx) (f : Bay → Bay) : (s.modBay i f).retained = s.retained := rfl
@[simp] theorem modBay_pending (s : State) (i : BayIx) (f : Bay → Bay) : (s.modBay i f).pending = s.pending := rfl

/-! ### State.reach -/

@[simp] theorem reach_resetHeld (s : State) (due : Nat) : (s.reach due).resetHeld = s.resetHeld := rfl
@[simp] theorem reach_keyswitch (s : State) (due : Nat) : (s.reach due).keyswitch = s.keyswitch := rfl
@[simp] theorem reach_inlet (s : State) (due : Nat) : (s.reach due).inlet = s.inlet := rfl
@[simp] theorem reach_pool (s : State) (due : Nat) : (s.reach due).pool = s.pool := rfl
@[simp] theorem reach_power (s : State) (due : Nat) : (s.reach due).power = s.power := rfl
@[simp] theorem reach_round (s : State) (due : Nat) : (s.reach due).round = s.round := rfl
@[simp] theorem reach_bays (s : State) (due : Nat) : (s.reach due).bays = s.bays := rfl
@[simp] theorem reach_cust (s : State) (due : Nat) : (s.reach due).cust = s.cust := rfl
@[simp] theorem reach_arb (s : State) (due : Nat) : (s.reach due).arb = s.arb := rfl
@[simp] theorem reach_sess (s : State) (due : Nat) : (s.reach due).sess = s.sess := rfl
@[simp] theorem reach_loop (s : State) (due : Nat) : (s.reach due).loop = s.loop := rfl
@[simp] theorem reach_link (s : State) (due : Nat) : (s.reach due).link = s.link := rfl
@[simp] theorem reach_notices (s : State) (due : Nat) : (s.reach due).notices = s.notices := rfl
@[simp] theorem reach_settings (s : State) (due : Nat) : (s.reach due).settings = s.settings := rfl
@[simp] theorem reach_image (s : State) (due : Nat) : (s.reach due).image = s.image := rfl
@[simp] theorem reach_retained (s : State) (due : Nat) : (s.reach due).retained = s.retained := rfl
@[simp] theorem reach_pending (s : State) (due : Nat) : (s.reach due).pending = s.pending := rfl

/-! ### State.setSlot -/

@[simp] theorem setSlot_now (s : State) (k : PulseSlot) (p : Option Pulse) : (s.setSlot k p).now = s.now := by cases k <;> rfl
@[simp] theorem setSlot_resetHeld (s : State) (k : PulseSlot) (p : Option Pulse) : (s.setSlot k p).resetHeld = s.resetHeld := by cases k <;> rfl
@[simp] theorem setSlot_keyswitch (s : State) (k : PulseSlot) (p : Option Pulse) : (s.setSlot k p).keyswitch = s.keyswitch := by cases k <;> rfl
@[simp] theorem setSlot_inlet (s : State) (k : PulseSlot) (p : Option Pulse) : (s.setSlot k p).inlet = s.inlet := by cases k <;> rfl
@[simp] theorem setSlot_pool (s : State) (k : PulseSlot) (p : Option Pulse) : (s.setSlot k p).pool = s.pool := by cases k <;> rfl
@[simp] theorem setSlot_power (s : State) (k : PulseSlot) (p : Option Pulse) : (s.setSlot k p).power = s.power := by cases k <;> rfl
@[simp] theorem setSlot_round (s : State) (k : PulseSlot) (p : Option Pulse) : (s.setSlot k p).round = s.round := by cases k <;> rfl
@[simp] theorem setSlot_bays (s : State) (k : PulseSlot) (p : Option Pulse) : (s.setSlot k p).bays = s.bays := by cases k <;> rfl
@[simp] theorem setSlot_cust (s : State) (k : PulseSlot) (p : Option Pulse) : (s.setSlot k p).cust = s.cust := by cases k <;> rfl
@[simp] theorem setSlot_sess (s : State) (k : PulseSlot) (p : Option Pulse) : (s.setSlot k p).sess = s.sess := by cases k <;> rfl
@[simp] theorem setSlot_loop (s : State) (k : PulseSlot) (p : Option Pulse) : (s.setSlot k p).loop = s.loop := by cases k <;> rfl
@[simp] theorem setSlot_link (s : State) (k : PulseSlot) (p : Option Pulse) : (s.setSlot k p).link = s.link := by cases k <;> rfl
@[simp] theorem setSlot_notices (s : State) (k : PulseSlot) (p : Option Pulse) : (s.setSlot k p).notices = s.notices := by cases k <;> rfl
@[simp] theorem setSlot_settings (s : State) (k : PulseSlot) (p : Option Pulse) : (s.setSlot k p).settings = s.settings := by cases k <;> rfl
@[simp] theorem setSlot_image (s : State) (k : PulseSlot) (p : Option Pulse) : (s.setSlot k p).image = s.image := by cases k <;> rfl
@[simp] theorem setSlot_retained (s : State) (k : PulseSlot) (p : Option Pulse) : (s.setSlot k p).retained = s.retained := by cases k <;> rfl
@[simp] theorem setSlot_pending (s : State) (k : PulseSlot) (p : Option Pulse) : (s.setSlot k p).pending = s.pending := by cases k <;> rfl

/-! ### State.setChan -/

@[simp] theorem setChan_now (s : State) (c : ChanIx) (ch : Channel) : (s.setChan c ch).now = s.now := rfl
@[simp] theorem setChan_resetHeld (s : State) (c : ChanIx) (ch : Channel) : (s.setChan c ch).resetHeld = s.resetHeld := rfl
@[simp] theorem setChan_keyswitch (s : State) (c : ChanIx) (ch : Channel) : (s.setChan c ch).keyswitch = s.keyswitch := rfl
@[simp] theorem setChan_inlet (s : State) (c : ChanIx) (ch : Channel) : (s.setChan c ch).inlet = s.inlet := rfl
@[simp] theorem setChan_pool (s : State) (c : ChanIx) (ch : Channel) : (s.setChan c ch).pool = s.pool := rfl
@[simp] theorem setChan_power (s : State) (c : ChanIx) (ch : Channel) : (s.setChan c ch).power = s.power := rfl
@[simp] theorem setChan_round (s : State) (c : ChanIx) (ch : Channel) : (s.setChan c ch).round = s.round := rfl
@[simp] theorem setChan_bays (s : State) (c : ChanIx) (ch : Channel) : (s.setChan c ch).bays = s.bays := rfl
@[simp] theorem setChan_cust (s : State) (c : ChanIx) (ch : Channel) : (s.setChan c ch).cust = s.cust := rfl
@[simp] theorem setChan_arb (s : State) (c : ChanIx) (ch : Channel) : (s.setChan c ch).arb = s.arb := rfl
@[simp] theorem setChan_loop (s : State) (c : ChanIx) (ch : Channel) : (s.setChan c ch).loop = s.loop := rfl
@[simp] theorem setChan_link (s : State) (c : ChanIx) (ch : Channel) : (s.setChan c ch).link = s.link := rfl
@[simp] theorem setChan_notices (s : State) (c : ChanIx) (ch : Channel) : (s.setChan c ch).notices = s.notices := rfl
@[simp] theorem setChan_settings (s : State) (c : ChanIx) (ch : Channel) : (s.setChan c ch).settings = s.settings := rfl
@[simp] theorem setChan_image (s : State) (c : ChanIx) (ch : Channel) : (s.setChan c ch).image = s.image := rfl
@[simp] theorem setChan_retained (s : State) (c : ChanIx) (ch : Channel) : (s.setChan c ch).retained = s.retained := rfl
@[simp] theorem setChan_pending (s : State) (c : ChanIx) (ch : Channel) : (s.setChan c ch).pending = s.pending := rfl

/-! ### State.modSession -/

@[simp] theorem modSession_now (s : State) (id : Nat) (f : Session → Session) : (s.modSession id f).now = s.now := rfl
@[simp] theorem modSession_resetHeld (s : State) (id : Nat) (f : Session → Session) : (s.modSession id f).resetHeld = s.resetHeld := rfl
@[simp] theorem modSession_keyswitch (s : State) (id : Nat) (f : Session → Session) : (s.modSession id f).keyswitch = s.keyswitch := rfl
@[simp] theorem modSession_inlet (s : State) (id : Nat) (f : Session → Session) : (s.modSession id f).inlet = s.inlet := rfl
@[simp] theorem modSession_pool (s : State) (id : Nat) (f : Session → Session) : (s.modSession id f).pool = s.pool := rfl
@[simp] theorem modSession_power (s : State) (id : Nat) (f : Session → Session) : (s.modSession id f).power = s.power := rfl
@[simp] theorem modSession_round (s : State) (id : Nat) (f : Session → Session) : (s.modSession id f).round = s.round := rfl
@[simp] theorem modSession_bays (s : State) (id : Nat) (f : Session → Session) : (s.modSession id f).bays = s.bays := rfl
@[simp] theorem modSession_cust (s : State) (id : Nat) (f : Session → Session) : (s.modSession id f).cust = s.cust := rfl
@[simp] theorem modSession_arb (s : State) (id : Nat) (f : Session → Session) : (s.modSession id f).arb = s.arb := rfl
@[simp] theorem modSession_loop (s : State) (id : Nat) (f : Session → Session) : (s.modSession id f).loop = s.loop := rfl
@[simp] theorem modSession_link (s : State) (id : Nat) (f : Session → Session) : (s.modSession id f).link = s.link := rfl
@[simp] theorem modSession_notices (s : State) (id : Nat) (f : Session → Session) : (s.modSession id f).notices = s.notices := rfl
@[simp] theorem modSession_settings (s : State) (id : Nat) (f : Session → Session) : (s.modSession id f).settings = s.settings := rfl
@[simp] theorem modSession_image (s : State) (id : Nat) (f : Session → Session) : (s.modSession id f).image = s.image := rfl
@[simp] theorem modSession_retained (s : State) (id : Nat) (f : Session → Session) : (s.modSession id f).retained = s.retained := rfl
@[simp] theorem modSession_pending (s : State) (id : Nat) (f : Session → Session) : (s.modSession id f).pending = s.pending := rfl

/-! ### State.place -/

@[simp] theorem place_now (s : State) (t : Txn) : (s.place t).now = s.now := rfl
@[simp] theorem place_resetHeld (s : State) (t : Txn) : (s.place t).resetHeld = s.resetHeld := rfl
@[simp] theorem place_keyswitch (s : State) (t : Txn) : (s.place t).keyswitch = s.keyswitch := rfl
@[simp] theorem place_inlet (s : State) (t : Txn) : (s.place t).inlet = s.inlet := rfl
@[simp] theorem place_pool (s : State) (t : Txn) : (s.place t).pool = s.pool := rfl
@[simp] theorem place_power (s : State) (t : Txn) : (s.place t).power = s.power := rfl
@[simp] theorem place_round (s : State) (t : Txn) : (s.place t).round = s.round := rfl
@[simp] theorem place_bays (s : State) (t : Txn) : (s.place t).bays = s.bays := rfl
@[simp] theorem place_cust (s : State) (t : Txn) : (s.place t).cust = s.cust := rfl
@[simp] theorem place_arb (s : State) (t : Txn) : (s.place t).arb = s.arb := rfl
@[simp] theorem place_sess (s : State) (t : Txn) : (s.place t).sess = s.sess := rfl
@[simp] theorem place_link (s : State) (t : Txn) : (s.place t).link = s.link := rfl
@[simp] theorem place_notices (s : State) (t : Txn) : (s.place t).notices = s.notices := rfl
@[simp] theorem place_settings (s : State) (t : Txn) : (s.place t).settings = s.settings := rfl
@[simp] theorem place_image (s : State) (t : Txn) : (s.place t).image = s.image := rfl
@[simp] theorem place_retained (s : State) (t : Txn) : (s.place t).retained = s.retained := rfl
@[simp] theorem place_pending (s : State) (t : Txn) : (s.place t).pending = s.pending := rfl

/-! ### State.withdraw -/

@[simp] theorem withdraw_now (s : State) (p : Txn → Bool) : (s.withdraw p).now = s.now := rfl
@[simp] theorem withdraw_resetHeld (s : State) (p : Txn → Bool) : (s.withdraw p).resetHeld = s.resetHeld := rfl
@[simp] theorem withdraw_keyswitch (s : State) (p : Txn → Bool) : (s.withdraw p).keyswitch = s.keyswitch := rfl
@[simp] theorem withdraw_inlet (s : State) (p : Txn → Bool) : (s.withdraw p).inlet = s.inlet := rfl
@[simp] theorem withdraw_pool (s : State) (p : Txn → Bool) : (s.withdraw p).pool = s.pool := rfl
@[simp] theorem withdraw_power (s : State) (p : Txn → Bool) : (s.withdraw p).power = s.power := rfl
@[simp] theorem withdraw_round (s : State) (p : Txn → Bool) : (s.withdraw p).round = s.round := rfl
@[simp] theorem withdraw_bays (s : State) (p : Txn → Bool) : (s.withdraw p).bays = s.bays := rfl
@[simp] theorem withdraw_cust (s : State) (p : Txn → Bool) : (s.withdraw p).cust = s.cust := rfl
@[simp] theorem withdraw_arb (s : State) (p : Txn → Bool) : (s.withdraw p).arb = s.arb := rfl
@[simp] theorem withdraw_sess (s : State) (p : Txn → Bool) : (s.withdraw p).sess = s.sess := rfl
@[simp] theorem withdraw_link (s : State) (p : Txn → Bool) : (s.withdraw p).link = s.link := rfl
@[simp] theorem withdraw_notices (s : State) (p : Txn → Bool) : (s.withdraw p).notices = s.notices := rfl
@[simp] theorem withdraw_settings (s : State) (p : Txn → Bool) : (s.withdraw p).settings = s.settings := rfl
@[simp] theorem withdraw_image (s : State) (p : Txn → Bool) : (s.withdraw p).image = s.image := rfl
@[simp] theorem withdraw_retained (s : State) (p : Txn → Bool) : (s.withdraw p).retained = s.retained := rfl
@[simp] theorem withdraw_pending (s : State) (p : Txn → Bool) : (s.withdraw p).pending = s.pending := rfl

/-! ### State.send -/

@[simp] theorem send_now (s : State) (t : Txn) : (s.send t).now = s.now := rfl
@[simp] theorem send_resetHeld (s : State) (t : Txn) : (s.send t).resetHeld = s.resetHeld := rfl
@[simp] theorem send_keyswitch (s : State) (t : Txn) : (s.send t).keyswitch = s.keyswitch := rfl
@[simp] theorem send_inlet (s : State) (t : Txn) : (s.send t).inlet = s.inlet := rfl
@[simp] theorem send_pool (s : State) (t : Txn) : (s.send t).pool = s.pool := rfl
@[simp] theorem send_power (s : State) (t : Txn) : (s.send t).power = s.power := rfl
@[simp] theorem send_round (s : State) (t : Txn) : (s.send t).round = s.round := rfl
@[simp] theorem send_bays (s : State) (t : Txn) : (s.send t).bays = s.bays := rfl
@[simp] theorem send_cust (s : State) (t : Txn) : (s.send t).cust = s.cust := rfl
@[simp] theorem send_arb (s : State) (t : Txn) : (s.send t).arb = s.arb := rfl
@[simp] theorem send_sess (s : State) (t : Txn) : (s.send t).sess = s.sess := rfl
@[simp] theorem send_link (s : State) (t : Txn) : (s.send t).link = s.link := rfl
@[simp] theorem send_notices (s : State) (t : Txn) : (s.send t).notices = s.notices := rfl
@[simp] theorem send_settings (s : State) (t : Txn) : (s.send t).settings = s.settings := rfl
@[simp] theorem send_image (s : State) (t : Txn) : (s.send t).image = s.image := rfl
@[simp] theorem send_retained (s : State) (t : Txn) : (s.send t).retained = s.retained := rfl
@[simp] theorem send_pending (s : State) (t : Txn) : (s.send t).pending = s.pending := rfl

/-! ### State.markPending -/

@[simp] theorem markPending_now (s : State) : s.markPending.now = s.now := rfl
@[simp] theorem markPending_resetHeld (s : State) : s.markPending.resetHeld = s.resetHeld := rfl
@[simp] theorem markPending_keyswitch (s : State) : s.markPending.keyswitch = s.keyswitch := rfl
@[simp] theorem markPending_inlet (s : State) : s.markPending.inlet = s.inlet := rfl
@[simp] theorem markPending_pool (s : State) : s.markPending.pool = s.pool := rfl
@[simp] theorem markPending_power (s : State) : s.markPending.power = s.power := rfl
@[simp] theorem markPending_bays (s : State) : s.markPending.bays = s.bays := rfl
@[simp] theorem markPending_cust (s : State) : s.markPending.cust = s.cust := rfl
@[simp] theorem markPending_arb (s : State) : s.markPending.arb = s.arb := rfl
@[simp] theorem markPending_sess (s : State) : s.markPending.sess = s.sess := rfl
@[simp] theorem markPending_loop (s : State) : s.markPending.loop = s.loop := rfl
@[simp] theorem markPending_link (s : State) : s.markPending.link = s.link := rfl
@[simp] theorem markPending_notices (s : State) : s.markPending.notices = s.notices := rfl
@[simp] theorem markPending_settings (s : State) : s.markPending.settings = s.settings := rfl
@[simp] theorem markPending_image (s : State) : s.markPending.image = s.image := rfl
@[simp] theorem markPending_retained (s : State) : s.markPending.retained = s.retained := rfl
@[simp] theorem markPending_pending (s : State) : s.markPending.pending = s.pending := rfl

/-! ### State.markAtOnce -/

@[simp] theorem markAtOnce_now (s : State) : s.markAtOnce.now = s.now := rfl
@[simp] theorem markAtOnce_resetHeld (s : State) : s.markAtOnce.resetHeld = s.resetHeld := rfl
@[simp] theorem markAtOnce_keyswitch (s : State) : s.markAtOnce.keyswitch = s.keyswitch := rfl
@[simp] theorem markAtOnce_inlet (s : State) : s.markAtOnce.inlet = s.inlet := rfl
@[simp] theorem markAtOnce_pool (s : State) : s.markAtOnce.pool = s.pool := rfl
@[simp] theorem markAtOnce_power (s : State) : s.markAtOnce.power = s.power := rfl
@[simp] theorem markAtOnce_bays (s : State) : s.markAtOnce.bays = s.bays := rfl
@[simp] theorem markAtOnce_cust (s : State) : s.markAtOnce.cust = s.cust := rfl
@[simp] theorem markAtOnce_arb (s : State) : s.markAtOnce.arb = s.arb := rfl
@[simp] theorem markAtOnce_sess (s : State) : s.markAtOnce.sess = s.sess := rfl
@[simp] theorem markAtOnce_loop (s : State) : s.markAtOnce.loop = s.loop := rfl
@[simp] theorem markAtOnce_link (s : State) : s.markAtOnce.link = s.link := rfl
@[simp] theorem markAtOnce_notices (s : State) : s.markAtOnce.notices = s.notices := rfl
@[simp] theorem markAtOnce_settings (s : State) : s.markAtOnce.settings = s.settings := rfl
@[simp] theorem markAtOnce_image (s : State) : s.markAtOnce.image = s.image := rfl
@[simp] theorem markAtOnce_retained (s : State) : s.markAtOnce.retained = s.retained := rfl
@[simp] theorem markAtOnce_pending (s : State) : s.markAtOnce.pending = s.pending := rfl

/-! ### State.mapRoster -/

@[simp] theorem mapRoster_now (s : State) (f : Entry → Entry) : (s.mapRoster f).now = s.now := rfl
@[simp] theorem mapRoster_resetHeld (s : State) (f : Entry → Entry) : (s.mapRoster f).resetHeld = s.resetHeld := rfl
@[simp] theorem mapRoster_keyswitch (s : State) (f : Entry → Entry) : (s.mapRoster f).keyswitch = s.keyswitch := rfl
@[simp] theorem mapRoster_inlet (s : State) (f : Entry → Entry) : (s.mapRoster f).inlet = s.inlet := rfl
@[simp] theorem mapRoster_pool (s : State) (f : Entry → Entry) : (s.mapRoster f).pool = s.pool := rfl
@[simp] theorem mapRoster_power (s : State) (f : Entry → Entry) : (s.mapRoster f).power = s.power := rfl
@[simp] theorem mapRoster_round (s : State) (f : Entry → Entry) : (s.mapRoster f).round = s.round := rfl
@[simp] theorem mapRoster_bays (s : State) (f : Entry → Entry) : (s.mapRoster f).bays = s.bays := rfl
@[simp] theorem mapRoster_arb (s : State) (f : Entry → Entry) : (s.mapRoster f).arb = s.arb := rfl
@[simp] theorem mapRoster_sess (s : State) (f : Entry → Entry) : (s.mapRoster f).sess = s.sess := rfl
@[simp] theorem mapRoster_loop (s : State) (f : Entry → Entry) : (s.mapRoster f).loop = s.loop := rfl
@[simp] theorem mapRoster_link (s : State) (f : Entry → Entry) : (s.mapRoster f).link = s.link := rfl
@[simp] theorem mapRoster_notices (s : State) (f : Entry → Entry) : (s.mapRoster f).notices = s.notices := rfl
@[simp] theorem mapRoster_settings (s : State) (f : Entry → Entry) : (s.mapRoster f).settings = s.settings := rfl
@[simp] theorem mapRoster_image (s : State) (f : Entry → Entry) : (s.mapRoster f).image = s.image := rfl
@[simp] theorem mapRoster_retained (s : State) (f : Entry → Entry) : (s.mapRoster f).retained = s.retained := rfl
@[simp] theorem mapRoster_pending (s : State) (f : Entry → Entry) : (s.mapRoster f).pending = s.pending := rfl

/-! ### State.idleLoop -/

@[simp] theorem idleLoop_now (s : State) : s.idleLoop.now = s.now := rfl
@[simp] theorem idleLoop_resetHeld (s : State) : s.idleLoop.resetHeld = s.resetHeld := rfl
@[simp] theorem idleLoop_keyswitch (s : State) : s.idleLoop.keyswitch = s.keyswitch := rfl
@[simp] theorem idleLoop_inlet (s : State) : s.idleLoop.inlet = s.inlet := rfl
@[simp] theorem idleLoop_pool (s : State) : s.idleLoop.pool = s.pool := rfl
@[simp] theorem idleLoop_power (s : State) : s.idleLoop.power = s.power := rfl
@[simp] theorem idleLoop_round (s : State) : s.idleLoop.round = s.round := rfl
@[simp] theorem idleLoop_bays (s : State) : s.idleLoop.bays = s.bays := rfl
@[simp] theorem idleLoop_cust (s : State) : s.idleLoop.cust = s.cust := rfl
@[simp] theorem idleLoop_arb (s : State) : s.idleLoop.arb = s.arb := rfl
@[simp] theorem idleLoop_sess (s : State) : s.idleLoop.sess = s.sess := rfl
@[simp] theorem idleLoop_link (s : State) : s.idleLoop.link = s.link := rfl
@[simp] theorem idleLoop_notices (s : State) : s.idleLoop.notices = s.notices := rfl
@[simp] theorem idleLoop_settings (s : State) : s.idleLoop.settings = s.settings := rfl
@[simp] theorem idleLoop_image (s : State) : s.idleLoop.image = s.image := rfl
@[simp] theorem idleLoop_retained (s : State) : s.idleLoop.retained = s.retained := rfl
@[simp] theorem idleLoop_pending (s : State) : s.idleLoop.pending = s.pending := rfl

/-! ### State.modRebuild -/

@[simp] theorem modRebuild_now (s : State) (f : Rebuild → Rebuild) : (s.modRebuild f).now = s.now := rfl
@[simp] theorem modRebuild_resetHeld (s : State) (f : Rebuild → Rebuild) : (s.modRebuild f).resetHeld = s.resetHeld := rfl
@[simp] theorem modRebuild_keyswitch (s : State) (f : Rebuild → Rebuild) : (s.modRebuild f).keyswitch = s.keyswitch := rfl
@[simp] theorem modRebuild_inlet (s : State) (f : Rebuild → Rebuild) : (s.modRebuild f).inlet = s.inlet := rfl
@[simp] theorem modRebuild_pool (s : State) (f : Rebuild → Rebuild) : (s.modRebuild f).pool = s.pool := rfl
@[simp] theorem modRebuild_power (s : State) (f : Rebuild → Rebuild) : (s.modRebuild f).power = s.power := rfl
@[simp] theorem modRebuild_round (s : State) (f : Rebuild → Rebuild) : (s.modRebuild f).round = s.round := rfl
@[simp] theorem modRebuild_bays (s : State) (f : Rebuild → Rebuild) : (s.modRebuild f).bays = s.bays := rfl
@[simp] theorem modRebuild_cust (s : State) (f : Rebuild → Rebuild) : (s.modRebuild f).cust = s.cust := rfl
@[simp] theorem modRebuild_arb (s : State) (f : Rebuild → Rebuild) : (s.modRebuild f).arb = s.arb := rfl
@[simp] theorem modRebuild_sess (s : State) (f : Rebuild → Rebuild) : (s.modRebuild f).sess = s.sess := rfl
@[simp] theorem modRebuild_link (s : State) (f : Rebuild → Rebuild) : (s.modRebuild f).link = s.link := rfl
@[simp] theorem modRebuild_notices (s : State) (f : Rebuild → Rebuild) : (s.modRebuild f).notices = s.notices := rfl
@[simp] theorem modRebuild_settings (s : State) (f : Rebuild → Rebuild) : (s.modRebuild f).settings = s.settings := rfl
@[simp] theorem modRebuild_image (s : State) (f : Rebuild → Rebuild) : (s.modRebuild f).image = s.image := rfl
@[simp] theorem modRebuild_retained (s : State) (f : Rebuild → Rebuild) : (s.modRebuild f).retained = s.retained := rfl
@[simp] theorem modRebuild_pending (s : State) (f : Rebuild → Rebuild) : (s.modRebuild f).pending = s.pending := rfl

/-! ### State.lines -/

@[simp] theorem lines_now (s : State) : s.lines.now = s.now := rfl
@[simp] theorem lines_resetHeld (s : State) : s.lines.resetHeld = s.resetHeld := rfl
@[simp] theorem lines_keyswitch (s : State) : s.lines.keyswitch = s.keyswitch := rfl
@[simp] theorem lines_inlet (s : State) : s.lines.inlet = s.inlet := rfl
@[simp] theorem lines_pool (s : State) : s.lines.pool = s.pool := rfl
@[simp] theorem lines_power (s : State) : s.lines.power = s.power := rfl
@[simp] theorem lines_round (s : State) : s.lines.round = s.round := rfl
@[simp] theorem lines_bays (s : State) : s.lines.bays = s.bays := rfl
@[simp] theorem lines_cust (s : State) : s.lines.cust = s.cust := rfl
@[simp] theorem lines_arb (s : State) : s.lines.arb = s.arb := rfl
@[simp] theorem lines_sess (s : State) : s.lines.sess = s.sess := rfl
@[simp] theorem lines_loop (s : State) : s.lines.loop = s.loop := rfl
@[simp] theorem lines_settings (s : State) : s.lines.settings = s.settings := rfl
@[simp] theorem lines_image (s : State) : s.lines.image = s.image := rfl
@[simp] theorem lines_retained (s : State) : s.lines.retained = s.retained := rfl
@[simp] theorem lines_pending (s : State) : s.lines.pending = s.pending := rfl

/-! ### State.reply -/

@[simp] theorem reply_now (s : State) (f : RxFrame) (r : Result) (p : List Byte) (a : AfterReply) : (s.reply f r p a).now = s.now := rfl
@[simp] theorem reply_resetHeld (s : State) (f : RxFrame) (r : Result) (p : List Byte) (a : AfterReply) : (s.reply f r p a).resetHeld = s.resetHeld := rfl
@[simp] theorem reply_keyswitch (s : State) (f : RxFrame) (r : Result) (p : List Byte) (a : AfterReply) : (s.reply f r p a).keyswitch = s.keyswitch := rfl
@[simp] theorem reply_inlet (s : State) (f : RxFrame) (r : Result) (p : List Byte) (a : AfterReply) : (s.reply f r p a).inlet = s.inlet := rfl
@[simp] theorem reply_pool (s : State) (f : RxFrame) (r : Result) (p : List Byte) (a : AfterReply) : (s.reply f r p a).pool = s.pool := rfl
@[simp] theorem reply_power (s : State) (f : RxFrame) (r : Result) (p : List Byte) (a : AfterReply) : (s.reply f r p a).power = s.power := rfl
@[simp] theorem reply_round (s : State) (f : RxFrame) (r : Result) (p : List Byte) (a : AfterReply) : (s.reply f r p a).round = s.round := rfl
@[simp] theorem reply_bays (s : State) (f : RxFrame) (r : Result) (p : List Byte) (a : AfterReply) : (s.reply f r p a).bays = s.bays := rfl
@[simp] theorem reply_cust (s : State) (f : RxFrame) (r : Result) (p : List Byte) (a : AfterReply) : (s.reply f r p a).cust = s.cust := rfl
@[simp] theorem reply_arb (s : State) (f : RxFrame) (r : Result) (p : List Byte) (a : AfterReply) : (s.reply f r p a).arb = s.arb := rfl
@[simp] theorem reply_sess (s : State) (f : RxFrame) (r : Result) (p : List Byte) (a : AfterReply) : (s.reply f r p a).sess = s.sess := rfl
@[simp] theorem reply_loop (s : State) (f : RxFrame) (r : Result) (p : List Byte) (a : AfterReply) : (s.reply f r p a).loop = s.loop := rfl
@[simp] theorem reply_notices (s : State) (f : RxFrame) (r : Result) (p : List Byte) (a : AfterReply) : (s.reply f r p a).notices = s.notices := rfl
@[simp] theorem reply_settings (s : State) (f : RxFrame) (r : Result) (p : List Byte) (a : AfterReply) : (s.reply f r p a).settings = s.settings := rfl
@[simp] theorem reply_image (s : State) (f : RxFrame) (r : Result) (p : List Byte) (a : AfterReply) : (s.reply f r p a).image = s.image := rfl
@[simp] theorem reply_retained (s : State) (f : RxFrame) (r : Result) (p : List Byte) (a : AfterReply) : (s.reply f r p a).retained = s.retained := rfl
@[simp] theorem reply_pending (s : State) (f : RxFrame) (r : Result) (p : List Byte) (a : AfterReply) : (s.reply f r p a).pending = s.pending := rfl

/-! ### What an update writes -/

@[simp] theorem reach_now (s : State) (due : Nat) : (s.reach due).now = max s.now due := rfl

@[simp] theorem place_loop (s : State) (t : Txn) : (s.place t).loop = s.loop.put t := rfl

@[simp] theorem withdraw_loop (s : State) (p : Txn → Bool) : (s.withdraw p).loop = s.loop.drop p := rfl

@[simp] theorem idleLoop_onLoop (s : State) : s.idleLoop.loop.onLoop = none := rfl

@[simp] theorem send_onLoop (s : State) (t : Txn) :
    (s.send t).loop.onLoop = some ⟨t, 1, s.now + 3, false⟩ := rfl

@[simp] theorem send_lastFrame (s : State) (t : Txn) : (s.send t).loop.lastFrame = t.frame := rfl

@[simp] theorem markPending_marks (s : State) : s.markPending.round.pending = true := rfl

@[simp] theorem lines_attention (s : State) :
    s.lines.notices.attention = s.notices.line (s.cfg .attention) := rfl

@[simp] theorem lines_ready (s : State) : s.lines.link.ready = s.link.line := rfl

@[simp] theorem reply_tx (s : State) (f : RxFrame) (r : Result) (p : List Byte) (a : AfterReply) :
    (s.reply f r p a).link.tx = some ⟨replyBytes f.tag f.kind r p, if s.link.clear then 1 else 0, a⟩ :=
  rfl

@[simp] theorem reply_buffer (s : State) (f : RxFrame) (r : Result) (p : List Byte) (a : AfterReply) :
    (s.reply f r p a).link.buffer = s.link.buffer := rfl

/-! ### Bays -/

theorem bay_eq (s : State) (i : BayIx) : s.bay i = s.bays[i.1] := rfl

/-- States of equal bay records read equal records. -/
theorem bay_of_bays {s t : State} (h : t.bays = s.bays) (i : BayIx) : t.bay i = s.bay i := by
  simp only [bay_eq, h]

@[simp] theorem bay_setBay_self (s : State) (i : BayIx) (b : Bay) : (s.setBay i b).bay i = b := by
  simp [State.setBay, State.bay]

theorem bay_setBay_ne (s : State) {i j : BayIx} (b : Bay) (h : j ≠ i) :
    (s.setBay i b).bay j = s.bay j := by
  simp only [State.setBay, State.bay]
  exact Vector.getElem_set_ne _ _ (fun e => h (Fin.ext e.symm))

@[simp] theorem bay_modBay_self (s : State) (i : BayIx) (f : Bay → Bay) :
    (s.modBay i f).bay i = f (s.bay i) := bay_setBay_self s i _

theorem bay_modBay_ne (s : State) {i j : BayIx} (f : Bay → Bay) (h : j ≠ i) :
    (s.modBay i f).bay j = s.bay j := bay_setBay_ne s _ h

theorem bay_modBay (s : State) (i j : BayIx) (f : Bay → Bay) :
    (s.modBay i f).bay j = if j = i then f (s.bay j) else s.bay j := by
  split
  · next h => subst h; exact bay_modBay_self s j f
  · next h => exact bay_modBay_ne s f h

/-! ### Slots and channels -/

@[simp] theorem slot_setSlot_self (s : State) (k : PulseSlot) (p : Option Pulse) :
    (s.setSlot k p).slot k = p := by cases k <;> rfl

theorem slot_setSlot_ne (s : State) {k j : PulseSlot} (p : Option Pulse) (h : j ≠ k) :
    (s.setSlot k p).slot j = s.slot j := by
  cases k <;> cases j <;> first | rfl | exact absurd rfl h

@[simp] theorem setSlot_queue (s : State) (k : PulseSlot) (p : Option Pulse) :
    (s.setSlot k p).arb.queue = s.arb.queue := by cases k <;> rfl

@[simp] theorem chan_setChan_self (s : State) (c : ChanIx) (ch : Channel) :
    (s.setChan c ch).chan c = ch := by
  simp [State.setChan, State.chan]

@[simp] theorem setChan_queue (s : State) (c : ChanIx) (ch : Channel) :
    (s.setChan c ch).sess.queue = s.sess.queue := rfl

end Sys2Proof.Machine
end

