-- ==== Sys2Proof/Laws/Kept.lean ====
section
/-! SUPPORT. What the operations within an event never touch: the clock, the reset pin, the key, the inlet, the quiet
flag, the host link but for its ready line, the levels and the Fetch hold, the grace flag, the assets of the roster and
their order, the settings and their image, the seconds counter and the queue of commands. One lemma for each operation:
what it keeps is what it found. -/

namespace Sys2Proof.Machine

/-- An update of the other parts keeps. -/
@[simp] theorem kept_mk (s : State) (pool : Pool) (power : Power) (round : Round) (bays : Vector Bay 36)
    (cust : CustodyUnit) (arb : Arbiter) (sess : Sessions) (loop : Loop) (notices : Notices)
    (quiet : pool.quiet = s.pool.quiet) (grace : cust.grace = s.cust.grace)
    (assets : cust.roster.map (·.asset) = s.cust.roster.map (·.asset))
    (levels : notices.levels = s.notices.levels) (hold : notices.fetchHold = s.notices.fetchHold) :
    State.kept ⟨s.now, s.resetHeld, s.keyswitch, s.inlet, pool, power, round, bays, cust, arb, sess, loop,
      s.link, notices, s.settings, s.image, s.retained, s.pending⟩ = s.kept := by
  simp only [State.kept, quiet, grace, assets, levels, hold]

/-- A fold of operations that keep, keeps. -/
@[simp] theorem kept_foldl {α : Type} (f : State → α → State) (l : List α) (s : State)
    (h : ∀ s a, (f s a).kept = s.kept) : (l.foldl f s).kept = s.kept := by
  induction l generalizing s with
  | nil => rfl
  | cons a l ih => rw [List.foldl_cons, ih, h]

@[simp] theorem put_levels (n : Notices) (r : Notice) : (n.put r).levels = n.levels := by
  unfold Notices.put; split <;> [rfl; (split <;> rfl)]

@[simp] theorem put_fetchHold (n : Notices) (r : Notice) : (n.put r).fetchHold = n.fetchHold := by
  unfold Notices.put; split <;> [rfl; (split <;> rfl)]

@[simp] theorem kept_setBay (s : State) (i : BayIx) (b : Bay) : (s.setBay i b).kept = s.kept := rfl

@[simp] theorem kept_modBay (s : State) (i : BayIx) (f : Bay → Bay) : (s.modBay i f).kept = s.kept := rfl

@[simp] theorem kept_modBays (s : State) (f : BayIx → Bay → Bay) : (s.modBays f).kept = s.kept :=
  kept_foldl _ _ _ fun s i => kept_modBay s i (f i)

@[simp] theorem kept_setSlot (s : State) (k : PulseSlot) (p : Option Pulse) :
    (s.setSlot k p).kept = s.kept := by cases k <;> rfl

@[simp] theorem kept_setChan (s : State) (c : ChanIx) (ch : Channel) : (s.setChan c ch).kept = s.kept :=
  rfl

@[simp] theorem kept_modSession (s : State) (id : Nat) (f : Session → Session) :
    (s.modSession id f).kept = s.kept := rfl

@[simp] theorem kept_lines (s : State) : s.lines.kept = s.kept := rfl

/-- Roster entries changed in anything but their assets. -/
theorem kept_mapRoster (s : State) (f : Entry → Entry) (h : ∀ e, (f e).asset = e.asset) :
    (s.mapRoster f).kept = s.kept := by
  have : (s.cust.roster.map f).map (·.asset) = s.cust.roster.map (·.asset) := by
    rw [List.map_map]; exact List.map_congr_left fun e _ => h e
  simp only [State.kept, State.mapRoster, this]


@[simp] theorem kept_raise (s : State) (k : NoticeKind) (bay : Option BayIx) (asset : Option AssetId) (session : Option Nat) (value : Option Nat) (reason : Option Reason) :
    (s.raise k bay asset session value reason).kept = s.kept := by
  unfold State.raise
  dsimp only
  split
  · rfl
  · simp [State.kept]

@[simp] theorem kept_place (s : State) (t : Txn) :
    (s.place t).kept = s.kept := rfl

@[simp] theorem kept_withdraw (s : State) (p : Txn → Bool) :
    (s.withdraw p).kept = s.kept := rfl

@[simp] theorem kept_send (s : State) (t : Txn) :
    (s.send t).kept = s.kept := rfl

@[simp] theorem kept_askBolt (s : State) (i : BayIx) (d : Dir) :
    (s.askBolt i d).kept = s.kept := by
  unfold State.askBolt
  try dsimp only
  repeat' split
  all_goals try simp

@[simp] theorem kept_dropBolt (s : State) (i : BayIx) :
    (s.dropBolt i).kept = s.kept := by
  unfold State.dropBolt
  try dsimp only
  repeat' split
  all_goals try simp

@[simp] theorem kept_markPending (s : State) :
    s.markPending.kept = s.kept := rfl

@[simp] theorem kept_markAtOnce (s : State) :
    s.markAtOnce.kept = s.kept := rfl

@[simp] theorem kept_setGrants (s : State) (i : BayIx) (applied commanded : Nat) :
    (s.setGrants i applied commanded).kept = s.kept := by
  unfold State.setGrants
  try dsimp only
  repeat' split
  all_goals try simp

@[simp] theorem kept_refreshShare (s : State) (i : BayIx) :
    (s.refreshShare i).kept = s.kept := by
  unfold State.refreshShare
  try dsimp only
  repeat' split
  all_goals try simp

@[simp] theorem kept_refreshShares (s : State) :
    s.refreshShares.kept = s.kept := by
  unfold State.refreshShares
  try dsimp only
  all_goals try simp

@[simp] theorem kept_issueGrant (s : State) (k : GrantKind) (i : BayIx) (w : Nat) :
    (s.issueGrant k i w).kept = s.kept := by
  unfold State.issueGrant
  try dsimp only
  repeat' split
  all_goals try simp

@[simp] theorem kept_withdrawGrant (s : State) (i : BayIx) :
    (s.withdrawGrant i).kept = s.kept := by
  unfold State.withdrawGrant
  try dsimp only
  repeat' split
  all_goals try simp

@[simp] theorem kept_endRound (s : State) :
    s.endRound.kept = s.kept := by
  unfold State.endRound
  try dsimp only
  all_goals try simp

@[simp] theorem kept_leaveRaise (s : State) :
    s.leaveRaise.kept = s.kept := by
  unfold State.leaveRaise
  try dsimp only
  all_goals try simp

@[simp] theorem kept_raiseBay (s : State) (i : BayIx) :
    (s.raiseBay i).kept = s.kept := by
  unfold State.raiseBay
  try dsimp only
  repeat' split
  all_goals try simp

@[simp] theorem kept_beginRaising (s : State) :
    s.beginRaising.kept = s.kept := by
  unfold State.beginRaising
  try dsimp only
  all_goals try simp

@[simp] theorem kept_roundOn (s : State) :
    s.roundOn.kept = s.kept := by
  unfold State.roundOn
  try dsimp only
  repeat' split
  all_goals try simp

@[simp] theorem kept_takeTargets (s : State) :
    s.takeTargets.kept = s.kept := by
  unfold State.takeTargets
  try dsimp only
  all_goals try simp

@[simp] theorem kept_lowerBay (s : State) (i : BayIx) :
    (s.lowerBay i).kept = s.kept := by
  unfold State.lowerBay
  try dsimp only
  all_goals try simp

@[simp] theorem kept_beginRound (s : State) :
    s.beginRound.kept = s.kept := by
  unfold State.beginRound
  try dsimp only
  repeat' split
  all_goals try simp

@[simp] theorem kept_grantEnded (s : State) (k : GrantKind) (i : BayIx) :
    (s.grantEnded k i).kept = s.kept := by
  unfold State.grantEnded
  try dsimp only
  repeat' split
  all_goals try simp

@[simp] theorem kept_cutGrant (s : State) (i : BayIx) :
    (s.cutGrant i).kept = s.kept := by
  unfold State.cutGrant
  try dsimp only
  repeat' split
  all_goals try simp

@[simp] theorem kept_cutRound (s : State) :
    s.cutRound.kept = s.kept := by
  unfold State.cutRound
  try dsimp only
  repeat' split
  all_goals try simp

@[simp] theorem kept_shedAll (s : State) :
    s.shedAll.kept = s.kept := by
  unfold State.shedAll
  try dsimp only
  repeat' split
  all_goals try simp

@[simp] theorem kept_abandonRound (s : State) :
    s.abandonRound.kept = s.kept := by
  unfold State.abandonRound
  try dsimp only
  repeat' split
  all_goals try simp

@[simp] theorem kept_emergencyShed (s : State) :
    s.emergencyShed.kept = s.kept := by
  unfold State.emergencyShed
  try dsimp only
  all_goals try simp

@[simp] theorem kept_drainShed (s : State) :
    s.drainShed.kept = s.kept := by
  unfold State.drainShed
  try dsimp only
  all_goals try simp

@[simp] theorem kept_fallBelow (s : State) :
    s.fallBelow.kept = s.kept := by
  unfold State.fallBelow
  try dsimp only
  all_goals try simp

@[simp] theorem kept_recomputePool (s : State) :
    s.recomputePool.kept = s.kept := by
  unfold State.recomputePool
  try dsimp only
  repeat' split
  all_goals try simp

@[simp] theorem kept_judgeEligible (s : State) :
    s.judgeEligible.kept = s.kept := by
  unfold State.judgeEligible
  try dsimp only
  repeat' split
  all_goals try simp

@[simp] theorem kept_faultGrant (s : State) (i : BayIx) :
    (s.faultGrant i).kept = s.kept := by
  unfold State.faultGrant
  try dsimp only
  repeat' split
  all_goals try simp

@[simp] theorem kept_dispatchTo (s : State) (c : ChanIx) (x : Session) :
    (s.dispatchTo c x).kept = s.kept := by
  unfold State.dispatchTo
  try dsimp only
  all_goals try simp

@[simp] theorem kept_dispatchChan (s : State) (c : ChanIx) :
    (s.dispatchChan c).kept = s.kept := by
  unfold State.dispatchChan
  try dsimp only
  repeat' split
  all_goals try simp

@[simp] theorem kept_dispatch (s : State) :
    s.dispatch.kept = s.kept := by
  unfold State.dispatch
  try dsimp only
  all_goals try simp

@[simp] theorem kept_leaveQueue (s : State) (x : Session) :
    (s.leaveQueue x).kept = s.kept := by
  unfold State.leaveQueue
  try dsimp only
  repeat' split
  all_goals try simp

@[simp] theorem kept_channelFreed (s : State) (x : Session) :
    (s.channelFreed x).kept = s.kept := by
  unfold State.channelFreed
  try dsimp only
  repeat' split
  all_goals try simp

@[simp] theorem kept_endSessionAs (s : State) (id : Nat) (o : SessOutcome) (asset : Option AssetId) :
    (s.endSessionAs id o asset).kept = s.kept := by
  unfold State.endSessionAs
  try dsimp only
  repeat' split
  all_goals try simp

@[simp] theorem kept_endSession (s : State) (id : Nat) (o : SessOutcome) :
    (s.endSession id o).kept = s.kept := by
  unfold State.endSession
  try dsimp only
  repeat' split
  all_goals try simp

@[simp] theorem kept_tellRemoval (s : State) (i : BayIx) (asset : Option AssetId) :
    (s.tellRemoval i asset).kept = s.kept := by
  unfold State.tellRemoval
  try dsimp only
  repeat' split
  all_goals try simp

@[simp] theorem kept_sessionMeetsRelease (s : State) (i : BayIx) :
    (s.sessionMeetsRelease i).kept = s.kept := by
  unfold State.sessionMeetsRelease
  try dsimp only
  repeat' split
  all_goals try simp

@[simp] theorem kept_endSessionsIn (s : State) (p : SessState → Bool) (o : SessOutcome) :
    (s.endSessionsIn p o).kept = s.kept := by
  unfold State.endSessionsIn
  try dsimp only
  all_goals try simp

@[simp] theorem kept_chanOf (s : State) (x : Session) (f : Channel → Channel) :
    (s.chanOf x f).kept = s.kept := by
  unfold State.chanOf
  try dsimp only
  repeat' split
  all_goals try simp

@[simp] theorem kept_linkUpSession (s : State) (x : Session) :
    (s.linkUpSession x).kept = s.kept := by
  unfold State.linkUpSession
  try dsimp only
  all_goals try simp

@[simp] theorem kept_progressSession (s : State) (x : Session) (v : Nat) :
    (s.progressSession x v).kept = s.kept := by
  unfold State.progressSession
  try dsimp only
  all_goals try simp

@[simp] theorem kept_finishActive (s : State) (x : Session) (ok : Bool) :
    (s.finishActive x ok).kept = s.kept := by
  unfold State.finishActive
  try dsimp only
  all_goals try simp

@[simp] theorem kept_configure (s : State) (c : ChanIx) (new : ChanCfg) :
    (s.configure c new).kept = s.kept := by
  unfold State.configure
  try dsimp only
  repeat' split
  all_goals try simp

@[simp] theorem kept_leaveReady (s : State) (i : BayIx) (why : Option Reason) :
    (s.leaveReady i why).kept = s.kept := by
  unfold State.leaveReady
  try dsimp only
  repeat' split
  all_goals try simp

@[simp] theorem kept_emptyReady (s : State) (why : Reason) :
    (s.emptyReady why).kept = s.kept := by
  unfold State.emptyReady
  try dsimp only
  repeat' split
  all_goals try simp

@[simp] theorem kept_sayReadyCleared (s : State) : s.sayReadyCleared.kept = s.kept := by
  unfold State.sayReadyCleared
  split <;> simp

@[simp] theorem kept_prepareReady (s : State) (n : Nat) :
    (s.prepareReady n).kept = s.kept := by
  unfold State.prepareReady
  try dsimp only
  all_goals try simp

@[simp] theorem kept_dockedOut (s : State) (i : BayIx) (holder : Option Badge) :
    (s.dockedOut i holder).kept = s.kept := kept_mapRoster s _ fun e => by split <;> rfl

@[simp] theorem kept_dockedMissing (s : State) (i : BayIx) :
    (s.dockedMissing i).kept = s.kept := kept_mapRoster s _ fun e => by split <;> rfl

@[simp] theorem kept_dockEntry (s : State) (a : AssetId) (i : BayIx) :
    (s.dockEntry a i).kept = s.kept := kept_mapRoster s _ fun e => by split <;> rfl

@[simp] theorem kept_setAsset (s : State) (i : BayIx) (a : Option AssetId) (st : Option Standing) :
    (s.setAsset i a st).kept = s.kept := by
  unfold State.setAsset
  try dsimp only
  all_goals try simp

@[simp] theorem kept_dropTag (s : State) (i : BayIx) :
    (s.dropTag i).kept = s.kept := by
  unfold State.dropTag
  try dsimp only
  repeat' split
  all_goals try simp

@[simp] theorem kept_stopSeating (s : State) (i : BayIx) :
    (s.stopSeating i).kept = s.kept := by
  unfold State.stopSeating
  try dsimp only
  all_goals try simp

@[simp] theorem kept_stopWindow (s : State) (i : BayIx) :
    (s.stopWindow i).kept = s.kept := by
  unfold State.stopWindow
  try dsimp only
  all_goals try simp

@[simp] theorem kept_become (s : State) (i : BayIx) (c : Custody) :
    (s.become i c).kept = s.kept := by
  unfold State.become
  try dsimp only
  repeat' split
  all_goals try simp

@[simp] theorem kept_clearBay (s : State) (i : BayIx) :
    (s.clearBay i).kept = s.kept := by
  unfold State.clearBay
  try dsimp only
  all_goals try simp

@[simp] theorem kept_engageBay (s : State) (i : BayIx) :
    (s.engageBay i).kept = s.kept := by
  unfold State.engageBay
  split
  all_goals simp

@[simp] theorem kept_secureBay (s : State) (i : BayIx) :
    (s.secureBay i).kept = s.kept := by
  unfold State.secureBay
  try dsimp only
  all_goals try simp

@[simp] theorem kept_dropRelease (s : State) (i : BayIx) :
    (s.dropRelease i).kept = s.kept := by
  unfold State.dropRelease
  try dsimp only
  all_goals try simp

@[simp] theorem kept_sayCancelled (s : State) (i : BayIx) (why : Reason) :
    (s.sayCancelled i why).kept = s.kept := by
  unfold State.sayCancelled
  try dsimp only
  all_goals try simp

@[simp] theorem kept_drainReleasing (s : State) (i : BayIx) (why : Reason) :
    (s.drainReleasing i why).kept = s.kept := by
  unfold State.drainReleasing
  try dsimp only
  repeat' split
  all_goals try simp

@[simp] theorem kept_drainReleased (s : State) (i : BayIx) (why : Reason) :
    (s.drainReleased i why).kept = s.kept := by
  unfold State.drainReleased
  try dsimp only
  repeat' split
  all_goals try simp

@[simp] theorem kept_drainMind (s : State) (i : BayIx) :
    (s.drainMind i).kept = s.kept := by
  unfold State.drainMind
  try dsimp only
  repeat' split
  all_goals try simp

@[simp] theorem kept_openWindow (s : State) (i : BayIx) :
    (s.openWindow i).kept = s.kept := by
  unfold State.openWindow
  try dsimp only
  all_goals try simp

@[simp] theorem kept_acceptRelease (s : State) (i : BayIx) (seconds : Nat) (holder : Option Badge) (origin : ReleaseOrigin) :
    (s.acceptRelease i seconds holder origin).kept = s.kept := by
  unfold State.acceptRelease
  try dsimp only
  repeat' split
  all_goals try simp

@[simp] theorem kept_takeTablet (s : State) (i : BayIx) (holder : Option Badge) (why : Reason) (value : Nat) :
    (s.takeTablet i holder why value).kept = s.kept := by
  unfold State.takeTablet
  try dsimp only
  all_goals try simp

@[simp] theorem kept_windowEnds (s : State) (i : BayIx) :
    (s.windowEnds i).kept = s.kept := by
  unfold State.windowEnds
  try dsimp only
  all_goals try simp

@[simp] theorem kept_sayTamper (s : State) (i : BayIx) (why : Reason) :
    (s.sayTamper i why).kept = s.kept := by
  unfold State.sayTamper
  try dsimp only
  all_goals try simp

@[simp] theorem kept_mendBolt (s : State) (i : BayIx) (bolt : Bolt) :
    (s.mendBolt i bolt).kept = s.kept := by
  unfold State.mendBolt
  try dsimp only
  repeat' split
  all_goals try simp

@[simp] theorem kept_judgeVacant (s : State) (i : BayIx) (presence : Bool) (bolt : Bolt) :
    (s.judgeVacant i presence bolt).kept = s.kept := by
  unfold State.judgeVacant
  try dsimp only
  repeat' split
  all_goals try simp

@[simp] theorem kept_judgeSeating (s : State) (i : BayIx) (presence : Bool) :
    (s.judgeSeating i presence).kept = s.kept := by
  unfold State.judgeSeating
  try dsimp only
  repeat' split
  all_goals try simp

@[simp] theorem kept_markGone (s : State) (i : BayIx) : (s.markGone i).kept = s.kept := rfl

@[simp] theorem kept_judgeSecuring (s : State) (i : BayIx) :
    (s.judgeSecuring i).kept = s.kept := by
  unfold State.judgeSecuring
  try dsimp only
  repeat' split
  all_goals try simp

@[simp] theorem kept_judgeLocked (s : State) (i : BayIx) (presence : Bool) (bolt : Bolt) :
    (s.judgeLocked i presence bolt).kept = s.kept := by
  unfold State.judgeLocked
  try dsimp only
  repeat' split
  all_goals try simp

@[simp] theorem kept_judgeReleasing (s : State) (i : BayIx) :
    (s.judgeReleasing i).kept = s.kept := by
  unfold State.judgeReleasing
  try dsimp only
  all_goals try simp

@[simp] theorem kept_judgeReleased (s : State) (i : BayIx) (presence : Bool) (bolt : Bolt) :
    (s.judgeReleased i presence bolt).kept = s.kept := by
  unfold State.judgeReleased
  try dsimp only
  repeat' split
  all_goals try simp

@[simp] theorem kept_removeHeld (s : State) (i : BayIx) :
    (s.removeHeld i).kept = s.kept := by
  unfold State.removeHeld
  try dsimp only
  all_goals try simp

@[simp] theorem kept_loseJammed (s : State) (i : BayIx) :
    (s.loseJammed i).kept = s.kept := by
  unfold State.loseJammed
  try dsimp only
  repeat' split
  all_goals try simp

@[simp] theorem kept_judge (s : State) (i : BayIx) (presence : Bool) (bolt : Bolt) :
    (s.judge i presence bolt).kept = s.kept := by
  unfold State.judge
  try dsimp only
  repeat' split
  all_goals try simp

@[simp] theorem kept_buttonPress (s : State) (i : BayIx) (latch : Bool) :
    (s.buttonPress i latch).kept = s.kept := by
  unfold State.buttonPress
  try dsimp only
  repeat' split
  all_goals try simp

@[simp] theorem kept_holdBay (s : State) (i : BayIx) (r : HeldReason) (a : Option AssetId) (st : Option Standing) :
    (s.holdBay i r a st).kept = s.kept := by
  unfold State.holdBay
  try dsimp only
  all_goals try simp

@[simp] theorem kept_dockBay (s : State) (i : BayIx) (a : AssetId) (e : Entry) (k : NoticeKind) (value : Option Nat) :
    (s.dockBay i a e k value).kept = s.kept := by
  unfold State.dockBay
  try dsimp only
  repeat' split
  all_goals try simp

@[simp] theorem kept_identified (s : State) (i : BayIx) (id : Option AssetId) :
    (s.identified i id).kept = s.kept := by
  unfold State.identified
  try dsimp only
  repeat' split
  all_goals try simp

@[simp] theorem kept_engageDone (s : State) (i : BayIx) :
    (s.engageDone i).kept = s.kept := by
  unfold State.engageDone
  try dsimp only
  repeat' split
  all_goals try simp

@[simp] theorem kept_retractDone (s : State) (i : BayIx) :
    (s.retractDone i).kept = s.kept := by
  unfold State.retractDone
  try dsimp only
  repeat' split
  all_goals try simp

@[simp] theorem kept_pulseReport (s : State) (i : BayIx) (d : Dir) (ok : Bool) :
    (s.pulseReport i d ok).kept = s.kept := by
  unfold State.pulseReport
  try dsimp only
  repeat' split
  all_goals try simp

@[simp] theorem kept_unjam (s : State) (i : BayIx) :
    (s.unjam i).kept = s.kept := by
  unfold State.unjam
  try dsimp only
  repeat' split
  all_goals try simp

@[simp] theorem kept_compareLamp (s : State) (i : BayIx) :
    (s.compareLamp i).kept = s.kept := by
  unfold State.compareLamp
  try dsimp only
  repeat' split
  all_goals try simp

@[simp] theorem kept_deriveLamp (s : State) (i : BayIx) :
    (s.deriveLamp i).kept = s.kept := by
  unfold State.deriveLamp
  try dsimp only
  repeat' split
  all_goals try simp

@[simp] theorem kept_deriveLamps (s : State) :
    s.deriveLamps.kept = s.kept := by
  unfold State.deriveLamps
  try dsimp only
  all_goals try simp

@[simp] theorem kept_loopPowerOff (s : State) :
    s.loopPowerOff.kept = s.kept := by
  unfold State.loopPowerOff
  try dsimp only
  repeat' split
  all_goals try simp

@[simp] theorem kept_enterSettling (s : State) :
    s.enterSettling.kept = s.kept := by
  unfold State.enterSettling
  try dsimp only
  all_goals try simp

@[simp] theorem kept_beginDrain (s : State) (k : DrainKind) :
    (s.beginDrain k).kept = s.kept := by
  unfold State.beginDrain
  try dsimp only
  repeat' split
  all_goals try simp

@[simp] theorem kept_powerUp (s : State) (r : Rebuild) :
    (s.powerUp r).kept = s.kept := by
  unfold State.powerUp
  try dsimp only
  all_goals try simp

@[simp] theorem kept_enterPowerOff (s : State) :
    s.enterPowerOff.kept = s.kept := by
  unfold State.enterPowerOff
  try dsimp only
  repeat' split
  all_goals try simp

@[simp] theorem kept_startRebuild (s : State) (c : RebuildCause) :
    (s.startRebuild c).kept = s.kept := by
  unfold State.startRebuild
  try dsimp only
  repeat' split
  all_goals try simp

@[simp] theorem kept_throughTransit (s : State) :
    s.throughTransit.kept = s.kept := by
  unfold State.throughTransit
  try dsimp only
  repeat' split
  all_goals try simp

@[simp] theorem kept_enterTransit (s : State) :
    s.enterTransit.kept = s.kept := by
  unfold State.enterTransit
  try dsimp only
  all_goals try simp

@[simp] theorem kept_endDrain (s : State) :
    s.endDrain.kept = s.kept := by
  unfold State.endDrain
  try dsimp only
  repeat' split
  all_goals try simp

@[simp] theorem kept_drainCheck (s : State) :
    s.drainCheck.kept = s.kept := by
  unfold State.drainCheck
  try dsimp only
  repeat' split
  all_goals try simp

@[simp] theorem kept_abandonRebuild (s : State) :
    s.abandonRebuild.kept = s.kept := by
  unfold State.abandonRebuild
  try dsimp only
  repeat' split
  all_goals try simp

@[simp] theorem kept_autoCheck (s : State) :
    s.autoCheck.kept = s.kept := by
  unfold State.autoCheck
  try dsimp only
  repeat' split
  all_goals try simp

@[simp] theorem kept_enterRiding (s : State) :
    s.enterRiding.kept = s.kept := by
  unfold State.enterRiding
  try dsimp only
  all_goals try simp

@[simp] theorem kept_dropSettling (s : State) :
    s.dropSettling.kept = s.kept := by
  unfold State.dropSettling
  try dsimp only
  repeat' split
  all_goals try simp

@[simp] theorem kept_dropout (s : State) :
    s.dropout.kept = s.kept := by
  unfold State.dropout
  try dsimp only
  repeat' split
  all_goals try simp

@[simp] theorem kept_resumeServing (s : State) :
    s.resumeServing.kept = s.kept := by
  unfold State.resumeServing
  try dsimp only
  all_goals try simp

@[simp] theorem kept_restoration (s : State) :
    s.restoration.kept = s.kept := by
  unfold State.restoration
  try dsimp only
  repeat' split
  all_goals try simp

@[simp] theorem kept_unmark (s : State) (i : BayIx) :
    (s.unmark i).kept = s.kept := by
  unfold State.unmark
  try dsimp only
  repeat' split
  all_goals try simp

@[simp] theorem kept_abandonRecon (s : State) :
    s.abandonRecon.kept = s.kept := by
  unfold State.abandonRecon
  try dsimp only
  repeat' split
  all_goals try simp

@[simp] theorem kept_rideOut (s : State) :
    s.rideOut.kept = s.kept := by
  unfold State.rideOut
  try dsimp only
  all_goals try simp

@[simp] theorem kept_leaveEmpty (s : State) (i : BayIx) (bolt : Bolt) :
    (s.leaveEmpty i bolt).kept = s.kept := by
  unfold State.leaveEmpty
  try dsimp only
  repeat' split
  all_goals try simp

@[simp] theorem kept_mendHeld (s : State) (i : BayIx) (bolt : Bolt) :
    (s.mendHeld i bolt).kept = s.kept := by
  unfold State.mendHeld
  try dsimp only
  repeat' split
  all_goals try simp

@[simp] theorem kept_mismatch (s : State) (i : BayIx) (why : Reason) :
    (s.mismatch i why).kept = s.kept := by
  unfold State.mismatch
  try dsimp only
  all_goals try simp

@[simp] theorem kept_foundGone (s : State) (i : BayIx) (bolt : Bolt) :
    (s.foundGone i bolt).kept = s.kept := by
  unfold State.foundGone
  try dsimp only
  all_goals try simp

@[simp] theorem kept_foundSwapped (s : State) (i : BayIx) (bolt : Bolt) (r : HeldReason) (read : Option AssetId) :
    (s.foundSwapped i bolt r read).kept = s.kept := by
  unfold State.foundSwapped
  try dsimp only
  all_goals try simp

@[simp] theorem kept_foundTaken (s : State) (i : BayIx) (bolt : Bolt) :
    (s.foundTaken i bolt).kept = s.kept := by
  unfold State.foundTaken
  try dsimp only
  all_goals try simp

@[simp] theorem kept_decideKept (s : State) (i : BayIx) (presence : Bool) (bolt : Bolt) (read : Option AssetId) :
    (s.decideKept i presence bolt read).kept = s.kept := by
  unfold State.decideKept
  try dsimp only
  repeat' split
  all_goals try simp

@[simp] theorem kept_decideHeld (s : State) (i : BayIx) (presence : Bool) (bolt : Bolt) (read : Option AssetId) :
    (s.decideHeld i presence bolt read).kept = s.kept := by
  unfold State.decideHeld
  try dsimp only
  repeat' split
  all_goals try simp

@[simp] theorem kept_decideEmpty (s : State) (i : BayIx) (presence : Bool) (bolt : Bolt) :
    (s.decideEmpty i presence bolt).kept = s.kept := by
  unfold State.decideEmpty
  try dsimp only
  repeat' split
  all_goals try simp

@[simp] theorem kept_decideOpen (s : State) (i : BayIx) (presence : Bool) (bolt : Bolt) :
    (s.decideOpen i presence bolt).kept = s.kept := by
  unfold State.decideOpen
  try dsimp only
  repeat' split
  all_goals try simp

@[simp] theorem kept_decideWarm (s : State) (i : BayIx) (presence : Bool) (bolt : Bolt) (read : Option AssetId) :
    (s.decideWarm i presence bolt read).kept = s.kept := by
  unfold State.decideWarm
  try dsimp only
  repeat' split
  all_goals try simp

@[simp] theorem kept_decideCold (s : State) (i : BayIx) (presence : Bool) (bolt : Bolt) :
    (s.decideCold i presence bolt).kept = s.kept := by
  unfold State.decideCold
  try dsimp only
  repeat' split
  all_goals try simp

@[simp] theorem kept_decide (s : State) (i : BayIx) (read : Option AssetId) :
    (s.decide i read).kept = s.kept := by
  unfold State.decide
  try dsimp only
  repeat' split
  all_goals try simp

@[simp] theorem kept_reconReport (s : State) (i : BayIx) :
    (s.reconReport i).kept = s.kept := by
  unfold State.reconReport
  try dsimp only
  repeat' split
  all_goals try simp

@[simp] theorem kept_reconBay (s : State) (count : Nat) (i : BayIx) :
    (s.reconBay count i).kept = s.kept := by
  unfold State.reconBay
  try dsimp only
  repeat' split
  all_goals try simp

@[simp] theorem kept_beginRecon (s : State) (c : RebuildCause) (count : Nat) :
    (s.beginRecon c count).kept = s.kept := by
  unfold State.beginRecon
  try dsimp only
  repeat' split
  all_goals try simp

@[simp] theorem kept_leaveTransit (s : State) :
    s.leaveTransit.kept = s.kept := by
  unfold State.leaveTransit
  try dsimp only
  repeat' split
  all_goals try simp

@[simp] theorem kept_endRecon (s : State) :
    s.endRecon.kept = s.kept := by
  unfold State.endRecon
  try dsimp only
  all_goals try simp

@[simp] theorem kept_reconCheck (s : State) :
    s.reconCheck.kept = s.kept := by
  unfold State.reconCheck
  try dsimp only
  repeat' split
  all_goals try simp

@[simp] theorem kept_leaveBeyond (s : State) (m : Nat) (i : BayIx) :
    (s.leaveBeyond m i).kept = s.kept := by
  unfold State.leaveBeyond
  try dsimp only
  repeat' split
  all_goals try simp

@[simp] theorem kept_scanPlace (s : State) (i : BayIx) (rest : List BayIx) :
    (s.scanPlace i rest).kept = s.kept := by
  unfold State.scanPlace
  simp

@[simp] theorem kept_startPass (s : State) : s.startPass.kept = s.kept := by
  unfold State.startPass
  dsimp only
  split
  all_goals simp

@[simp] theorem kept_freshPass (s : State) : s.freshPass.kept = s.kept := by
  unfold State.freshPass
  simp

@[simp] theorem kept_endRebuild (s : State) (m : Nat) :
    (s.endRebuild m).kept = s.kept := by
  unfold State.endRebuild
  try dsimp only
  repeat' split
  all_goals try simp

@[simp] theorem kept_modRebuild (s : State) (f : Rebuild → Rebuild) :
    (s.modRebuild f).kept = s.kept := rfl

@[simp] theorem kept_discover (s : State) (p : BayIx) :
    (s.discover p).kept = s.kept := by
  unfold State.discover
  try dsimp only
  all_goals try simp

@[simp] theorem kept_discIdentified (s : State) (p : BayIx) (serial : Option Serial) :
    (s.discIdentified p serial).kept = s.kept := by
  unfold State.discIdentified
  try dsimp only
  repeat' split
  all_goals try simp

@[simp] theorem kept_discAssigned (s : State) (p : BayIx) (ok : Bool) :
    (s.discAssigned p ok).kept = s.kept := by
  unfold State.discAssigned
  try dsimp only
  repeat' split
  all_goals try simp

@[simp] theorem kept_discPassed (s : State) (p : BayIx) (ok : Bool) :
    (s.discPassed p ok).kept = s.kept := by
  unfold State.discPassed
  try dsimp only
  repeat' split
  all_goals try simp

@[simp] theorem kept_probed (s : State) (p : BayIx) (ok : Bool) :
    (s.probed p ok).kept = s.kept := by
  unfold State.probed
  try dsimp only
  all_goals try simp

@[simp] theorem kept_startAttempt (s : State) (k : PulseSlot) (p : Pulse) :
    (s.startAttempt k p).kept = s.kept := by
  unfold State.startAttempt
  try dsimp only
  all_goals try simp

@[simp] theorem kept_grantSlot (s : State) :
    s.grantSlot.kept = s.kept := by
  unfold State.grantSlot
  try dsimp only
  repeat' split
  all_goals try simp

@[simp] theorem kept_grantSlots (s : State) :
    s.grantSlots.kept = s.kept := by
  unfold State.grantSlots
  try dsimp only
  all_goals try simp

@[simp] theorem kept_settle (s : State) :
    s.settle.kept = s.kept := by
  unfold State.settle
  try dsimp only
  all_goals try simp

@[simp] theorem kept_linkLost (s : State) (i : BayIx) :
    (s.linkLost i).kept = s.kept := by
  unfold State.linkLost
  try dsimp only
  all_goals try simp

@[simp] theorem kept_relink (s : State) (i : BayIx) :
    (s.relink i).kept = s.kept := by
  unfold State.relink
  try dsimp only
  all_goals try simp

@[simp] theorem kept_heard (s : State) (i : BayIx) :
    (s.heard i).kept = s.kept := by
  unfold State.heard
  try dsimp only
  repeat' split
  all_goals try simp

@[simp] theorem kept_missed (s : State) (i : BayIx) :
    (s.missed i).kept = s.kept := by
  unfold State.missed
  try dsimp only
  repeat' split
  all_goals try simp

@[simp] theorem kept_takeOverdraw (s : State) (i : BayIx) (why : Reason) :
    (s.takeOverdraw i why).kept = s.kept := by
  unfold State.takeOverdraw
  try dsimp only
  all_goals try simp

@[simp] theorem kept_testOverdraw (s : State) (i : BayIx) :
    (s.testOverdraw i).kept = s.kept := by
  unfold State.testOverdraw
  try dsimp only
  repeat' split
  all_goals try simp

@[simp] theorem kept_testShort (s : State) (i : BayIx) :
    (s.testShort i).kept = s.kept := by
  unfold State.testShort
  try dsimp only
  repeat' split
  all_goals try simp

@[simp] theorem kept_takeHot (s : State) (i : BayIx) :
    (s.takeHot i).kept = s.kept := by
  unfold State.takeHot
  try dsimp only
  all_goals try simp

@[simp] theorem kept_testHot (s : State) (i : BayIx) :
    (s.testHot i).kept = s.kept := by
  unfold State.testHot
  try dsimp only
  repeat' split
  all_goals try simp

@[simp] theorem kept_storeCharge (s : State) (i : BayIx) (k : Block) :
    (s.storeCharge i k).kept = s.kept := by
  unfold State.storeCharge
  try dsimp only
  repeat' split
  all_goals try simp

@[simp] theorem kept_applyCharge (s : State) (i : BayIx) (k : Block) :
    (s.applyCharge i k).kept = s.kept := by
  unfold State.applyCharge
  try dsimp only
  repeat' split
  all_goals try simp

@[simp] theorem kept_custodyReport (s : State) (i : BayIx) (k : Block) :
    (s.custodyReport i k).kept = s.kept := by
  unfold State.custodyReport
  try dsimp only
  repeat' split
  all_goals try simp

@[simp] theorem kept_distribute (s : State) (i : BayIx) (k : Block) :
    (s.distribute i k).kept = s.kept := by
  unfold State.distribute
  try dsimp only
  all_goals try simp

@[simp] theorem kept_clearOutstanding (s : State) (i : BayIx) :
    (s.clearOutstanding i).kept = s.kept := by
  unfold State.clearOutstanding
  try dsimp only
  repeat' split
  all_goals try simp

@[simp] theorem kept_grantTold (s : State) (k : GrantKind) (i : BayIx) (e : Ending) :
    (s.grantTold k i e).kept = s.kept := by
  unfold State.grantTold
  try dsimp only
  repeat' split
  all_goals try simp

@[simp] theorem kept_endPulse (s : State) (k : PulseSlot) (p : Pulse) (ok : Bool) :
    (s.endPulse k p ok).kept = s.kept := by
  unfold State.endPulse
  try dsimp only
  all_goals try simp

@[simp] theorem kept_attemptFailed (s : State) (k : PulseSlot) (p : Pulse) :
    (s.attemptFailed k p).kept = s.kept := by
  unfold State.attemptFailed
  try dsimp only
  repeat' split
  all_goals try simp

@[simp] theorem kept_lockTold (s : State) (k : PulseSlot) (ms : Nat) (e : Ending) :
    (s.lockTold k ms e).kept = s.kept := by
  unfold State.lockTold
  try dsimp only
  repeat' split
  all_goals try simp

@[simp] theorem kept_verifyTold (s : State) (k : PulseSlot) (e : Ending) :
    (s.verifyTold k e).kept = s.kept := by
  unfold State.verifyTold
  try dsimp only
  repeat' split
  all_goals try simp

@[simp] theorem kept_readEnds (s : State) (i : BayIx) (recon : Bool) (id : Option AssetId) :
    (s.readEnds i recon id).kept = s.kept := by
  unfold State.readEnds
  try dsimp only
  repeat' split
  all_goals try simp

@[simp] theorem kept_tagTold (s : State) (i : BayIx) (recon : Bool) (e : Ending) :
    (s.tagTold i recon e).kept = s.kept := by
  unfold State.tagTold
  try dsimp only
  repeat' split
  all_goals try simp

@[simp] theorem kept_scanTold (s : State) :
    s.scanTold.kept = s.kept := by
  unfold State.scanTold
  try dsimp only
  repeat' split
  all_goals try simp

@[simp] theorem kept_reconTold (s : State) (i : BayIx) (e : Ending) :
    (s.reconTold i e).kept = s.kept := by
  unfold State.reconTold
  try dsimp only
  repeat' split
  all_goals try simp

@[simp] theorem kept_lampTold (s : State) (i : BayIx) (c : Colour) (e : Ending) :
    (s.lampTold i c e).kept = s.kept := by
  unfold State.lampTold
  try dsimp only
  repeat' split
  all_goals try simp

@[simp] theorem kept_told (s : State) (t : Txn) (stale : Bool) (e : Ending) :
    (s.told t stale e).kept = s.kept := by
  unfold State.told
  try dsimp only
  repeat' split
  all_goals try simp

@[simp] theorem kept_linkOf (s : State) (t : Txn) (e : Ending) :
    (s.linkOf t e).kept = s.kept := by
  unfold State.linkOf
  try dsimp only
  repeat' split
  all_goals try simp

@[simp] theorem kept_shareOut (s : State) (t : Txn) (e : Ending) :
    (s.shareOut t e).kept = s.kept := by
  unfold State.shareOut
  try dsimp only
  repeat' split
  all_goals try simp

@[simp] theorem kept_ended (s : State) (t : Txn) (stale : Bool) (e : Ending) :
    (s.ended t stale e).kept = s.kept := by
  unfold State.ended
  try dsimp only
  all_goals try simp

@[simp] theorem kept_idleLoop (s : State) :
    s.idleLoop.kept = s.kept := rfl

@[simp] theorem kept_answered (s : State) (o : OnLoop) (a : Answer) :
    (s.answered o a).kept = s.kept := by
  unfold State.answered
  try dsimp only
  all_goals try simp

@[simp] theorem kept_failedAttempt (s : State) (o : OnLoop) :
    (s.failedAttempt o).kept = s.kept := by
  unfold State.failedAttempt
  try dsimp only
  repeat' split
  all_goals try simp


end Sys2Proof.Machine
end

