-- ==== Sys2Proof/Laws/Ground.lean ====
section
/-! SUPPORT. What the work of custody, sessions, rounds, pulses and lamps leaves alone: the power state and the drain, the
pool in force, the course of reconciliation, the loop power, the rebuild and the scan, and what each bay's node last
said. One lemma for each operation. -/

namespace Sys2Proof.Machine

/-- The part of the state that only the Power Supervisor, the Loop Master, the Inlet Monitor and a node's report
change. -/
structure Ground where
  power : Power
  inForce : Nat
  reconActive : Bool
  reconCase : ReconCase
  reconCause : RebuildCause
  coldNext : Bool
  held : Bool
  loopPower : Bool
  offSince : Nat
  bayCount : Nat
  rebuild : Option Rebuild
  checkDue : Nat
  scan : Scan
  lastFrame : List Byte
  seen : BayIx → Seen

/-- The ground of a state. -/
def State.ground (s : State) : Ground where
  power := s.power
  inForce := s.pool.inForce
  reconActive := s.cust.reconActive
  reconCase := s.cust.reconCase
  reconCause := s.cust.reconCause
  coldNext := s.cust.coldNext
  held := s.arb.held
  loopPower := s.loop.power
  offSince := s.loop.offSince
  bayCount := s.loop.bayCount
  rebuild := s.loop.rebuild
  checkDue := s.loop.checkDue
  scan := s.loop.scan
  lastFrame := s.loop.lastFrame
  seen := fun i => (s.bay i).seen

/-- An update of the other parts keeps the ground. -/
@[simp] theorem ground_mk (s : State) (now : Nat) (resetHeld keyswitch : Bool) (inlet : Inlet) (pool : Pool)
    (round : Round) (cust : CustodyUnit) (arb : Arbiter) (sess : Sessions) (loop : Loop) (link : HostLink)
    (notices : Notices) (settings : Settings) (image : Option SettingsImage) (retained : Retained)
    (pending : List Instr)
    (inForce : pool.inForce = s.pool.inForce) (active : cust.reconActive = s.cust.reconActive)
    (case : cust.reconCase = s.cust.reconCase) (cause : cust.reconCause = s.cust.reconCause)
    (next : cust.coldNext = s.cust.coldNext) (held : arb.held = s.arb.held)
    (power : loop.power = s.loop.power) (off : loop.offSince = s.loop.offSince)
    (count : loop.bayCount = s.loop.bayCount) (rebuild : loop.rebuild = s.loop.rebuild)
    (check : loop.checkDue = s.loop.checkDue) (scan : loop.scan = s.loop.scan)
    (frame : loop.lastFrame = s.loop.lastFrame) :
    State.ground ⟨now, resetHeld, keyswitch, inlet, pool, s.power, round, s.bays, cust, arb, sess, loop,
      link, notices, settings, image, retained, pending⟩ = s.ground := by
  simp only [State.ground, State.bay, inForce, active, case, cause, next, held, power, off, count, rebuild,
    check, scan, frame]

/-- A fold of operations that keep the ground, keeps it. -/
@[simp] theorem ground_foldl {α : Type} (f : State → α → State) (l : List α) (s : State)
    (h : ∀ s a, (f s a).ground = s.ground) : (l.foldl f s).ground = s.ground := by
  induction l generalizing s with
  | nil => rfl
  | cons a l ih => rw [List.foldl_cons, ih, h]

/-- The fields of a bay seen by its node, one by one. -/
theorem seen_eq (b : Bay) :
    b.seen = ⟨b.link, b.serial, b.miss, b.lostAt, b.resync, b.soc, b.pneg, b.applied, b.measured, b.overTemp,
      b.short, b.overdraw, b.overdrawCount, b.hot, b.hotTime, b.chargeOn, b.presence, b.bolt, b.lampShown,
      b.recon⟩ := by
  cases b; rfl

@[simp] theorem halt_seen (b : Bay) (now : Nat) : (b.halt now).seen = b.seen := by
  simp only [Bay.halt, seen_eq]

@[simp] theorem shelve_seen (b : Bay) (now : Nat) : (b.shelve now).seen = b.seen := by
  unfold Bay.shelve; split <;> simp [seen_eq, Bay.halt]

/-- A bay changed in fields that its node does not report. -/
@[simp] theorem ground_modBay (s : State) (i : BayIx) (f : Bay → Bay)
    (h : (f (s.bay i)).seen = (s.bay i).seen) : (s.modBay i f).ground = s.ground := by
  have : (fun j => ((s.modBay i f).bay j).seen) = fun j => (s.bay j).seen := by
    funext j
    by_cases e : i = j
    · subst e; rw [bay_modBay_self]; exact h
    · rw [bay_modBay_ne s f (Ne.symm e)]
  show Ground.mk .. = Ground.mk ..
  simp only [modBay_power, modBay_pool, modBay_cust, modBay_arb, modBay_loop, this]

/-- Every bay changed in fields that its node does not report. -/
@[simp] theorem ground_modBays (s : State) (f : BayIx → Bay → Bay) (h : ∀ i b, (f i b).seen = b.seen) :
    (s.modBays f).ground = s.ground :=
  ground_foldl _ _ _ fun s i => ground_modBay s i (f i) (h i _)

@[simp] theorem ground_setSlot (s : State) (k : PulseSlot) (p : Option Pulse) :
    (s.setSlot k p).ground = s.ground := by cases k <;> rfl

@[simp] theorem ground_setChan (s : State) (c : ChanIx) (ch : Channel) :
    (s.setChan c ch).ground = s.ground := rfl

@[simp] theorem ground_modSession (s : State) (id : Nat) (f : Session → Session) :
    (s.modSession id f).ground = s.ground := rfl

@[simp] theorem ground_mapRoster (s : State) (f : Entry → Entry) : (s.mapRoster f).ground = s.ground := rfl

@[simp] theorem ground_lines (s : State) : s.lines.ground = s.ground := rfl

@[simp] theorem ground_raise (s : State) (k : NoticeKind) (bay : Option BayIx) (asset : Option AssetId)
    (session : Option Nat) (value : Option Nat) (reason : Option Reason) :
    (s.raise k bay asset session value reason).ground = s.ground := by
  unfold State.raise; dsimp only; split <;> rfl

@[simp] theorem append_master (l : Loop) (t : Txn) :
    (l.append t).power = l.power ∧ (l.append t).offSince = l.offSince ∧
      (l.append t).bayCount = l.bayCount ∧ (l.append t).rebuild = l.rebuild ∧
      (l.append t).checkDue = l.checkDue ∧ (l.append t).scan = l.scan ∧
      (l.append t).lastFrame = l.lastFrame ∧ (l.append t).onLoop = l.onLoop := by
  unfold Loop.append; split <;> [skip; split] <;> simp

@[simp] theorem put_master (l : Loop) (t : Txn) :
    (l.put t).power = l.power ∧ (l.put t).offSince = l.offSince ∧
      (l.put t).bayCount = l.bayCount ∧ (l.put t).rebuild = l.rebuild ∧
      (l.put t).checkDue = l.checkDue ∧ (l.put t).scan = l.scan ∧
      (l.put t).lastFrame = l.lastFrame ∧ (l.put t).onLoop = l.onLoop := by
  unfold Loop.put; split <;> simp

theorem reflow_go (h : List Txn) (l : Loop) :
    (h.foldl Loop.append l).power = l.power ∧ (h.foldl Loop.append l).offSince = l.offSince ∧
      (h.foldl Loop.append l).bayCount = l.bayCount ∧ (h.foldl Loop.append l).rebuild = l.rebuild ∧
      (h.foldl Loop.append l).checkDue = l.checkDue ∧ (h.foldl Loop.append l).scan = l.scan ∧
      (h.foldl Loop.append l).lastFrame = l.lastFrame ∧ (h.foldl Loop.append l).onLoop = l.onLoop := by
  induction h generalizing l with
  | nil => simp
  | cons t h ih => simp [ih]

@[simp] theorem drop_master (l : Loop) (p : Txn → Bool) :
    (l.drop p).power = l.power ∧ (l.drop p).offSince = l.offSince ∧
      (l.drop p).bayCount = l.bayCount ∧ (l.drop p).rebuild = l.rebuild ∧
      (l.drop p).checkDue = l.checkDue ∧ (l.drop p).scan = l.scan ∧
      (l.drop p).lastFrame = l.lastFrame ∧ (l.drop p).onLoop = l.onLoop := by
  unfold Loop.drop Loop.reflow; simp [reflow_go]

@[simp] theorem ground_place (s : State) (t : Txn) : (s.place t).ground = s.ground := by
  simp [State.place]

@[simp] theorem ground_withdraw (s : State) (p : Txn → Bool) : (s.withdraw p).ground = s.ground := by
  simp [State.withdraw]

/-- A bay's commanded grant changed, its applied grant left. -/
@[simp] theorem ground_setGrants (s : State) (i : BayIx) (a c : Nat) (h : a = (s.bay i).applied) :
    (s.setGrants i a c).ground = s.ground := by
  unfold State.setGrants
  split
  · rfl
  · subst h; exact ground_modBay s i (fun b => { b with applied := (s.bay i).applied, commanded := c }) rfl


@[simp] theorem ground_askBolt (s : State) (i : BayIx) (d : Dir) :
    (s.askBolt i d).ground = s.ground := by
  unfold State.askBolt
  try dsimp only
  repeat' split
  all_goals try simp

@[simp] theorem ground_dropBolt (s : State) (i : BayIx) :
    (s.dropBolt i).ground = s.ground := by
  unfold State.dropBolt
  try dsimp only
  repeat' split
  all_goals try simp

@[simp] theorem ground_markPending (s : State) :
    s.markPending.ground = s.ground := by
  unfold State.markPending
  try dsimp only
  all_goals try simp

@[simp] theorem ground_markAtOnce (s : State) :
    s.markAtOnce.ground = s.ground := by
  unfold State.markAtOnce
  try dsimp only
  all_goals try simp

@[simp] theorem ground_refreshShare (s : State) (i : BayIx) :
    (s.refreshShare i).ground = s.ground := by
  unfold State.refreshShare
  try dsimp only
  repeat' split
  all_goals try simp [seen_eq]

@[simp] theorem ground_refreshShares (s : State) :
    s.refreshShares.ground = s.ground := by
  unfold State.refreshShares
  try dsimp only
  all_goals try simp

@[simp] theorem ground_issueGrant (s : State) (k : GrantKind) (i : BayIx) (w : Nat) :
    (s.issueGrant k i w).ground = s.ground := by
  unfold State.issueGrant
  try dsimp only
  repeat' split
  all_goals try simp [seen_eq]

@[simp] theorem ground_withdrawGrant (s : State) (i : BayIx) :
    (s.withdrawGrant i).ground = s.ground := by
  unfold State.withdrawGrant
  try dsimp only
  repeat' split
  all_goals try simp [seen_eq]

@[simp] theorem ground_endRound (s : State) :
    s.endRound.ground = s.ground := by
  unfold State.endRound
  try dsimp only
  all_goals try simp

@[simp] theorem ground_leaveRaise (s : State) :
    s.leaveRaise.ground = s.ground := by
  unfold State.leaveRaise
  try dsimp only
  all_goals try simp

@[simp] theorem ground_raiseBay (s : State) (i : BayIx) :
    (s.raiseBay i).ground = s.ground := by
  unfold State.raiseBay
  try dsimp only
  repeat' split
  all_goals try simp

@[simp] theorem ground_beginRaising (s : State) :
    s.beginRaising.ground = s.ground := by
  unfold State.beginRaising
  try dsimp only
  all_goals try simp

@[simp] theorem ground_roundOn (s : State) :
    s.roundOn.ground = s.ground := by
  unfold State.roundOn
  try dsimp only
  repeat' split
  all_goals try simp

@[simp] theorem ground_takeTargets (s : State) :
    s.takeTargets.ground = s.ground := by
  unfold State.takeTargets
  try dsimp only
  all_goals try simp [seen_eq]

@[simp] theorem ground_lowerBay (s : State) (i : BayIx) :
    (s.lowerBay i).ground = s.ground := by
  unfold State.lowerBay
  try dsimp only
  all_goals try simp

@[simp] theorem ground_beginRound (s : State) :
    s.beginRound.ground = s.ground := by
  unfold State.beginRound
  try dsimp only
  repeat' split
  all_goals try simp

@[simp] theorem ground_grantEnded (s : State) (k : GrantKind) (i : BayIx) :
    (s.grantEnded k i).ground = s.ground := by
  unfold State.grantEnded
  try dsimp only
  repeat' split
  all_goals try simp

@[simp] theorem ground_cutGrant (s : State) (i : BayIx) :
    (s.cutGrant i).ground = s.ground := by
  unfold State.cutGrant
  try dsimp only
  repeat' split
  all_goals try simp

@[simp] theorem ground_cutRound (s : State) :
    s.cutRound.ground = s.ground := by
  unfold State.cutRound
  try dsimp only
  repeat' split
  all_goals try simp

@[simp] theorem ground_shedAll (s : State) :
    s.shedAll.ground = s.ground := by
  unfold State.shedAll
  try dsimp only
  repeat' split
  all_goals try simp [seen_eq]

@[simp] theorem ground_abandonRound (s : State) :
    s.abandonRound.ground = s.ground := by
  unfold State.abandonRound
  try dsimp only
  repeat' split
  all_goals try simp

@[simp] theorem ground_emergencyShed (s : State) :
    s.emergencyShed.ground = s.ground := by
  unfold State.emergencyShed
  try dsimp only
  all_goals try simp

@[simp] theorem ground_drainShed (s : State) :
    s.drainShed.ground = s.ground := by
  unfold State.drainShed
  try dsimp only
  all_goals try simp

@[simp] theorem ground_fallBelow (s : State) :
    s.fallBelow.ground = s.ground := by
  unfold State.fallBelow
  try dsimp only
  all_goals try simp

@[simp] theorem ground_judgeEligible (s : State) :
    s.judgeEligible.ground = s.ground := by
  unfold State.judgeEligible
  try dsimp only
  repeat' split
  all_goals try simp [seen_eq]

@[simp] theorem ground_faultGrant (s : State) (i : BayIx) :
    (s.faultGrant i).ground = s.ground := by
  unfold State.faultGrant
  try dsimp only
  repeat' split
  all_goals try simp

@[simp] theorem ground_dispatchTo (s : State) (c : ChanIx) (x : Session) :
    (s.dispatchTo c x).ground = s.ground := by
  unfold State.dispatchTo
  try dsimp only
  all_goals try simp

@[simp] theorem ground_dispatchChan (s : State) (c : ChanIx) :
    (s.dispatchChan c).ground = s.ground := by
  unfold State.dispatchChan
  try dsimp only
  repeat' split
  all_goals try simp

@[simp] theorem ground_dispatch (s : State) :
    s.dispatch.ground = s.ground := by
  unfold State.dispatch
  try dsimp only
  all_goals try simp

@[simp] theorem ground_leaveQueue (s : State) (x : Session) :
    (s.leaveQueue x).ground = s.ground := by
  unfold State.leaveQueue
  try dsimp only
  repeat' split
  all_goals try simp

@[simp] theorem ground_channelFreed (s : State) (x : Session) :
    (s.channelFreed x).ground = s.ground := by
  unfold State.channelFreed
  try dsimp only
  repeat' split
  all_goals try simp

@[simp] theorem ground_endSessionAs (s : State) (id : Nat) (o : SessOutcome) (asset : Option AssetId) :
    (s.endSessionAs id o asset).ground = s.ground := by
  unfold State.endSessionAs
  try dsimp only
  repeat' split
  all_goals try simp [seen_eq]

@[simp] theorem ground_endSession (s : State) (id : Nat) (o : SessOutcome) :
    (s.endSession id o).ground = s.ground := by
  unfold State.endSession
  try dsimp only
  repeat' split
  all_goals try simp

@[simp] theorem ground_tellRemoval (s : State) (i : BayIx) (asset : Option AssetId) :
    (s.tellRemoval i asset).ground = s.ground := by
  unfold State.tellRemoval
  try dsimp only
  repeat' split
  all_goals try simp

@[simp] theorem ground_sessionMeetsRelease (s : State) (i : BayIx) :
    (s.sessionMeetsRelease i).ground = s.ground := by
  unfold State.sessionMeetsRelease
  try dsimp only
  repeat' split
  all_goals try simp

@[simp] theorem ground_endSessionsIn (s : State) (p : SessState → Bool) (o : SessOutcome) :
    (s.endSessionsIn p o).ground = s.ground := by
  unfold State.endSessionsIn
  try dsimp only
  all_goals try simp

@[simp] theorem ground_admitSession (s : State) (i : BayIx) (k : SessClass) (minCharge idleLimit : Nat) :
    (s.admitSession i k minCharge idleLimit).ground = s.ground := by
  unfold State.admitSession
  try dsimp only
  all_goals try simp

@[simp] theorem ground_chanOf (s : State) (x : Session) (f : Channel → Channel) :
    (s.chanOf x f).ground = s.ground := by
  unfold State.chanOf
  try dsimp only
  repeat' split
  all_goals try simp

@[simp] theorem ground_linkUpSession (s : State) (x : Session) :
    (s.linkUpSession x).ground = s.ground := by
  unfold State.linkUpSession
  try dsimp only
  all_goals try simp

@[simp] theorem ground_progressSession (s : State) (x : Session) (v : Nat) :
    (s.progressSession x v).ground = s.ground := by
  unfold State.progressSession
  try dsimp only
  all_goals try simp

@[simp] theorem ground_finishActive (s : State) (x : Session) (ok : Bool) :
    (s.finishActive x ok).ground = s.ground := by
  unfold State.finishActive
  try dsimp only
  all_goals try simp

@[simp] theorem ground_configure (s : State) (c : ChanIx) (new : ChanCfg) :
    (s.configure c new).ground = s.ground := by
  unfold State.configure
  try dsimp only
  repeat' split
  all_goals try simp

@[simp] theorem ground_leaveReady (s : State) (i : BayIx) (why : Option Reason) :
    (s.leaveReady i why).ground = s.ground := by
  unfold State.leaveReady
  try dsimp only
  repeat' split
  all_goals try simp

@[simp] theorem ground_emptyReady (s : State) (why : Reason) :
    (s.emptyReady why).ground = s.ground := by
  unfold State.emptyReady
  try dsimp only
  repeat' split
  all_goals try simp

@[simp] theorem ground_sayReadyCleared (s : State) : s.sayReadyCleared.ground = s.ground := by
  unfold State.sayReadyCleared
  split <;> simp

@[simp] theorem ground_prepareReady (s : State) (n : Nat) :
    (s.prepareReady n).ground = s.ground := by
  unfold State.prepareReady
  try dsimp only
  all_goals try simp

@[simp] theorem ground_dockedOut (s : State) (i : BayIx) (holder : Option Badge) :
    (s.dockedOut i holder).ground = s.ground := by
  unfold State.dockedOut
  try dsimp only
  all_goals try simp

@[simp] theorem ground_dockedMissing (s : State) (i : BayIx) :
    (s.dockedMissing i).ground = s.ground := by
  unfold State.dockedMissing
  try dsimp only
  all_goals try simp

@[simp] theorem ground_dockEntry (s : State) (a : AssetId) (i : BayIx) :
    (s.dockEntry a i).ground = s.ground := by
  unfold State.dockEntry
  try dsimp only
  all_goals try simp

@[simp] theorem ground_setAsset (s : State) (i : BayIx) (a : Option AssetId) (st : Option Standing) :
    (s.setAsset i a st).ground = s.ground := by
  unfold State.setAsset
  try dsimp only
  all_goals try simp [seen_eq]

@[simp] theorem ground_dropTag (s : State) (i : BayIx) :
    (s.dropTag i).ground = s.ground := by
  unfold State.dropTag
  try dsimp only
  repeat' split
  all_goals try simp

@[simp] theorem ground_stopSeating (s : State) (i : BayIx) :
    (s.stopSeating i).ground = s.ground := by
  unfold State.stopSeating
  try dsimp only
  all_goals try simp [seen_eq]

@[simp] theorem ground_stopWindow (s : State) (i : BayIx) :
    (s.stopWindow i).ground = s.ground := ground_modBay _ _ _ (halt_seen _ _)

@[simp] theorem ground_become (s : State) (i : BayIx) (c : Custody) :
    (s.become i c).ground = s.ground := by
  unfold State.become
  try dsimp only
  repeat' split
  all_goals try simp [seen_eq]

@[simp] theorem ground_clearBay (s : State) (i : BayIx) :
    (s.clearBay i).ground = s.ground := by
  unfold State.clearBay
  try dsimp only
  all_goals try simp

@[simp] theorem ground_engageBay (s : State) (i : BayIx) :
    (s.engageBay i).ground = s.ground := by
  unfold State.engageBay
  split
  all_goals simp

@[simp] theorem ground_secureBay (s : State) (i : BayIx) :
    (s.secureBay i).ground = s.ground := by
  unfold State.secureBay
  try dsimp only
  all_goals try simp

@[simp] theorem ground_dropRelease (s : State) (i : BayIx) :
    (s.dropRelease i).ground = s.ground := by
  unfold State.dropRelease
  try dsimp only
  all_goals try simp [seen_eq]

@[simp] theorem ground_sayCancelled (s : State) (i : BayIx) (why : Reason) :
    (s.sayCancelled i why).ground = s.ground := by
  unfold State.sayCancelled
  try dsimp only
  all_goals try simp

@[simp] theorem ground_drainReleasing (s : State) (i : BayIx) (why : Reason) :
    (s.drainReleasing i why).ground = s.ground := by
  unfold State.drainReleasing
  try dsimp only
  repeat' split
  all_goals try simp

@[simp] theorem ground_drainReleased (s : State) (i : BayIx) (why : Reason) :
    (s.drainReleased i why).ground = s.ground := by
  unfold State.drainReleased
  try dsimp only
  repeat' split
  all_goals try simp [seen_eq]

@[simp] theorem ground_drainMind (s : State) (i : BayIx) :
    (s.drainMind i).ground = s.ground := by
  unfold State.drainMind
  try dsimp only
  repeat' split
  all_goals try simp

@[simp] theorem ground_openWindow (s : State) (i : BayIx) :
    (s.openWindow i).ground = s.ground := by
  unfold State.openWindow
  try dsimp only
  all_goals try simp [seen_eq]

@[simp] theorem ground_acceptRelease (s : State) (i : BayIx) (seconds : Nat) (holder : Option Badge) (origin : ReleaseOrigin) :
    (s.acceptRelease i seconds holder origin).ground = s.ground := by
  unfold State.acceptRelease
  try dsimp only
  repeat' split
  all_goals try simp [seen_eq]

@[simp] theorem ground_takeTablet (s : State) (i : BayIx) (holder : Option Badge) (why : Reason) (value : Nat) :
    (s.takeTablet i holder why value).ground = s.ground := by
  unfold State.takeTablet
  try dsimp only
  all_goals try simp

@[simp] theorem ground_windowEnds (s : State) (i : BayIx) :
    (s.windowEnds i).ground = s.ground := by
  unfold State.windowEnds
  try dsimp only
  all_goals try simp [seen_eq]

@[simp] theorem ground_sayTamper (s : State) (i : BayIx) (why : Reason) :
    (s.sayTamper i why).ground = s.ground := by
  unfold State.sayTamper
  try dsimp only
  all_goals try simp

@[simp] theorem ground_mendBolt (s : State) (i : BayIx) (bolt : Bolt) :
    (s.mendBolt i bolt).ground = s.ground := by
  unfold State.mendBolt
  try dsimp only
  repeat' split
  all_goals try simp

@[simp] theorem ground_judgeVacant (s : State) (i : BayIx) (presence : Bool) (bolt : Bolt) :
    (s.judgeVacant i presence bolt).ground = s.ground := by
  unfold State.judgeVacant
  try dsimp only
  repeat' split
  all_goals try simp

@[simp] theorem ground_judgeSeating (s : State) (i : BayIx) (presence : Bool) :
    (s.judgeSeating i presence).ground = s.ground := by
  unfold State.judgeSeating
  try dsimp only
  repeat' split
  all_goals try simp

@[simp] theorem ground_markGone (s : State) (i : BayIx) : (s.markGone i).ground = s.ground := by
  unfold State.markGone
  simp [seen_eq]

@[simp] theorem ground_judgeSecuring (s : State) (i : BayIx) :
    (s.judgeSecuring i).ground = s.ground := by
  unfold State.judgeSecuring
  try dsimp only
  repeat' split
  all_goals try simp

@[simp] theorem ground_judgeLocked (s : State) (i : BayIx) (presence : Bool) (bolt : Bolt) :
    (s.judgeLocked i presence bolt).ground = s.ground := by
  unfold State.judgeLocked
  try dsimp only
  repeat' split
  all_goals try simp

@[simp] theorem ground_judgeReleasing (s : State) (i : BayIx) :
    (s.judgeReleasing i).ground = s.ground := by
  unfold State.judgeReleasing
  try dsimp only
  all_goals try simp

@[simp] theorem ground_judgeReleased (s : State) (i : BayIx) (presence : Bool) (bolt : Bolt) :
    (s.judgeReleased i presence bolt).ground = s.ground := by
  unfold State.judgeReleased
  try dsimp only
  repeat' split
  all_goals try simp

@[simp] theorem ground_removeHeld (s : State) (i : BayIx) :
    (s.removeHeld i).ground = s.ground := by
  unfold State.removeHeld
  try dsimp only
  all_goals try simp

@[simp] theorem ground_loseJammed (s : State) (i : BayIx) :
    (s.loseJammed i).ground = s.ground := by
  unfold State.loseJammed
  try dsimp only
  repeat' split
  all_goals try simp

@[simp] theorem ground_judge (s : State) (i : BayIx) (presence : Bool) (bolt : Bolt) :
    (s.judge i presence bolt).ground = s.ground := by
  unfold State.judge
  try dsimp only
  repeat' split
  all_goals try simp

@[simp] theorem ground_buttonPress (s : State) (i : BayIx) (latch : Bool) :
    (s.buttonPress i latch).ground = s.ground := by
  unfold State.buttonPress
  try dsimp only
  repeat' split
  all_goals try simp [seen_eq]

@[simp] theorem ground_holdBay (s : State) (i : BayIx) (r : HeldReason) (a : Option AssetId) (st : Option Standing) :
    (s.holdBay i r a st).ground = s.ground := by
  unfold State.holdBay
  try dsimp only
  all_goals try simp

@[simp] theorem ground_dockBay (s : State) (i : BayIx) (a : AssetId) (e : Entry) (k : NoticeKind) (value : Option Nat) :
    (s.dockBay i a e k value).ground = s.ground := by
  unfold State.dockBay
  try dsimp only
  repeat' split
  all_goals try simp

@[simp] theorem ground_identified (s : State) (i : BayIx) (id : Option AssetId) :
    (s.identified i id).ground = s.ground := by
  unfold State.identified
  try dsimp only
  repeat' split
  all_goals try simp

@[simp] theorem ground_engageDone (s : State) (i : BayIx) :
    (s.engageDone i).ground = s.ground := by
  unfold State.engageDone
  try dsimp only
  repeat' split
  all_goals try simp

@[simp] theorem ground_retractDone (s : State) (i : BayIx) :
    (s.retractDone i).ground = s.ground := by
  unfold State.retractDone
  try dsimp only
  repeat' split
  all_goals try simp

@[simp] theorem ground_pulseReport (s : State) (i : BayIx) (d : Dir) (ok : Bool) :
    (s.pulseReport i d ok).ground = s.ground := by
  unfold State.pulseReport
  try dsimp only
  repeat' split
  all_goals try simp

@[simp] theorem ground_unjam (s : State) (i : BayIx) :
    (s.unjam i).ground = s.ground := by
  unfold State.unjam
  dsimp only
  repeat' split
  all_goals first
    | rw [ground_modBay _ _ _ (shelve_seen _ _)]; simp [seen_eq]
    | simp [seen_eq]

@[simp] theorem ground_compareLamp (s : State) (i : BayIx) :
    (s.compareLamp i).ground = s.ground := by
  unfold State.compareLamp
  try dsimp only
  repeat' split
  all_goals try simp

@[simp] theorem ground_deriveLamp (s : State) (i : BayIx) :
    (s.deriveLamp i).ground = s.ground := by
  unfold State.deriveLamp
  try dsimp only
  repeat' split
  all_goals try simp [seen_eq]

@[simp] theorem ground_deriveLamps (s : State) :
    s.deriveLamps.ground = s.ground := by
  unfold State.deriveLamps
  try dsimp only
  all_goals try simp

@[simp] theorem ground_startAttempt (s : State) (k : PulseSlot) (p : Pulse) :
    (s.startAttempt k p).ground = s.ground := by
  unfold State.startAttempt
  try dsimp only
  all_goals try simp

@[simp] theorem ground_grantSlot (s : State) :
    s.grantSlot.ground = s.ground := by
  unfold State.grantSlot
  try dsimp only
  repeat' split
  all_goals try simp

@[simp] theorem ground_grantSlots (s : State) :
    s.grantSlots.ground = s.ground := by
  unfold State.grantSlots
  try dsimp only
  all_goals try simp

@[simp] theorem ground_clearOutstanding (s : State) (i : BayIx) :
    (s.clearOutstanding i).ground = s.ground := by
  unfold State.clearOutstanding
  try dsimp only
  repeat' split
  all_goals try simp [seen_eq]

@[simp] theorem ground_endPulse (s : State) (k : PulseSlot) (p : Pulse) (ok : Bool) :
    (s.endPulse k p ok).ground = s.ground := by
  unfold State.endPulse
  try dsimp only
  all_goals try simp

@[simp] theorem ground_attemptFailed (s : State) (k : PulseSlot) (p : Pulse) :
    (s.attemptFailed k p).ground = s.ground := by
  unfold State.attemptFailed
  try dsimp only
  repeat' split
  all_goals try simp

@[simp] theorem ground_lockTold (s : State) (k : PulseSlot) (ms : Nat) (e : Ending) :
    (s.lockTold k ms e).ground = s.ground := by
  unfold State.lockTold
  try dsimp only
  repeat' split
  all_goals try simp

@[simp] theorem ground_verifyTold (s : State) (k : PulseSlot) (e : Ending) :
    (s.verifyTold k e).ground = s.ground := by
  unfold State.verifyTold
  try dsimp only
  repeat' split
  all_goals try simp


end Sys2Proof.Machine
end

