-- ==== Sys2Proof/Laws/Still.lean ====
section
/-! SUPPORT. What the end of an event leaves alone where no reconciliation and no drain is in progress: it grants slots,
moves the round on, judges eligibility and lamps, and sets the output lines; all else stands. -/

namespace Sys2Proof.Machine

/-- A bay without the fields that the end of an event may change. -/
def Bay.core (b : Bay) : Bay :=
  { b with commanded := 0, outstanding := none, eligible := false, lampDerived := .off }

/-- The part of the state, beside what every event keeps, that the end of a calm event leaves alone. -/
structure Still where
  power : Power
  pool : Pool
  cust : CustodyUnit
  sess : Sessions
  queue : List Notice
  overflow : Bool
  held : Bool
  loopPower : Bool
  offSince : Nat
  bayCount : Nat
  rebuild : Option Rebuild
  checkDue : Nat
  scan : Scan
  lastFrame : List Byte
  onLoop : Option OnLoop
  core : BayIx → Bay

/-- What the end of a calm event leaves alone. -/
def State.still (s : State) : Still where
  power := s.power
  pool := s.pool
  cust := s.cust
  sess := s.sess
  queue := s.notices.queue
  overflow := s.notices.overflow
  held := s.arb.held
  loopPower := s.loop.power
  offSince := s.loop.offSince
  bayCount := s.loop.bayCount
  rebuild := s.loop.rebuild
  checkDue := s.loop.checkDue
  scan := s.loop.scan
  lastFrame := s.loop.lastFrame
  onLoop := s.loop.onLoop
  core := fun i => (s.bay i).core

/-- An update of the other parts leaves all this alone. -/
@[simp] theorem still_mk (s : State) (now : Nat) (resetHeld keyswitch : Bool) (inlet : Inlet)
    (round : Round) (arb : Arbiter) (loop : Loop) (link : HostLink)
    (notices : Notices) (settings : Settings) (image : Option SettingsImage) (retained : Retained)
    (pending : List Instr)
    (queue : notices.queue = s.notices.queue) (overflow : notices.overflow = s.notices.overflow)
    (held : arb.held = s.arb.held)
    (power : loop.power = s.loop.power) (off : loop.offSince = s.loop.offSince)
    (count : loop.bayCount = s.loop.bayCount) (rebuild : loop.rebuild = s.loop.rebuild)
    (check : loop.checkDue = s.loop.checkDue) (scan : loop.scan = s.loop.scan)
    (frame : loop.lastFrame = s.loop.lastFrame) (onLoop : loop.onLoop = s.loop.onLoop) :
    State.still ⟨now, resetHeld, keyswitch, inlet, s.pool, s.power, round, s.bays, s.cust, arb, s.sess, loop,
      link, notices, settings, image, retained, pending⟩ = s.still := by
  simp only [State.still, State.bay, queue, overflow, held, power, off, count, rebuild, check, scan, frame,
    onLoop]

/-- A fold of operations that leave it alone does. -/
@[simp] theorem still_foldl {α : Type} (f : State → α → State) (l : List α) (s : State)
    (h : ∀ s a, (f s a).still = s.still) : (l.foldl f s).still = s.still := by
  induction l generalizing s with
  | nil => rfl
  | cons a l ih => rw [List.foldl_cons, ih, h]

/-- The fields of a bay but for those that the end of an event may change, one by one. -/
theorem core_eq (b : Bay) :
    b.core = ⟨b.link, b.serial, b.miss, b.lostAt, b.resync, b.soc, b.pneg, b.applied, 0, b.measured,
      b.overTemp, b.short, b.share, b.kept, b.overdraw, b.overdrawCount, b.hot, b.hotTime, b.chargeOn, none,
      false, b.custody, b.admission, b.assetId, b.standing, b.presence, b.bolt, b.gone, b.seatDue, b.tagTries,
      b.tagRetryDue, b.release, b.lampShown, .off, b.displayDue, b.recon, b.lastOutcome⟩ := by
  cases b; rfl

/-- A bay changed in those fields alone. -/
@[simp] theorem still_modBay (s : State) (i : BayIx) (f : Bay → Bay)
    (h : (f (s.bay i)).core = (s.bay i).core) : (s.modBay i f).still = s.still := by
  have : (fun j => ((s.modBay i f).bay j).core) = fun j => (s.bay j).core := by
    funext j
    by_cases e : i = j
    · subst e; rw [bay_modBay_self]; exact h
    · rw [bay_modBay_ne s f (Ne.symm e)]
  show Still.mk .. = Still.mk ..
  simp only [modBay_power, modBay_pool, modBay_cust, modBay_sess, modBay_notices, modBay_arb, modBay_loop,
    this]

/-- Every bay changed in those fields alone. -/
@[simp] theorem still_modBays (s : State) (f : BayIx → Bay → Bay) (h : ∀ i b, (f i b).core = b.core) :
    (s.modBays f).still = s.still :=
  still_foldl _ _ _ fun s i => still_modBay s i (f i) (h i _)

@[simp] theorem still_setSlot (s : State) (k : PulseSlot) (p : Option Pulse) :
    (s.setSlot k p).still = s.still := by cases k <;> rfl

@[simp] theorem still_lines (s : State) : s.lines.still = s.still := rfl

/-- A bay's commanded grant changed, its applied grant left. -/
@[simp] theorem still_setGrants (s : State) (i : BayIx) (a c : Nat) (h : a = (s.bay i).applied) :
    (s.setGrants i a c).still = s.still := by
  unfold State.setGrants
  split
  · rfl
  · subst h
    exact still_modBay s i (fun b => { b with applied := (s.bay i).applied, commanded := c }) rfl


@[simp] theorem still_place (s : State) (t : Txn) :
    (s.place t).still = s.still := by
  unfold State.place
  try dsimp only
  all_goals try simp

@[simp] theorem still_withdraw (s : State) (p : Txn → Bool) :
    (s.withdraw p).still = s.still := by
  unfold State.withdraw
  try dsimp only
  all_goals try simp

@[simp] theorem still_askBolt (s : State) (i : BayIx) (d : Dir) :
    (s.askBolt i d).still = s.still := by
  unfold State.askBolt
  try dsimp only
  repeat' split
  all_goals try simp

@[simp] theorem still_dropBolt (s : State) (i : BayIx) :
    (s.dropBolt i).still = s.still := by
  unfold State.dropBolt
  try dsimp only
  repeat' split
  all_goals try simp

@[simp] theorem still_markPending (s : State) :
    s.markPending.still = s.still := by
  unfold State.markPending
  try dsimp only
  all_goals try simp

@[simp] theorem still_markAtOnce (s : State) :
    s.markAtOnce.still = s.still := by
  unfold State.markAtOnce
  try dsimp only
  all_goals try simp

@[simp] theorem still_issueGrant (s : State) (k : GrantKind) (i : BayIx) (w : Nat) :
    (s.issueGrant k i w).still = s.still := by
  unfold State.issueGrant
  try dsimp only
  repeat' split
  all_goals try simp [core_eq]

@[simp] theorem still_endRound (s : State) :
    s.endRound.still = s.still := by
  unfold State.endRound
  try dsimp only
  all_goals try simp

@[simp] theorem still_leaveRaise (s : State) :
    s.leaveRaise.still = s.still := by
  unfold State.leaveRaise
  try dsimp only
  all_goals try simp

@[simp] theorem still_raiseBay (s : State) (i : BayIx) :
    (s.raiseBay i).still = s.still := by
  unfold State.raiseBay
  try dsimp only
  repeat' split
  all_goals try simp

@[simp] theorem still_beginRaising (s : State) :
    s.beginRaising.still = s.still := by
  unfold State.beginRaising
  try dsimp only
  all_goals try simp

@[simp] theorem still_roundOn (s : State) :
    s.roundOn.still = s.still := by
  unfold State.roundOn
  try dsimp only
  repeat' split
  all_goals try simp

@[simp] theorem still_judgeEligible (s : State) :
    s.judgeEligible.still = s.still := by
  unfold State.judgeEligible
  try dsimp only
  repeat' split
  all_goals try simp [core_eq]

@[simp] theorem still_compareLamp (s : State) (i : BayIx) :
    (s.compareLamp i).still = s.still := by
  unfold State.compareLamp
  try dsimp only
  repeat' split
  all_goals try simp

@[simp] theorem still_deriveLamp (s : State) (i : BayIx) :
    (s.deriveLamp i).still = s.still := by
  unfold State.deriveLamp
  try dsimp only
  repeat' split
  all_goals try simp [core_eq]

@[simp] theorem still_deriveLamps (s : State) :
    s.deriveLamps.still = s.still := by
  unfold State.deriveLamps
  try dsimp only
  all_goals try simp

@[simp] theorem still_startAttempt (s : State) (k : PulseSlot) (p : Pulse) :
    (s.startAttempt k p).still = s.still := by
  unfold State.startAttempt
  try dsimp only
  all_goals try simp

@[simp] theorem still_grantSlot (s : State) :
    s.grantSlot.still = s.still := by
  unfold State.grantSlot
  try dsimp only
  repeat' split
  all_goals try simp

@[simp] theorem still_grantSlots (s : State) :
    s.grantSlots.still = s.still := by
  unfold State.grantSlots
  try dsimp only
  all_goals try simp

/-- The end of a calm event: what it leaves alone. -/
theorem still_settle (s : State) (h : s.Calm) : s.settle.still = s.still := by
  have recon : s.reconCheck = s := by simp [State.reconCheck, h.1]
  have drain : (s.grantSlots).drainCheck = s.grantSlots := by
    have : s.grantSlots.power = s.power := congrArg Still.power (still_grantSlots s)
    simp [State.drainCheck, this, h.2]
  simp [State.settle, recon, drain]

/-- Calm is a matter of what stays. -/
theorem calm_of_ground {s t : State} (h : t.ground = s.ground) (c : s.Calm) : t.Calm := by
  have p : t.power = s.power := congrArg Ground.power h
  have a : t.cust.reconActive = s.cust.reconActive := congrArg Ground.reconActive h
  exact ⟨a.trans c.1, by rw [p]; exact c.2⟩

end Sys2Proof.Machine
end

