-- ==== Sys2Proof/Laws/Sound.lean ====
section
/-! SUPPORT. How the Notice Queue, the Bolt Pulse Arbiter and the sessions with their channels stay sound under each
thing that is ever done to them: a record placed, an entry or a slot filled or freed, a session moved on. -/

namespace Sys2Proof.Machine

/-! ### Notices -/

/-- What raising notices does to the Notice Queue: levels and Fetch hold stay, soundness is kept, no level-7 record is
removed, and the overflow flag is not cleared (R182, R184, R185). -/
structure Raised (n m : Notices) : Prop where
  levels : m.levels = n.levels
  hold : m.fetchHold = n.fetchHold
  sound : n.Sound → m.Sound
  top : n.Sound → ∀ r ∈ n.queue, r.level = 7 → r ∈ m.queue
  flag : n.overflow = true → m.overflow = true

theorem Raised.refl (n : Notices) : Raised n n := ⟨rfl, rfl, id, fun _ _ h _ => h, id⟩

theorem Raised.trans {a b c : Notices} (h : Raised a b) (k : Raised b c) : Raised a c :=
  ⟨k.levels.trans h.levels, k.hold.trans h.hold, fun s => k.sound (h.sound s),
    fun s r m l => k.top (h.sound s) r (h.top s r m l) l, fun f => k.flag (h.flag f)⟩

/-- The lowest level is attained, or no record is below 7; and no record is below it. -/
theorem lowestLevel_spec (q : List Notice) :
    (lowestLevel q = 7 ∨ ∃ r ∈ q, r.level = lowestLevel q) ∧ ∀ r ∈ q, lowestLevel q ≤ r.level := by
  have key : ∀ (q : List Notice) (m : Nat),
      (q.foldl (fun m r => min m r.level) m = m ∨
        ∃ r ∈ q, r.level = q.foldl (fun m r => min m r.level) m) ∧
      q.foldl (fun m r => min m r.level) m ≤ m ∧
      ∀ r ∈ q, q.foldl (fun m r => min m r.level) m ≤ r.level := by
    intro q
    induction q with
    | nil => intro m; simp
    | cons a q ih =>
      intro m
      obtain ⟨h0, h1, h2⟩ := ih (min m a.level)
      simp only [List.foldl_cons]
      refine ⟨?_, by omega, ?_⟩
      · rcases h0 with h0 | ⟨r, hr, e⟩
        · rcases Nat.le_total m a.level with le | le
          · left; omega
          · right; exact ⟨a, List.mem_cons_self, by omega⟩
        · right; exact ⟨r, List.mem_cons_of_mem _ hr, e⟩
      · intro r hr
        rcases List.mem_cons.1 hr with rfl | hr
        · omega
        · exact h2 r hr
  exact ⟨(key q 7).1, (key q 7).2.2⟩

/-- A record of a level from 1 to 7 placed keeps the queue sound (R184). -/
theorem put_sound (n : Notices) (r : Notice) (h : n.Sound) (lo : 1 ≤ r.level) (hi : r.level ≤ 7) :
    (n.put r).Sound := by
  have lv : (n.put r).levels = n.levels := put_levels n r
  refine ⟨?_, by rw [lv]; exact h.levels, by rw [lv]; exact h.fixed, ?_⟩
  · unfold Notices.put
    split
    · simp; omega
    · split
      · rename_i h1 h2
        obtain ⟨x, hx, e⟩ := (lowestLevel_spec n.queue).1.resolve_left (by omega)
        have := List.length_eraseP_of_mem (p := fun x => decide (x.level = lowestLevel n.queue)) hx
          (by simp [e])
        have := h.room
        simp only [List.length_append, List.length_singleton]
        omega
      · exact h.room
  · unfold Notices.put
    split
    · intro x hx
      rcases List.mem_append.1 hx with hx | hx
      · exact h.ranked x hx
      · rw [List.mem_singleton.1 hx]; exact ⟨lo, hi⟩
    · split
      · intro x hx
        rcases List.mem_append.1 hx with hx | hx
        · exact h.ranked x (List.mem_of_mem_eraseP hx)
        · rw [List.mem_singleton.1 hx]; exact ⟨lo, hi⟩
      · exact h.ranked

/-- A level-7 record stays where another of a level up to 7 is placed (R184). -/
theorem put_top (n : Notices) (r : Notice) (hi : r.level ≤ 7) (x : Notice) (hx : x ∈ n.queue)
    (top : x.level = 7) : x ∈ (n.put r).queue := by
  unfold Notices.put
  split
  · exact List.mem_append_left _ hx
  · split
    · rename_i h1 h2
      refine List.mem_append_left _ ((List.mem_eraseP_of_neg ?_).2 hx)
      simp; omega
    · exact hx

/-- A notice raised (R182, R184). -/
theorem raised_raise (s : State) (k : NoticeKind) (bay : Option BayIx) (asset : Option AssetId)
    (session : Option Nat) (value : Option Nat) (reason : Option Reason) :
    Raised s.notices (s.raise k bay asset session value reason).notices := by
  unfold State.raise
  dsimp only
  split
  · exact Raised.refl _
  · rename_i h
    refine ⟨put_levels _ _, put_fetchHold _ _, fun g => ?_, fun g x hx t => ?_, fun f => ?_⟩
    · exact put_sound _ _ g (Nat.pos_of_ne_zero h) (g.levels k)
    · exact put_top _ _ (g.levels k) x hx t
    · unfold Notices.put; split <;> [exact f; (split <;> rfl)]

/-- The attention line judged (R187). -/
theorem raised_lines (s : State) : Raised s.notices s.lines.notices :=
  ⟨rfl, rfl, fun g => ⟨g.room, g.levels, g.fixed, g.ranked⟩, fun _ _ h _ => h, id⟩

/-! ### The arbiter -/

/-- The bays of the actuation queue. -/
def Arbiter.queued (a : Arbiter) : List BayIx := a.queue.map (·.1)

theorem Arbiter.Sound.filter {a : Arbiter} (h : a.Sound) (p : BayIx × Dir → Bool) :
    Arbiter.Sound { a with queue := a.queue.filter p } := by
  have sub : ((a.queue.filter p).map (·.1)).Sublist (a.queue.map (·.1)) :=
    List.filter_sublist.map _
  exact ⟨h.once.sublist sub, fun q e m => h.apartA q e (sub.subset m),
    fun q e m => h.apartB q e (sub.subset m), h.apart⟩

/-- What a slot holds, by the arbiter alone. -/
def Arbiter.slot (a : Arbiter) : PulseSlot → Option Pulse
  | .a => a.slotA
  | .b => a.slotB

/-- The other slot. -/
def otherSlot : PulseSlot → PulseSlot
  | .a => .b
  | .b => .a

/-- A pulse for a bay may stand in a slot: no entry of the queue and not the other slot is for the bay. -/
def Arbiter.Fits (a : Arbiter) (k : PulseSlot) (i : BayIx) : Prop :=
  i ∉ a.queue.map (·.1) ∧ ∀ q, a.slot (otherSlot k) = some q → i ≠ q.bay

theorem Arbiter.Sound.fits {a : Arbiter} (h : a.Sound) {k : PulseSlot} {p : Pulse} (e : a.slot k = some p) :
    a.Fits k p.bay := by
  cases k with
  | a => exact ⟨h.apartA p e, fun q eq => h.apart p q e eq⟩
  | b => exact ⟨h.apartB p e, fun q eq => (h.apart q p eq e).symm⟩

theorem sound_setSlot (s : State) (k : PulseSlot) (p : Pulse) (h : s.arb.Sound) (f : s.arb.Fits k p.bay) :
    (s.setSlot k (some p)).arb.Sound := by
  cases k with
  | a =>
    refine ⟨h.once, fun q e => ?_, h.apartB, fun q r e er => ?_⟩
    · cases e; exact f.1
    · cases e; exact f.2 r er
  | b =>
    refine ⟨h.once, h.apartA, fun q e => ?_, fun q r e er => ?_⟩
    · cases e; exact f.1
    · cases er; exact (f.2 q e).symm

theorem sound_freeSlot (s : State) (k : PulseSlot) (h : s.arb.Sound) : (s.setSlot k none).arb.Sound := by
  cases k with
  | a => exact ⟨h.once, fun _ e => (nomatch e), h.apartB, fun _ _ e => (nomatch e)⟩
  | b => exact ⟨h.once, h.apartA, fun _ e => (nomatch e), fun _ _ _ e => (nomatch e)⟩

theorem queuePlace_none {i : BayIx} {n : Nat} {l : List (BayIx × Dir)} (h : queuePlace i n l = none) :
    i ∉ l.map (·.1) := by
  induction l generalizing n with
  | nil => simp
  | cons e l ih =>
    obtain ⟨b, d⟩ := e
    unfold queuePlace at h
    split at h
    · cases h
    · rename_i ne
      simp only [List.map_cons, List.mem_cons, not_or]
      exact ⟨fun c => ne c.symm, ih h⟩

/-- Where a bay's pulse stands nowhere, no entry and no slot is for the bay (R97). -/
theorem standing_none {s : State} {i : BayIx} (h : s.standing i = .none) :
    i ∉ s.arb.queue.map (·.1) ∧ (∀ p, s.arb.slotA = some p → p.bay ≠ i) ∧
      ∀ p, s.arb.slotB = some p → p.bay ≠ i := by
  unfold State.standing at h
  split at h
  · cases h
  · cases h
  · rename_i ha hb
    split at h
    · cases h
    · rename_i hq
      refine ⟨queuePlace_none hq, fun p e c => ?_, fun p e c => ?_⟩
      · rw [holds, e, Option.filter_some, if_pos (by simpa using c)] at ha; cases ha
      · rw [holds, e, Option.filter_some, if_pos (by simpa using c)] at hb; cases hb

/-- A bolt movement asked for (R98). -/
theorem sound_askBolt (s : State) (i : BayIx) (d : Dir) (h : s.arb.Sound) : (s.askBolt i d).arb.Sound := by
  unfold State.askBolt
  split
  · rename_i e
    obtain ⟨q, a, b⟩ := standing_none e
    refine ⟨?_, fun p ep => ?_, fun p ep => ?_, h.apart⟩
    · rw [List.map_append, List.nodup_append]
      refine ⟨h.once, List.nodup_singleton _, fun x hx y hy => ?_⟩
      intro c
      rw [List.mem_singleton.1 hy] at c
      subst c
      exact q hx
    · rw [List.map_append, List.mem_append, not_or]
      exact ⟨h.apartA p ep, fun m => a p ep (List.mem_singleton.1 m)⟩
    · rw [List.map_append, List.mem_append, not_or]
      exact ⟨h.apartB p ep, fun m => b p ep (List.mem_singleton.1 m)⟩
  · split
    · exact h
    · exact h.filter _
  · exact h

/-- A queued entry withdrawn (R99). -/
theorem sound_dropBolt (s : State) (i : BayIx) (h : s.arb.Sound) : (s.dropBolt i).arb.Sound := by
  unfold State.dropBolt
  split
  · exact h.filter _
  · exact h
  · exact h

/-! ### Sessions and channels -/

/-- Two sessions of one identifier are one (R116). -/
theorem Sessions.Sound.same {x : Sessions} (h : x.Sound) {y z : Session} (hy : y ∈ x.queue)
    (hz : z ∈ x.queue) (e : y.id = z.id) : y = z :=
  List.inj_on_of_nodup_map h.ids hy hz e

/-- A session's channel holds it (R115). -/
theorem Sessions.Sound.holder {x : Sessions} (h : x.Sound) {y : Session} (hy : y ∈ x.queue) {c : ChanIx}
    (e : y.channel = some c) : x.channels[c.1].session = some y.id := by
  have := h.holds y hy
  simpa only [Sessions.HoldSound, e] using this

/-- What the channel of a session that has one looks like (R111, R114). -/
theorem Sessions.Sound.chan {x : Sessions} (h : x.Sound) {y : Session} (hy : y ∈ x.queue) {c : ChanIx}
    (e : y.channel = some c) :
    y.state ≠ .queued ∧ x.channels[c.1].state = chanStateOf y.state ∧
      x.channels[c.1].join = joinOf y ∧ x.channels[c.1].cfg.base ≤ y.bay.1 ∧
      y.bay.1 < x.channels[c.1].cfg.base + x.channels[c.1].cfg.size := by
  have hs := h.holder hy e
  have := h.chans c
  simp only [Sessions.ChanSound, hs] at this
  obtain ⟨z, hz, id, -, rest⟩ := this
  obtain rfl := h.same hz hy id
  exact rest

/-- A session is Queued where it has no channel (R115). -/
theorem Sessions.Sound.queued {x : Sessions} (h : x.Sound) {y : Session} (hy : y ∈ x.queue)
    (e : y.channel = none) : y.state = .queued := by
  have := h.holds y hy
  simpa only [Sessions.HoldSound, e] using this

/-- A Free or Off channel holds no session (R111). -/
theorem Sessions.Sound.vacant {x : Sessions} (h : x.Sound) {c : ChanIx}
    (e : x.channels[c.1].state = .free ∨ x.channels[c.1].state = .off) :
    x.channels[c.1].session = none := by
  have := h.chans c
  unfold Sessions.ChanSound at this
  split at this
  · assumption
  · obtain ⟨y, -, -, -, q, st, -⟩ := this
    rw [st] at e
    revert q e
    cases y.state <;> simp [chanStateOf]

/-- The channels after one is replaced. -/
theorem chan_set (v : Vector Channel 4) (c d : ChanIx) (ch : Channel) :
    (v.set c.1 ch c.2)[d.1] = if d = c then ch else v[d.1] := by
  split
  · rename_i e; subst e; simp
  · rename_i e
    exact Vector.getElem_set_ne _ _ fun k => e (Fin.ext k.symm)

/-- The end of a session in the queue and in the channel table (R126 steps 2 and 3). -/
theorem Sessions.Sound.remove {x : Sessions} (h : x.Sound) {y : Session} (hy : y ∈ x.queue)
    (v : Vector Channel 4)
    (hv : match y.channel with
      | some c => v = x.channels.set c.1 x.channels[c.1].release c.2
      | none => v = x.channels) :
    Sessions.Sound { x with queue := x.queue.filter (fun z => z.id ≠ y.id), channels := v } := by
  have sub : (x.queue.filter fun z => z.id ≠ y.id).Sublist x.queue := List.filter_sublist
  have keep : ∀ z ∈ x.queue, z.id ≠ y.id → z ∈ x.queue.filter fun z => z.id ≠ y.id :=
    fun z hz ne => List.mem_filter.2 ⟨hz, by simpa using ne⟩
  refine ⟨sub.length_le.trans h.room, h.ids.sublist (sub.map _), h.bays.sublist (sub.map _),
    fun z hz => h.range z (sub.subset hz), h.next, fun d => ?_, fun z hz => ?_⟩
  · have hd : v[d.1] = if y.channel = some d then x.channels[d.1].release else x.channels[d.1] := by
      split at hv
      · rename_i c e
        rw [hv, chan_set, e]
        by_cases k : d = c
        · subst k; simp
        · rw [if_neg k, if_neg fun q => k (Option.some.inj q).symm]
      · rename_i e
        rw [hv, e]; simp
    simp only [Sessions.ChanSound, hd]
    by_cases k : y.channel = some d
    · simp only [if_pos k, Channel.release]
      rfl
    · simp only [if_neg k]
      have := h.chans d
      unfold Sessions.ChanSound at this
      split at this
      · rename_i e; simp only [e]; exact this
      · rename_i id e
        simp only [e]
        obtain ⟨z, hz, zi, zc, rest⟩ := this
        refine ⟨z, keep z hz fun q => k ?_, zi, zc, rest⟩
        rw [← h.same hz hy q]; exact zc
  · obtain ⟨hz, ne⟩ := List.mem_filter.1 hz
    have ne : z.id ≠ y.id := by simpa using ne
    unfold Sessions.HoldSound
    cases e : z.channel with
    | none => exact h.queued hz e
    | some c =>
      dsimp only
      split at hv
      · rename_i d ed
        rw [hv, chan_set]
        have := h.holder hz e
        by_cases k : c = d
        · subst k
          have := h.holder hy ed
          rw [h.holder hz e] at this
          exact absurd (Option.some.inj this) ne
        · rw [if_neg k]; exact this
      · rw [hv]; exact h.holder hz e

/-- A session and its channel moved on: the session keeps its identifier and its bay, and the channel its
configuration (R120, R122 to R124). -/
theorem Sessions.Sound.move {x : Sessions} (h : x.Sound) {y y' : Session} (hy : y ∈ x.queue) (c : ChanIx)
    (f : Session → Session) (hf : f y = y') (id : y'.id = y.id) (bay : y'.bay = y.bay)
    (chan : y'.channel = some c) (st : y'.state ≠ .queued)
    (from_ : y.channel = some c ∨ x.channels[c.1].session = none)
    (ch : Channel) (cs : ch.session = some y.id) (ct : ch.state = chanStateOf y'.state)
    (cj : ch.join = joinOf y') (cb : ch.cfg.base ≤ y.bay.1)
    (cz : y.bay.1 < ch.cfg.base + ch.cfg.size) (alone : y.channel = some c ∨ y.channel = none) :
    Sessions.Sound
      { x with
        queue := x.queue.map fun z => if z.id = y.id then f z else z
        channels := x.channels.set c.1 ch c.2 } := by
  have at_ : ∀ z ∈ x.queue, (if z.id = y.id then f z else z) = if z = y then y' else z := by
    intro z hz
    by_cases e : z.id = y.id
    · obtain rfl := h.same hz hy e
      simp [hf]
    · rw [if_neg e, if_neg fun k => e (by rw [k])]
  have q : (x.queue.map fun z => if z.id = y.id then f z else z) =
      x.queue.map fun z => if z = y then y' else z := List.map_congr_left at_
  have ids : ((x.queue.map fun z => if z = y then y' else z).map (·.id)) = x.queue.map (·.id) := by
    rw [List.map_map]
    refine List.map_congr_left fun z _ => ?_
    simp only [Function.comp]
    split
    · rename_i e; subst e; exact id
    · rfl
  have bays : ((x.queue.map fun z => if z = y then y' else z).map (·.bay)) = x.queue.map (·.bay) := by
    rw [List.map_map]
    refine List.map_congr_left fun z _ => ?_
    simp only [Function.comp]
    split
    · rename_i e; subst e; exact bay
    · rfl
  have mem : ∀ z, z ∈ (x.queue.map fun z => if z = y then y' else z) ↔
      z = y' ∨ z ∈ x.queue ∧ z ≠ y := by
    intro z
    rw [List.mem_map]
    constructor
    · rintro ⟨w, hw, rfl⟩
      by_cases e : w = y
      · left; rw [if_pos e]
      · right; rw [if_neg e]; exact ⟨hw, e⟩
    · rintro (rfl | ⟨hz, ne⟩)
      · exact ⟨y, hy, if_pos rfl⟩
      · exact ⟨z, hz, if_neg ne⟩
  rw [q]
  refine ⟨by simpa using h.room, by rw [ids]; exact h.ids, by rw [bays]; exact h.bays, fun z hz => ?_,
    h.next, fun d => ?_, fun z hz => ?_⟩
  · rcases (mem z).1 hz with rfl | ⟨hz, -⟩
    · rw [id]; exact h.range y hy
    · exact h.range z hz
  · simp only [Sessions.ChanSound, chan_set]
    by_cases k : d = c
    · subst k
      simp only [if_true, cs]
      exact ⟨y', (mem y').2 (Or.inl rfl), id, chan, st, ct, cj, by rw [bay]; exact cb, by rw [bay]; exact cz⟩
    · simp only [if_neg k]
      have := h.chans d
      unfold Sessions.ChanSound at this
      split at this
      · rename_i e; simp only [e]; exact this
      · rename_i id' e
        simp only [e]
        obtain ⟨z, hz, zi, zc, rest⟩ := this
        refine ⟨z, (mem z).2 (Or.inr ⟨hz, ?_⟩), zi, zc, rest⟩
        rintro rfl
        rw [zc] at alone
        rcases alone with e | e
        · exact k (Option.some.inj e)
        · cases e
  · unfold Sessions.HoldSound
    rcases (mem z).1 hz with rfl | ⟨hw, ne⟩
    · simp only [chan, chan_set, if_true, cs, id]
    · cases e : z.channel with
      | none => exact h.queued hw e
      | some d =>
        simp only [chan_set]
        by_cases k : d = c
        · subst k
          rcases from_ with fc | fc
          · have := h.holder hy fc
            rw [h.holder hw e] at this
            exact absurd (h.same hw hy (Option.some.inj this)) ne
          · rw [h.holder hw e] at fc; cases fc
        · rw [if_neg k]; exact h.holder hw e

/-- A channel without a session put at a configuration (R113). -/
theorem Sessions.Sound.idle {x : Sessions} (h : x.Sound) (c : ChanIx) (new : ChanCfg)
    (e : x.channels[c.1].session = none) :
    Sessions.Sound { x with channels := x.channels.set c.1 (Channel.idle new) c.2 } := by
  refine ⟨h.room, h.ids, h.bays, h.range, h.next, fun d => ?_, fun z hz => ?_⟩
  · simp only [Sessions.ChanSound, chan_set]
    by_cases k : d = c
    · simp only [if_pos k, Channel.idle]
    · simp only [if_neg k]
      exact h.chans d
  · unfold Sessions.HoldSound
    cases k : z.channel with
    | none => exact h.queued hz k
    | some d =>
      simp only [chan_set]
      by_cases j : d = c
      · subst j; rw [h.holder hz k] at e; cases e
      · rw [if_neg j]; exact h.holder hz k

/-- A channel that holds a session given a pending configuration (R113). -/
theorem Sessions.Sound.pend {x : Sessions} (h : x.Sound) (c : ChanIx) (new : ChanCfg)
    (e : x.channels[c.1].session ≠ none) :
    Sessions.Sound
      { x with channels := x.channels.set c.1 { x.channels[c.1] with pendingCfg := some new } c.2 } := by
  refine ⟨h.room, h.ids, h.bays, h.range, h.next, fun d => ?_, fun z hz => ?_⟩
  · have := h.chans d
    simp only [Sessions.ChanSound, chan_set] at this ⊢
    by_cases k : d = c
    · subst k
      simp only [if_true]
      split at this
      · rename_i k; exact absurd k e
      · rename_i id k; simp only [k]; exact this
    · simp only [if_neg k]
      exact this
  · unfold Sessions.HoldSound
    cases k : z.channel with
    | none => exact h.queued hz k
    | some d =>
      simp only [chan_set]
      by_cases j : d = c
      · subst j; rw [if_pos rfl]; exact h.holder hz k
      · rw [if_neg j]; exact h.holder hz k

/-- A session admitted (R115, R118). -/
theorem Sessions.Sound.admission {x : Sessions} (h : x.Sound) (y : Session) (n : Nat) (lo : 1 ≤ n) (hi : n ≤ 255)
    (room : x.queue.length < 24) (idr : 1 ≤ y.id ∧ y.id ≤ 255) (fresh : y.id ∉ x.queue.map (·.id))
    (alone : y.bay ∉ x.queue.map (·.bay)) (st : y.state = .queued) (ch : y.channel = none) :
    Sessions.Sound { x with queue := x.queue ++ [y], nextId := n } := by
  refine ⟨by simp; omega, ?_, ?_, fun z hz => ?_, ⟨lo, hi⟩, fun d => ?_, fun z hz => ?_⟩
  · rw [List.map_append, List.nodup_append]
    refine ⟨h.ids, List.nodup_singleton _, fun a ha b hb e => ?_⟩
    rw [List.mem_singleton.1 hb] at e; subst e; exact fresh ha
  · rw [List.map_append, List.nodup_append]
    refine ⟨h.bays, List.nodup_singleton _, fun a ha b hb e => ?_⟩
    rw [List.mem_singleton.1 hb] at e; subst e; exact alone ha
  · rcases List.mem_append.1 hz with hz | hz
    · exact h.range z hz
    · rw [List.mem_singleton.1 hz]; exact idr
  · have := h.chans d
    unfold Sessions.ChanSound at this ⊢
    split at this
    · rename_i e; simp only [e]; exact this
    · rename_i id e
      simp only [e]
      obtain ⟨z, hz, rest⟩ := this
      exact ⟨z, List.mem_append_left _ hz, rest⟩
  · rcases List.mem_append.1 hz with hz | hz
    · exact h.holds z hz
    · rw [List.mem_singleton.1 hz, Sessions.HoldSound, ch]; exact st

/-! ### The next identifier (R116) -/

theorem session?_eq_none {s : State} {n : Nat} (h : s.session? n = none) :
    n ∉ s.sess.queue.map (·.id) := by
  intro m
  obtain ⟨y, hy, e⟩ := List.mem_map.1 m
  have := List.find?_eq_none.1 h y hy
  simp [e] at this

theorem idAfter_range (n : Nat) : 1 ≤ idAfter n ∧ idAfter n ≤ 255 := by
  unfold idAfter; split <;> omega

/-- The search for an identifier ends at a free one, or every identifier it tried is taken. -/
theorem freeIdFrom_spec (s : State) (k n : Nat) (lo : 1 ≤ n) (hi : n ≤ 255) :
    (1 ≤ s.freeIdFrom k n ∧ s.freeIdFrom k n ≤ 255) ∧
      (s.session? (s.freeIdFrom k n) = none ∨
        ∀ j < k, (n - 1 + j) % 255 + 1 ∈ s.sess.queue.map (·.id)) := by
  induction k generalizing n with
  | zero => exact ⟨⟨lo, hi⟩, Or.inr fun j h => absurd h (Nat.not_lt_zero j)⟩
  | succ k ih =>
    unfold State.freeIdFrom
    split
    · rename_i taken
      obtain ⟨r, q⟩ := ih (idAfter n) (idAfter_range n).1 (idAfter_range n).2
      refine ⟨r, q.imp_right fun all j hj => ?_⟩
      rcases Nat.eq_zero_or_pos j with rfl | pos
      · have e : (n - 1 + 0) % 255 + 1 = n := by omega
        rw [e]
        obtain ⟨y, hy⟩ := Option.isSome_iff_exists.1 taken
        have m := List.mem_of_find?_eq_some hy
        have i := List.find?_some hy
        exact List.mem_map.2 ⟨y, m, by simpa using i⟩
      · have := all (j - 1) (by omega)
        have e : (idAfter n - 1 + (j - 1)) % 255 + 1 = (n - 1 + j) % 255 + 1 := by
          unfold idAfter; split <;> omega
        rw [e] at this
        exact this
    · rename_i free
      exact ⟨⟨lo, hi⟩, Or.inl (by simpa using free)⟩

/-- The identifier taken is from 1 to 255 and belongs to no session in the queue (R116). -/
theorem takenId_spec (s : State) (h : s.sess.Sound) :
    (1 ≤ s.takenId ∧ s.takenId ≤ 255) ∧ s.takenId ∉ s.sess.queue.map (·.id) := by
  obtain ⟨r, q⟩ := freeIdFrom_spec s 255 s.sess.nextId h.next.1 h.next.2
  refine ⟨r, ?_⟩
  rcases q with q | all
  · exact session?_eq_none q
  · exfalso
    have sub : (List.range 255).map (· + 1) ⊆ s.sess.queue.map (·.id) := by
      intro m hm
      obtain ⟨i, hi, rfl⟩ := List.mem_map.1 hm
      have hi := List.mem_range.1 hi
      have next := h.next
      have := all ((i + 255 - (s.sess.nextId - 1)) % 255) (Nat.mod_lt _ (by decide))
      have e : (s.sess.nextId - 1 + (i + 255 - (s.sess.nextId - 1)) % 255) % 255 = i := by omega
      rw [e] at this
      exact this
    have nd : ((List.range 255).map (· + 1)).Nodup :=
      (List.nodup_range).map fun a b e => by simpa using e
    have := (nd.subperm sub).length_le
    have room := h.room
    simp at this
    omega

end Sys2Proof.Machine
end

