-- ==== Sys2Proof/Laws/Good.lean ====
section
/-! SUPPORT. What every operation within an event keeps sound: the Notice Queue, of which no level-7 record is lost, the
Bolt Pulse Arbiter, and the sessions with their channels. One lemma for each operation. -/

namespace Sys2Proof.Machine

/-- The notices of a state have come from some others by raising, and its arbiter and sessions are sound. -/
structure Good (n₀ : Notices) (s : State) : Prop where
  raised : Raised n₀ s.notices
  arb : s.arb.Sound
  sess : s.sess.Sound

/-- An update of the other parts. -/
@[simp] theorem good_mk {n₀ : Notices} {s : State} (now : Nat) (resetHeld keyswitch : Bool) (inlet : Inlet)
    (pool : Pool) (power : Power) (round : Round) (bays : Vector Bay 36) (cust : CustodyUnit) (loop : Loop)
    (link : HostLink) (settings : Settings) (image : Option SettingsImage) (retained : Retained)
    (pending : List Instr) (h : Good n₀ s) :
    Good n₀ ⟨now, resetHeld, keyswitch, inlet, pool, power, round, bays, cust, s.arb, s.sess, loop, link,
      s.notices, settings, image, retained, pending⟩ := ⟨h.1, h.2, h.3⟩

/-- The arbiter held or let go. -/
@[simp] theorem good_held {n₀ : Notices} {s : State} (now : Nat) (resetHeld keyswitch : Bool) (inlet : Inlet)
    (pool : Pool) (power : Power) (round : Round) (bays : Vector Bay 36) (cust : CustodyUnit) (held : Bool)
    (loop : Loop) (link : HostLink) (settings : Settings) (image : Option SettingsImage)
    (retained : Retained) (pending : List Instr) (h : Good n₀ s) :
    Good n₀ ⟨now, resetHeld, keyswitch, inlet, pool, power, round, bays, cust,
      ⟨s.arb.queue, s.arb.slotA, s.arb.slotB, held⟩, s.sess, loop, link, s.notices, settings, image,
      retained, pending⟩ := ⟨h.1, ⟨h.2.1, h.2.2, h.2.3, h.2.4⟩, h.3⟩

/-- The arbiter emptied (R107). -/
@[simp] theorem good_emptied {n₀ : Notices} {s : State} (now : Nat) (resetHeld keyswitch : Bool)
    (inlet : Inlet) (pool : Pool) (power : Power) (round : Round) (bays : Vector Bay 36)
    (cust : CustodyUnit) (held : Bool) (loop : Loop) (link : HostLink) (settings : Settings)
    (image : Option SettingsImage) (retained : Retained) (pending : List Instr) (h : Good n₀ s) :
    Good n₀ ⟨now, resetHeld, keyswitch, inlet, pool, power, round, bays, cust, ⟨[], none, none, held⟩, s.sess,
      loop, link, s.notices, settings, image, retained, pending⟩ :=
  ⟨h.1, ⟨List.nodup_nil, fun _ e => (nomatch e), fun _ e => (nomatch e), fun _ _ e => (nomatch e)⟩, h.3⟩

/-- A fold of operations that keep this sound. -/
@[simp] theorem good_foldl {n₀ : Notices} {α : Type} (f : State → α → State) (l : List α) {s : State}
    (h : Good n₀ s) (hf : ∀ s a, Good n₀ s → Good n₀ (f s a)) : Good n₀ (l.foldl f s) := by
  induction l generalizing s with
  | nil => exact h
  | cons a l ih => exact ih (hf s a h)

@[simp] theorem good_setBay {n₀ : Notices} {s : State} (i : BayIx) (b : Bay) (h : Good n₀ s) :
    Good n₀ (s.setBay i b) := ⟨h.1, h.2, h.3⟩

@[simp] theorem good_modBay {n₀ : Notices} {s : State} (i : BayIx) (f : Bay → Bay) (h : Good n₀ s) :
    Good n₀ (s.modBay i f) := ⟨h.1, h.2, h.3⟩

@[simp] theorem good_modBays {n₀ : Notices} {s : State} (f : BayIx → Bay → Bay) (h : Good n₀ s) :
    Good n₀ (s.modBays f) := good_foldl _ _ h fun _ i h => good_modBay i (f i) h

@[simp] theorem good_mapRoster {n₀ : Notices} {s : State} (f : Entry → Entry) (h : Good n₀ s) :
    Good n₀ (s.mapRoster f) := ⟨h.1, h.2, h.3⟩

@[simp] theorem good_reach {n₀ : Notices} {s : State} (due : Nat) (h : Good n₀ s) : Good n₀ (s.reach due) :=
  ⟨h.1, h.2, h.3⟩

@[simp] theorem good_raise {n₀ : Notices} {s : State} (k : NoticeKind) (bay : Option BayIx)
    (asset : Option AssetId) (session : Option Nat) (value : Option Nat) (reason : Option Reason)
    (h : Good n₀ s) : Good n₀ (s.raise k bay asset session value reason) := by
  refine ⟨h.1.trans (raised_raise s k bay asset session value reason), ?_, ?_⟩
  · unfold State.raise; dsimp only; split <;> exact h.2
  · unfold State.raise; dsimp only; split <;> exact h.3

@[simp] theorem good_lines {n₀ : Notices} {s : State} (h : Good n₀ s) : Good n₀ s.lines :=
  ⟨h.1.trans (raised_lines s), h.2, h.3⟩

@[simp] theorem good_askBolt {n₀ : Notices} {s : State} (i : BayIx) (d : Dir) (h : Good n₀ s) :
    Good n₀ (s.askBolt i d) := by
  refine ⟨?_, sound_askBolt s i d h.2, ?_⟩
  · unfold State.askBolt; split <;> [skip; split; skip] <;> exact h.1
  · unfold State.askBolt; split <;> [skip; split; skip] <;> exact h.3

@[simp] theorem good_dropBolt {n₀ : Notices} {s : State} (i : BayIx) (h : Good n₀ s) :
    Good n₀ (s.dropBolt i) := by
  refine ⟨?_, sound_dropBolt s i h.2, ?_⟩
  · unfold State.dropBolt; split <;> exact h.1
  · unfold State.dropBolt; split <;> exact h.3

@[simp] theorem good_freeSlot {n₀ : Notices} {s : State} (k : PulseSlot) (h : Good n₀ s) :
    Good n₀ (s.setSlot k none) := by
  refine ⟨?_, sound_freeSlot s k h.2, ?_⟩ <;> cases k
  · exact h.1
  · exact h.1
  · exact h.3
  · exact h.3

/-- A pulse that fits put in a slot. -/
theorem good_fillSlot {n₀ : Notices} {s : State} (k : PulseSlot) (p : Pulse) (f : s.arb.Fits k p.bay)
    (h : Good n₀ s) : Good n₀ (s.setSlot k (some p)) := by
  refine ⟨?_, sound_setSlot s k p h.2 f, ?_⟩ <;> cases k
  · exact h.1
  · exact h.1
  · exact h.3
  · exact h.3

/-- The pulse of a slot changed, its bay kept. -/
theorem good_setSlot {n₀ : Notices} {s : State} (k : PulseSlot) (p q : Pulse) (e : s.slot k = some q)
    (b : p.bay = q.bay) (h : Good n₀ s) : Good n₀ (s.setSlot k (some p)) := by
  refine good_fillSlot k p ?_ h
  rw [b]
  exact h.2.fits (by cases k <;> exact e)

/-- The sessions replaced by sound ones. -/
theorem good_sess {n₀ : Notices} {s : State} (x : Sessions) (h : Good n₀ s) (hx : x.Sound) :
    Good n₀ { s with sess := x } := ⟨h.1, h.2, hx⟩

@[simp] theorem good_place {n₀ : Notices} {s : State} (t : Txn) (h : Good n₀ s) :
    Good n₀ (s.place t) := by
  unfold State.place
  try dsimp only
  all_goals simp +contextual (maxDischargeDepth := 20) [h]

@[simp] theorem good_withdraw {n₀ : Notices} {s : State} (p : Txn → Bool) (h : Good n₀ s) :
    Good n₀ (s.withdraw p) := by
  unfold State.withdraw
  try dsimp only
  all_goals simp +contextual (maxDischargeDepth := 20) [h]

@[simp] theorem good_send {n₀ : Notices} {s : State} (t : Txn) (h : Good n₀ s) :
    Good n₀ (s.send t) := by
  unfold State.send
  try dsimp only
  all_goals simp +contextual (maxDischargeDepth := 20) [h]

@[simp] theorem good_markPending {n₀ : Notices} {s : State}  (h : Good n₀ s) :
    Good n₀ s.markPending := by
  unfold State.markPending
  try dsimp only
  all_goals simp +contextual (maxDischargeDepth := 20) [h]

@[simp] theorem good_markAtOnce {n₀ : Notices} {s : State}  (h : Good n₀ s) :
    Good n₀ s.markAtOnce := by
  unfold State.markAtOnce
  try dsimp only
  all_goals simp +contextual (maxDischargeDepth := 20) [h]

@[simp] theorem good_setGrants {n₀ : Notices} {s : State} (i : BayIx) (applied commanded : Nat) (h : Good n₀ s) :
    Good n₀ (s.setGrants i applied commanded) := by
  unfold State.setGrants
  try dsimp only
  repeat' split
  all_goals simp +contextual (maxDischargeDepth := 20) [h]

@[simp] theorem good_refreshShare {n₀ : Notices} {s : State} (i : BayIx) (h : Good n₀ s) :
    Good n₀ (s.refreshShare i) := by
  unfold State.refreshShare
  try dsimp only
  repeat' split
  all_goals simp +contextual (maxDischargeDepth := 20) [h]

@[simp] theorem good_refreshShares {n₀ : Notices} {s : State}  (h : Good n₀ s) :
    Good n₀ s.refreshShares := by
  unfold State.refreshShares
  try dsimp only
  all_goals simp +contextual (maxDischargeDepth := 20) [h]

@[simp] theorem good_issueGrant {n₀ : Notices} {s : State} (k : GrantKind) (i : BayIx) (w : Nat) (h : Good n₀ s) :
    Good n₀ (s.issueGrant k i w) := by
  unfold State.issueGrant
  try dsimp only
  repeat' split
  all_goals simp +contextual (maxDischargeDepth := 20) [h]

@[simp] theorem good_withdrawGrant {n₀ : Notices} {s : State} (i : BayIx) (h : Good n₀ s) :
    Good n₀ (s.withdrawGrant i) := by
  unfold State.withdrawGrant
  try dsimp only
  repeat' split
  all_goals simp +contextual (maxDischargeDepth := 20) [h]

@[simp] theorem good_endRound {n₀ : Notices} {s : State}  (h : Good n₀ s) :
    Good n₀ s.endRound := by
  unfold State.endRound
  try dsimp only
  all_goals simp +contextual (maxDischargeDepth := 20) [h]

@[simp] theorem good_leaveRaise {n₀ : Notices} {s : State}  (h : Good n₀ s) :
    Good n₀ s.leaveRaise := by
  unfold State.leaveRaise
  try dsimp only
  all_goals simp +contextual (maxDischargeDepth := 20) [h]

@[simp] theorem good_raiseBay {n₀ : Notices} {s : State} (i : BayIx) (h : Good n₀ s) :
    Good n₀ (s.raiseBay i) := by
  unfold State.raiseBay
  try dsimp only
  repeat' split
  all_goals simp +contextual (maxDischargeDepth := 20) [h]

@[simp] theorem good_beginRaising {n₀ : Notices} {s : State}  (h : Good n₀ s) :
    Good n₀ s.beginRaising := by
  unfold State.beginRaising
  try dsimp only
  all_goals simp +contextual (maxDischargeDepth := 20) [h]

@[simp] theorem good_roundOn {n₀ : Notices} {s : State}  (h : Good n₀ s) :
    Good n₀ s.roundOn := by
  unfold State.roundOn
  try dsimp only
  repeat' split
  all_goals simp +contextual (maxDischargeDepth := 20) [h]

@[simp] theorem good_takeTargets {n₀ : Notices} {s : State}  (h : Good n₀ s) :
    Good n₀ s.takeTargets := by
  unfold State.takeTargets
  try dsimp only
  all_goals simp +contextual (maxDischargeDepth := 20) [h]

@[simp] theorem good_lowerBay {n₀ : Notices} {s : State} (i : BayIx) (h : Good n₀ s) :
    Good n₀ (s.lowerBay i) := by
  unfold State.lowerBay
  try dsimp only
  all_goals simp +contextual (maxDischargeDepth := 20) [h]

@[simp] theorem good_beginRound {n₀ : Notices} {s : State}  (h : Good n₀ s) :
    Good n₀ s.beginRound := by
  unfold State.beginRound
  try dsimp only
  repeat' split
  all_goals simp +contextual (maxDischargeDepth := 20) [h]

@[simp] theorem good_grantEnded {n₀ : Notices} {s : State} (k : GrantKind) (i : BayIx) (h : Good n₀ s) :
    Good n₀ (s.grantEnded k i) := by
  unfold State.grantEnded
  try dsimp only
  repeat' split
  all_goals simp +contextual (maxDischargeDepth := 20) [h]

@[simp] theorem good_cutGrant {n₀ : Notices} {s : State} (i : BayIx) (h : Good n₀ s) :
    Good n₀ (s.cutGrant i) := by
  unfold State.cutGrant
  try dsimp only
  repeat' split
  all_goals simp +contextual (maxDischargeDepth := 20) [h]

@[simp] theorem good_cutRound {n₀ : Notices} {s : State}  (h : Good n₀ s) :
    Good n₀ s.cutRound := by
  unfold State.cutRound
  try dsimp only
  repeat' split
  all_goals simp +contextual (maxDischargeDepth := 20) [h]

@[simp] theorem good_shedAll {n₀ : Notices} {s : State}  (h : Good n₀ s) :
    Good n₀ s.shedAll := by
  unfold State.shedAll
  try dsimp only
  repeat' split
  all_goals simp +contextual (maxDischargeDepth := 20) [h]

@[simp] theorem good_abandonRound {n₀ : Notices} {s : State}  (h : Good n₀ s) :
    Good n₀ s.abandonRound := by
  unfold State.abandonRound
  try dsimp only
  repeat' split
  all_goals simp +contextual (maxDischargeDepth := 20) [h]

@[simp] theorem good_emergencyShed {n₀ : Notices} {s : State}  (h : Good n₀ s) :
    Good n₀ s.emergencyShed := by
  unfold State.emergencyShed
  try dsimp only
  all_goals simp +contextual (maxDischargeDepth := 20) [h]

@[simp] theorem good_drainShed {n₀ : Notices} {s : State}  (h : Good n₀ s) :
    Good n₀ s.drainShed := by
  unfold State.drainShed
  try dsimp only
  all_goals simp +contextual (maxDischargeDepth := 20) [h]

@[simp] theorem good_fallBelow {n₀ : Notices} {s : State}  (h : Good n₀ s) :
    Good n₀ s.fallBelow := by
  unfold State.fallBelow
  try dsimp only
  all_goals simp +contextual (maxDischargeDepth := 20) [h]

@[simp] theorem good_recomputePool {n₀ : Notices} {s : State}  (h : Good n₀ s) :
    Good n₀ s.recomputePool := by
  unfold State.recomputePool
  try dsimp only
  repeat' split
  all_goals simp +contextual (maxDischargeDepth := 20) [h]

@[simp] theorem good_judgeEligible {n₀ : Notices} {s : State}  (h : Good n₀ s) :
    Good n₀ s.judgeEligible := by
  unfold State.judgeEligible
  try dsimp only
  repeat' split
  all_goals simp +contextual (maxDischargeDepth := 20) [h]

@[simp] theorem good_faultGrant {n₀ : Notices} {s : State} (i : BayIx) (h : Good n₀ s) :
    Good n₀ (s.faultGrant i) := by
  unfold State.faultGrant
  try dsimp only
  repeat' split
  all_goals simp +contextual (maxDischargeDepth := 20) [h]

/-- A session takes a Free channel that serves its bay (R120). -/
theorem good_dispatchTo {n₀ : Notices} {s : State} (c : ChanIx) (x : Session) (h : Good n₀ s)
    (hx : x ∈ s.sess.queue) (q : x.state = .queued) (free : (s.chan c).state = .free)
    (sv : serves (s.chan c).cfg s.loop.bayCount x.bay x.cls = true) : Good n₀ (s.dispatchTo c x) := by
  have none_ : x.channel = none := by
    cases e : x.channel with
    | none => rfl
    | some d => exact absurd q (h.3.chan hx e).1
  have lies : (s.chan c).cfg.base ≤ x.bay.1 ∧ x.bay.1 < (s.chan c).cfg.base + (s.chan c).cfg.size := by
    simp only [serves, Bool.and_eq_true, decide_eq_true_eq] at sv
    exact ⟨sv.1.1.1.2, sv.1.1.2⟩
  have key := h.3.move hx c
    (fun y => { y with
      state := .linking, channel := some c, due := some (s.now + s.cfg .linkTimer * 1000) })
    rfl rfl rfl rfl (by simp) (Or.inr (h.3.vacant (Or.inl free)))
    { s.chan c with state := .linking, session := some x.id, join := some x.bay } rfl rfl rfl
    lies.1 lies.2 (Or.inr none_)
  unfold State.dispatchTo
  exact good_refreshShare x.bay ⟨h.1, h.2, key⟩

@[simp] theorem good_dispatchChan {n₀ : Notices} {s : State} (c : ChanIx) (h : Good n₀ s) :
    Good n₀ (s.dispatchChan c) := by
  unfold State.dispatchChan
  split
  · rename_i free
    split
    · rename_i x e
      have m := List.mem_of_find?_eq_some e
      have p := List.find?_some e
      simp only [Bool.and_eq_true, decide_eq_true_eq] at p
      exact good_dispatchTo c x h m p.1.1 free p.1.2
    · exact h
  · exact h

@[simp] theorem good_dispatch {n₀ : Notices} {s : State} (h : Good n₀ s) : Good n₀ s.dispatch := by
  unfold State.dispatch; simp +contextual (maxDischargeDepth := 20) [h]

/-- A session removed with its channel released (R126). -/
theorem good_leaveQueue {n₀ : Notices} {s : State} (x : Session) (h : Good n₀ s) (m : x ∈ s.sess.queue) :
    Good n₀ (s.leaveQueue x) := by
  unfold State.leaveQueue
  cases ch : x.channel with
  | none => exact ⟨h.1, h.2, h.3.remove m s.sess.channels (by rw [ch])⟩
  | some c =>
    exact ⟨h.1, h.2, h.3.remove m (s.sess.channels.set c.1 s.sess.channels[c.1].release c.2) (by rw [ch])⟩

@[simp] theorem good_channelFreed {n₀ : Notices} {s : State} (x : Session) (h : Good n₀ s) :
    Good n₀ (s.channelFreed x) := by
  unfold State.channelFreed
  try dsimp only
  repeat' split
  all_goals simp +contextual (maxDischargeDepth := 20) [h]

@[simp] theorem good_endSessionAs {n₀ : Notices} {s : State} (id : Nat) (o : SessOutcome) (asset : Option AssetId) (h : Good n₀ s) :
    Good n₀ (s.endSessionAs id o asset) := by
  unfold State.endSessionAs
  split
  · exact h
  · rename_i x e
    have m : x ∈ s.sess.queue := List.mem_of_find?_eq_some e
    have l := good_leaveQueue x h m
    dsimp only
    split <;> simp (maxDischargeDepth := 20) [l]

@[simp] theorem good_endSession {n₀ : Notices} {s : State} (id : Nat) (o : SessOutcome) (h : Good n₀ s) :
    Good n₀ (s.endSession id o) := by
  unfold State.endSession
  try dsimp only
  repeat' split
  all_goals simp +contextual (maxDischargeDepth := 20) [h]

@[simp] theorem good_tellRemoval {n₀ : Notices} {s : State} (i : BayIx) (asset : Option AssetId) (h : Good n₀ s) :
    Good n₀ (s.tellRemoval i asset) := by
  unfold State.tellRemoval
  try dsimp only
  repeat' split
  all_goals simp +contextual (maxDischargeDepth := 20) [h]

@[simp] theorem good_sessionMeetsRelease {n₀ : Notices} {s : State} (i : BayIx) (h : Good n₀ s) :
    Good n₀ (s.sessionMeetsRelease i) := by
  unfold State.sessionMeetsRelease
  try dsimp only
  repeat' split
  all_goals simp +contextual (maxDischargeDepth := 20) [h]

@[simp] theorem good_endSessionsIn {n₀ : Notices} {s : State} (p : SessState → Bool) (o : SessOutcome) (h : Good n₀ s) :
    Good n₀ (s.endSessionsIn p o) := by
  unfold State.endSessionsIn
  try dsimp only
  all_goals simp +contextual (maxDischargeDepth := 20) [h]

/-- A session admitted where the queue has room and holds none for the bay (R118). -/
theorem good_admitSession {n₀ : Notices} {s : State} (i : BayIx) (k : SessClass) (m d : Nat) (h : Good n₀ s)
    (room : s.sess.queue.length < 24) (alone : s.sessionOf? i = none) :
    Good n₀ (s.admitSession i k m d) := by
  have free : i ∉ s.sess.queue.map (·.bay) := by
    intro hm
    obtain ⟨y, hy, e⟩ := List.mem_map.1 hm
    have := List.find?_eq_none.1 alone y hy
    simp [e] at this
  have t := takenId_spec s h.3
  unfold State.admitSession
  exact good_dispatch ⟨h.1, h.2,
    h.3.admission _ _ (idAfter_range _).1 (idAfter_range _).2 room t.1 t.2 free rfl rfl⟩

/-- A session that has a channel moved on in it (R122 to R124). -/
theorem good_moveOn {n₀ : Notices} {s : State} (x : Session) (c : ChanIx) (f : Session → Session)
    (ch : Channel) (h : Good n₀ s) (hx : x ∈ s.sess.queue) (e : x.channel = some c) (id : (f x).id = x.id)
    (bay : (f x).bay = x.bay) (chan : (f x).channel = x.channel) (st : (f x).state ≠ .queued)
    (cs : ch.session = some x.id) (ct : ch.state = chanStateOf (f x).state) (cj : ch.join = joinOf (f x))
    (cc : ch.cfg = (s.chan c).cfg) : Good n₀ ((s.modSession x.id f).setChan c ch) := by
  obtain ⟨-, -, -, b, z⟩ := h.3.chan hx e
  exact ⟨h.1, h.2, h.3.move hx c f rfl id bay (chan.trans e) st (Or.inl e) ch cs ct cj
    (by rw [cc]; exact b) (by rw [cc]; exact z) (Or.inl e)⟩

/-- The channel of a session that is not Queued. -/
theorem hasChannel {x : Sessions} (h : x.Sound) {y : Session} (hy : y ∈ x.queue) (q : y.state ≠ .queued) :
    ∃ c, y.channel = some c := by
  cases e : y.channel with
  | none => exact absurd (h.queued hy e) q
  | some c => exact ⟨c, rfl⟩

/-- Link Up of a Linking session (R122). -/
theorem good_linkUpSession {n₀ : Notices} {s : State} (x : Session) (h : Good n₀ s) (hx : x ∈ s.sess.queue)
    (st : x.state = .linking) : Good n₀ (s.linkUpSession x) := by
  obtain ⟨c, e⟩ := hasChannel h.3 hx (by rw [st]; simp)
  have hs := h.3.holder hx e
  have hc := h.3.chan hx e
  unfold State.linkUpSession
  refine good_raise _ _ _ _ _ _ ?_
  simp only [State.chanOf, e]
  refine good_moveOn x c _ _ h hx e rfl rfl rfl (by simp) hs rfl ?_ rfl
  show (s.chan c).join = _
  simpa [joinOf, st, State.chan] using hc.2.2.1

/-- Progress of an Active session (R123). -/
theorem good_progressSession {n₀ : Notices} {s : State} (x : Session) (v : Nat) (h : Good n₀ s)
    (hx : x ∈ s.sess.queue) (st : x.state = .active) : Good n₀ (s.progressSession x v) := by
  obtain ⟨c, e⟩ := hasChannel h.3 hx (by rw [st]; simp)
  have hs := h.3.holder hx e
  have hc := h.3.chan hx e
  have key := good_moveOn x c
    (fun y => { y with progress := some v, due := some (s.now + x.idleLimit * 1000) }) (s.chan c) h hx e
    rfl rfl rfl (by simp [st]) hs hc.2.1 hc.2.2.1 rfl
  have same : s.sess.channels.set c.1 (s.chan c) c.2 = s.sess.channels := by
    simp [State.chan]
  refine ⟨h.1, h.2, ?_⟩
  have k3 := key.3
  simp only [State.setChan, State.modSession, same] at k3
  exact k3

/-- Finish of an Active session (R124). -/
theorem good_finishActive {n₀ : Notices} {s : State} (x : Session) (ok : Bool) (h : Good n₀ s)
    (hx : x ∈ s.sess.queue) (st : x.state = .active) : Good n₀ (s.finishActive x ok) := by
  obtain ⟨c, e⟩ := hasChannel h.3 hx (by rw [st]; simp)
  have hs := h.3.holder hx e
  unfold State.finishActive
  simp only [State.chanOf, e]
  exact good_moveOn x c _ _ h hx e rfl rfl rfl (by simp) hs rfl rfl rfl

@[simp] theorem good_configure {n₀ : Notices} {s : State} (c : ChanIx) (new : ChanCfg) (h : Good n₀ s) :
    Good n₀ (s.configure c new) := by
  unfold State.configure
  dsimp only
  split
  · exact h
  · have idle : (s.chan c).state = .free ∨ (s.chan c).state = .off →
        Good n₀ (s.setChan c (Channel.idle new)) := fun e =>
      ⟨h.1, h.2, h.3.idle c new (h.3.vacant e)⟩
    have pend : (s.chan c).state ≠ .free → (s.chan c).state ≠ .off →
        Good n₀ (s.setChan c { s.chan c with pendingCfg := some new }) := fun f o => by
      refine ⟨h.1, h.2, h.3.pend c new fun e => ?_⟩
      have := h.3.chans c
      simp only [Sessions.ChanSound, e] at this
      have st : (s.chan c).state = (Channel.idle (s.chan c).cfg).state := congrArg Channel.state this
      simp only [Channel.idle] at st
      split at st
      · exact f st
      · exact o st
    split
    · rename_i e; split
      · exact good_dispatch (idle (Or.inr e))
      · exact idle (Or.inr e)
    · rename_i e; split
      · exact good_dispatch (idle (Or.inl e))
      · exact idle (Or.inl e)
    · rename_i e; exact pend (by simp [e]) (by simp [e])
    · rename_i e; exact pend (by simp [e]) (by simp [e])
    · rename_i e; exact pend (by simp [e]) (by simp [e])

@[simp] theorem good_leaveReady {n₀ : Notices} {s : State} (i : BayIx) (why : Option Reason) (h : Good n₀ s) :
    Good n₀ (s.leaveReady i why) := by
  unfold State.leaveReady
  try dsimp only
  repeat' split
  all_goals simp +contextual (maxDischargeDepth := 20) [h]

@[simp] theorem good_emptyReady {n₀ : Notices} {s : State} (why : Reason) (h : Good n₀ s) :
    Good n₀ (s.emptyReady why) := by
  unfold State.emptyReady
  try dsimp only
  repeat' split
  all_goals simp +contextual (maxDischargeDepth := 20) [h]

@[simp] theorem good_sayReadyCleared {n₀ : Notices} {s : State} (h : Good n₀ s) : Good n₀ s.sayReadyCleared := by
  unfold State.sayReadyCleared
  split <;> simp [h]

@[simp] theorem good_prepareReady {n₀ : Notices} {s : State} (n : Nat) (h : Good n₀ s) :
    Good n₀ (s.prepareReady n) := by
  unfold State.prepareReady
  try dsimp only
  all_goals simp +contextual (maxDischargeDepth := 20) [h]

@[simp] theorem good_dockedOut {n₀ : Notices} {s : State} (i : BayIx) (holder : Option Badge) (h : Good n₀ s) :
    Good n₀ (s.dockedOut i holder) := by
  unfold State.dockedOut
  try dsimp only
  all_goals simp +contextual (maxDischargeDepth := 20) [h]

@[simp] theorem good_dockedMissing {n₀ : Notices} {s : State} (i : BayIx) (h : Good n₀ s) :
    Good n₀ (s.dockedMissing i) := by
  unfold State.dockedMissing
  try dsimp only
  all_goals simp +contextual (maxDischargeDepth := 20) [h]

@[simp] theorem good_dockEntry {n₀ : Notices} {s : State} (a : AssetId) (i : BayIx) (h : Good n₀ s) :
    Good n₀ (s.dockEntry a i) := by
  unfold State.dockEntry
  try dsimp only
  all_goals simp +contextual (maxDischargeDepth := 20) [h]

@[simp] theorem good_setAsset {n₀ : Notices} {s : State} (i : BayIx) (a : Option AssetId) (st : Option Standing) (h : Good n₀ s) :
    Good n₀ (s.setAsset i a st) := by
  unfold State.setAsset
  try dsimp only
  all_goals simp +contextual (maxDischargeDepth := 20) [h]

@[simp] theorem good_dropTag {n₀ : Notices} {s : State} (i : BayIx) (h : Good n₀ s) :
    Good n₀ (s.dropTag i) := by
  unfold State.dropTag
  try dsimp only
  repeat' split
  all_goals simp +contextual (maxDischargeDepth := 20) [h]

@[simp] theorem good_stopSeating {n₀ : Notices} {s : State} (i : BayIx) (h : Good n₀ s) :
    Good n₀ (s.stopSeating i) := by
  unfold State.stopSeating
  try dsimp only
  all_goals simp +contextual (maxDischargeDepth := 20) [h]

@[simp] theorem good_stopWindow {n₀ : Notices} {s : State} (i : BayIx) (h : Good n₀ s) :
    Good n₀ (s.stopWindow i) := by
  unfold State.stopWindow
  try dsimp only
  all_goals simp +contextual (maxDischargeDepth := 20) [h]

@[simp] theorem good_become {n₀ : Notices} {s : State} (i : BayIx) (c : Custody) (h : Good n₀ s) :
    Good n₀ (s.become i c) := by
  unfold State.become
  try dsimp only
  repeat' split
  all_goals simp +contextual (maxDischargeDepth := 20) [h]

@[simp] theorem good_clearBay {n₀ : Notices} {s : State} (i : BayIx) (h : Good n₀ s) :
    Good n₀ (s.clearBay i) := by
  unfold State.clearBay
  try dsimp only
  all_goals simp +contextual (maxDischargeDepth := 20) [h]

@[simp] theorem good_engageBay {n₀ : Notices} {s : State} (i : BayIx) (h : Good n₀ s) :
    Good n₀ (s.engageBay i) := by
  unfold State.engageBay
  split
  all_goals simp +contextual (maxDischargeDepth := 20) [h]

@[simp] theorem good_secureBay {n₀ : Notices} {s : State} (i : BayIx) (h : Good n₀ s) :
    Good n₀ (s.secureBay i) := by
  unfold State.secureBay
  try dsimp only
  all_goals simp +contextual (maxDischargeDepth := 20) [h]

@[simp] theorem good_dropRelease {n₀ : Notices} {s : State} (i : BayIx) (h : Good n₀ s) :
    Good n₀ (s.dropRelease i) := by
  unfold State.dropRelease
  try dsimp only
  all_goals simp +contextual (maxDischargeDepth := 20) [h]

@[simp] theorem good_sayCancelled {n₀ : Notices} {s : State} (i : BayIx) (why : Reason) (h : Good n₀ s) :
    Good n₀ (s.sayCancelled i why) := by
  unfold State.sayCancelled
  try dsimp only
  all_goals simp +contextual (maxDischargeDepth := 20) [h]

@[simp] theorem good_drainReleasing {n₀ : Notices} {s : State} (i : BayIx) (why : Reason) (h : Good n₀ s) :
    Good n₀ (s.drainReleasing i why) := by
  unfold State.drainReleasing
  try dsimp only
  repeat' split
  all_goals simp +contextual (maxDischargeDepth := 20) [h]

@[simp] theorem good_drainReleased {n₀ : Notices} {s : State} (i : BayIx) (why : Reason) (h : Good n₀ s) :
    Good n₀ (s.drainReleased i why) := by
  unfold State.drainReleased
  try dsimp only
  repeat' split
  all_goals simp +contextual (maxDischargeDepth := 20) [h]

@[simp] theorem good_drainMind {n₀ : Notices} {s : State} (i : BayIx) (h : Good n₀ s) :
    Good n₀ (s.drainMind i) := by
  unfold State.drainMind
  try dsimp only
  repeat' split
  all_goals simp +contextual (maxDischargeDepth := 20) [h]

@[simp] theorem good_openWindow {n₀ : Notices} {s : State} (i : BayIx) (h : Good n₀ s) :
    Good n₀ (s.openWindow i) := by
  unfold State.openWindow
  try dsimp only
  all_goals simp +contextual (maxDischargeDepth := 20) [h]

@[simp] theorem good_acceptRelease {n₀ : Notices} {s : State} (i : BayIx) (seconds : Nat) (holder : Option Badge) (origin : ReleaseOrigin) (h : Good n₀ s) :
    Good n₀ (s.acceptRelease i seconds holder origin) := by
  unfold State.acceptRelease
  try dsimp only
  repeat' split
  all_goals simp +contextual (maxDischargeDepth := 20) [h]

@[simp] theorem good_takeTablet {n₀ : Notices} {s : State} (i : BayIx) (holder : Option Badge) (why : Reason) (value : Nat) (h : Good n₀ s) :
    Good n₀ (s.takeTablet i holder why value) := by
  unfold State.takeTablet
  try dsimp only
  all_goals simp +contextual (maxDischargeDepth := 20) [h]

@[simp] theorem good_windowEnds {n₀ : Notices} {s : State} (i : BayIx) (h : Good n₀ s) :
    Good n₀ (s.windowEnds i) := by
  unfold State.windowEnds
  try dsimp only
  all_goals simp +contextual (maxDischargeDepth := 20) [h]

@[simp] theorem good_sayTamper {n₀ : Notices} {s : State} (i : BayIx) (why : Reason) (h : Good n₀ s) :
    Good n₀ (s.sayTamper i why) := by
  unfold State.sayTamper
  try dsimp only
  all_goals simp +contextual (maxDischargeDepth := 20) [h]

@[simp] theorem good_mendBolt {n₀ : Notices} {s : State} (i : BayIx) (bolt : Bolt) (h : Good n₀ s) :
    Good n₀ (s.mendBolt i bolt) := by
  unfold State.mendBolt
  try dsimp only
  repeat' split
  all_goals simp +contextual (maxDischargeDepth := 20) [h]

@[simp] theorem good_judgeVacant {n₀ : Notices} {s : State} (i : BayIx) (presence : Bool) (bolt : Bolt) (h : Good n₀ s) :
    Good n₀ (s.judgeVacant i presence bolt) := by
  unfold State.judgeVacant
  try dsimp only
  repeat' split
  all_goals simp +contextual (maxDischargeDepth := 20) [h]

@[simp] theorem good_judgeSeating {n₀ : Notices} {s : State} (i : BayIx) (presence : Bool) (h : Good n₀ s) :
    Good n₀ (s.judgeSeating i presence) := by
  unfold State.judgeSeating
  try dsimp only
  repeat' split
  all_goals simp +contextual (maxDischargeDepth := 20) [h]

@[simp] theorem good_markGone {n₀ : Notices} {s : State} (i : BayIx) (h : Good n₀ s) :
    Good n₀ (s.markGone i) := by
  unfold State.markGone
  all_goals simp +contextual (maxDischargeDepth := 20) [h]

@[simp] theorem good_judgeSecuring {n₀ : Notices} {s : State} (i : BayIx) (h : Good n₀ s) :
    Good n₀ (s.judgeSecuring i) := by
  unfold State.judgeSecuring
  try dsimp only
  repeat' split
  all_goals simp +contextual (maxDischargeDepth := 20) [h]

@[simp] theorem good_judgeLocked {n₀ : Notices} {s : State} (i : BayIx) (presence : Bool) (bolt : Bolt) (h : Good n₀ s) :
    Good n₀ (s.judgeLocked i presence bolt) := by
  unfold State.judgeLocked
  try dsimp only
  repeat' split
  all_goals simp +contextual (maxDischargeDepth := 20) [h]

@[simp] theorem good_judgeReleasing {n₀ : Notices} {s : State} (i : BayIx) (h : Good n₀ s) :
    Good n₀ (s.judgeReleasing i) := by
  unfold State.judgeReleasing
  try dsimp only
  all_goals simp +contextual (maxDischargeDepth := 20) [h]

@[simp] theorem good_judgeReleased {n₀ : Notices} {s : State} (i : BayIx) (presence : Bool) (bolt : Bolt) (h : Good n₀ s) :
    Good n₀ (s.judgeReleased i presence bolt) := by
  unfold State.judgeReleased
  try dsimp only
  repeat' split
  all_goals simp +contextual (maxDischargeDepth := 20) [h]

@[simp] theorem good_removeHeld {n₀ : Notices} {s : State} (i : BayIx) (h : Good n₀ s) :
    Good n₀ (s.removeHeld i) := by
  unfold State.removeHeld
  try dsimp only
  all_goals simp +contextual (maxDischargeDepth := 20) [h]

@[simp] theorem good_loseJammed {n₀ : Notices} {s : State} (i : BayIx) (h : Good n₀ s) :
    Good n₀ (s.loseJammed i) := by
  unfold State.loseJammed
  try dsimp only
  repeat' split
  all_goals simp +contextual (maxDischargeDepth := 20) [h]

@[simp] theorem good_judge {n₀ : Notices} {s : State} (i : BayIx) (presence : Bool) (bolt : Bolt) (h : Good n₀ s) :
    Good n₀ (s.judge i presence bolt) := by
  unfold State.judge
  try dsimp only
  repeat' split
  all_goals simp +contextual (maxDischargeDepth := 20) [h]

@[simp] theorem good_buttonPress {n₀ : Notices} {s : State} (i : BayIx) (latch : Bool) (h : Good n₀ s) :
    Good n₀ (s.buttonPress i latch) := by
  unfold State.buttonPress
  try dsimp only
  repeat' split
  all_goals simp +contextual (maxDischargeDepth := 20) [h]

@[simp] theorem good_holdBay {n₀ : Notices} {s : State} (i : BayIx) (r : HeldReason) (a : Option AssetId) (st : Option Standing) (h : Good n₀ s) :
    Good n₀ (s.holdBay i r a st) := by
  unfold State.holdBay
  try dsimp only
  all_goals simp +contextual (maxDischargeDepth := 20) [h]

@[simp] theorem good_dockBay {n₀ : Notices} {s : State} (i : BayIx) (a : AssetId) (e : Entry) (k : NoticeKind) (value : Option Nat) (h : Good n₀ s) :
    Good n₀ (s.dockBay i a e k value) := by
  unfold State.dockBay
  try dsimp only
  repeat' split
  all_goals simp +contextual (maxDischargeDepth := 20) [h]

@[simp] theorem good_identified {n₀ : Notices} {s : State} (i : BayIx) (id : Option AssetId) (h : Good n₀ s) :
    Good n₀ (s.identified i id) := by
  unfold State.identified
  try dsimp only
  repeat' split
  all_goals simp +contextual (maxDischargeDepth := 20) [h]

@[simp] theorem good_engageDone {n₀ : Notices} {s : State} (i : BayIx) (h : Good n₀ s) :
    Good n₀ (s.engageDone i) := by
  unfold State.engageDone
  try dsimp only
  repeat' split
  all_goals simp +contextual (maxDischargeDepth := 20) [h]

@[simp] theorem good_retractDone {n₀ : Notices} {s : State} (i : BayIx) (h : Good n₀ s) :
    Good n₀ (s.retractDone i) := by
  unfold State.retractDone
  try dsimp only
  repeat' split
  all_goals simp +contextual (maxDischargeDepth := 20) [h]

@[simp] theorem good_pulseReport {n₀ : Notices} {s : State} (i : BayIx) (d : Dir) (ok : Bool) (h : Good n₀ s) :
    Good n₀ (s.pulseReport i d ok) := by
  unfold State.pulseReport
  try dsimp only
  repeat' split
  all_goals simp +contextual (maxDischargeDepth := 20) [h]

@[simp] theorem good_unjam {n₀ : Notices} {s : State} (i : BayIx) (h : Good n₀ s) :
    Good n₀ (s.unjam i) := by
  unfold State.unjam
  try dsimp only
  repeat' split
  all_goals simp +contextual (maxDischargeDepth := 20) [h]

@[simp] theorem good_compareLamp {n₀ : Notices} {s : State} (i : BayIx) (h : Good n₀ s) :
    Good n₀ (s.compareLamp i) := by
  unfold State.compareLamp
  try dsimp only
  repeat' split
  all_goals simp +contextual (maxDischargeDepth := 20) [h]

@[simp] theorem good_deriveLamp {n₀ : Notices} {s : State} (i : BayIx) (h : Good n₀ s) :
    Good n₀ (s.deriveLamp i) := by
  unfold State.deriveLamp
  try dsimp only
  repeat' split
  all_goals simp +contextual (maxDischargeDepth := 20) [h]

@[simp] theorem good_deriveLamps {n₀ : Notices} {s : State}  (h : Good n₀ s) :
    Good n₀ s.deriveLamps := by
  unfold State.deriveLamps
  try dsimp only
  all_goals simp +contextual (maxDischargeDepth := 20) [h]

@[simp] theorem good_loopPowerOff {n₀ : Notices} {s : State}  (h : Good n₀ s) :
    Good n₀ s.loopPowerOff := by
  unfold State.loopPowerOff
  try dsimp only
  repeat' split
  all_goals simp +contextual (maxDischargeDepth := 20) [h]

@[simp] theorem good_enterSettling {n₀ : Notices} {s : State}  (h : Good n₀ s) :
    Good n₀ s.enterSettling := by
  unfold State.enterSettling
  try dsimp only
  all_goals simp +contextual (maxDischargeDepth := 20) [h]

@[simp] theorem good_beginDrain {n₀ : Notices} {s : State} (k : DrainKind) (h : Good n₀ s) :
    Good n₀ (s.beginDrain k) := by
  unfold State.beginDrain
  try dsimp only
  repeat' split
  all_goals simp +contextual (maxDischargeDepth := 20) [h]

@[simp] theorem good_powerUp {n₀ : Notices} {s : State} (r : Rebuild) (h : Good n₀ s) :
    Good n₀ (s.powerUp r) := by
  unfold State.powerUp
  try dsimp only
  all_goals simp +contextual (maxDischargeDepth := 20) [h]

@[simp] theorem good_enterPowerOff {n₀ : Notices} {s : State}  (h : Good n₀ s) :
    Good n₀ s.enterPowerOff := by
  unfold State.enterPowerOff
  try dsimp only
  repeat' split
  all_goals simp +contextual (maxDischargeDepth := 20) [h]

@[simp] theorem good_startRebuild {n₀ : Notices} {s : State} (c : RebuildCause) (h : Good n₀ s) :
    Good n₀ (s.startRebuild c) := by
  unfold State.startRebuild
  try dsimp only
  repeat' split
  all_goals simp +contextual (maxDischargeDepth := 20) [h]

@[simp] theorem good_throughTransit {n₀ : Notices} {s : State}  (h : Good n₀ s) :
    Good n₀ s.throughTransit := by
  unfold State.throughTransit
  try dsimp only
  repeat' split
  all_goals simp +contextual (maxDischargeDepth := 20) [h]

@[simp] theorem good_enterTransit {n₀ : Notices} {s : State}  (h : Good n₀ s) :
    Good n₀ s.enterTransit := by
  unfold State.enterTransit
  try dsimp only
  all_goals simp +contextual (maxDischargeDepth := 20) [h]

@[simp] theorem good_endDrain {n₀ : Notices} {s : State}  (h : Good n₀ s) :
    Good n₀ s.endDrain := by
  unfold State.endDrain
  try dsimp only
  repeat' split
  all_goals simp +contextual (maxDischargeDepth := 20) [h]

@[simp] theorem good_drainCheck {n₀ : Notices} {s : State}  (h : Good n₀ s) :
    Good n₀ s.drainCheck := by
  unfold State.drainCheck
  try dsimp only
  repeat' split
  all_goals simp +contextual (maxDischargeDepth := 20) [h]

@[simp] theorem good_abandonRebuild {n₀ : Notices} {s : State}  (h : Good n₀ s) :
    Good n₀ s.abandonRebuild := by
  unfold State.abandonRebuild
  try dsimp only
  repeat' split
  all_goals simp +contextual (maxDischargeDepth := 20) [h]

@[simp] theorem good_autoCheck {n₀ : Notices} {s : State}  (h : Good n₀ s) :
    Good n₀ s.autoCheck := by
  unfold State.autoCheck
  try dsimp only
  repeat' split
  all_goals simp +contextual (maxDischargeDepth := 20) [h]

@[simp] theorem good_enterRiding {n₀ : Notices} {s : State}  (h : Good n₀ s) :
    Good n₀ s.enterRiding := by
  unfold State.enterRiding
  try dsimp only
  all_goals simp +contextual (maxDischargeDepth := 20) [h]

@[simp] theorem good_dropSettling {n₀ : Notices} {s : State}  (h : Good n₀ s) :
    Good n₀ s.dropSettling := by
  unfold State.dropSettling
  try dsimp only
  repeat' split
  all_goals simp +contextual (maxDischargeDepth := 20) [h]

@[simp] theorem good_dropout {n₀ : Notices} {s : State}  (h : Good n₀ s) :
    Good n₀ s.dropout := by
  unfold State.dropout
  try dsimp only
  repeat' split
  all_goals simp +contextual (maxDischargeDepth := 20) [h]

@[simp] theorem good_resumeServing {n₀ : Notices} {s : State}  (h : Good n₀ s) :
    Good n₀ s.resumeServing := by
  unfold State.resumeServing
  try dsimp only
  all_goals simp +contextual (maxDischargeDepth := 20) [h]

@[simp] theorem good_restoration {n₀ : Notices} {s : State}  (h : Good n₀ s) :
    Good n₀ s.restoration := by
  unfold State.restoration
  try dsimp only
  repeat' split
  all_goals simp +contextual (maxDischargeDepth := 20) [h]

@[simp] theorem good_unmark {n₀ : Notices} {s : State} (i : BayIx) (h : Good n₀ s) :
    Good n₀ (s.unmark i) := by
  unfold State.unmark
  try dsimp only
  repeat' split
  all_goals simp +contextual (maxDischargeDepth := 20) [h]

@[simp] theorem good_abandonRecon {n₀ : Notices} {s : State}  (h : Good n₀ s) :
    Good n₀ s.abandonRecon := by
  unfold State.abandonRecon
  try dsimp only
  repeat' split
  all_goals simp +contextual (maxDischargeDepth := 20) [h]

@[simp] theorem good_rideOut {n₀ : Notices} {s : State}  (h : Good n₀ s) :
    Good n₀ s.rideOut := by
  unfold State.rideOut
  try dsimp only
  all_goals simp +contextual (maxDischargeDepth := 20) [h]

@[simp] theorem good_leaveEmpty {n₀ : Notices} {s : State} (i : BayIx) (bolt : Bolt) (h : Good n₀ s) :
    Good n₀ (s.leaveEmpty i bolt) := by
  unfold State.leaveEmpty
  try dsimp only
  repeat' split
  all_goals simp +contextual (maxDischargeDepth := 20) [h]

@[simp] theorem good_mendHeld {n₀ : Notices} {s : State} (i : BayIx) (bolt : Bolt) (h : Good n₀ s) :
    Good n₀ (s.mendHeld i bolt) := by
  unfold State.mendHeld
  try dsimp only
  repeat' split
  all_goals simp +contextual (maxDischargeDepth := 20) [h]

@[simp] theorem good_mismatch {n₀ : Notices} {s : State} (i : BayIx) (why : Reason) (h : Good n₀ s) :
    Good n₀ (s.mismatch i why) := by
  unfold State.mismatch
  try dsimp only
  all_goals simp +contextual (maxDischargeDepth := 20) [h]

@[simp] theorem good_foundGone {n₀ : Notices} {s : State} (i : BayIx) (bolt : Bolt) (h : Good n₀ s) :
    Good n₀ (s.foundGone i bolt) := by
  unfold State.foundGone
  try dsimp only
  all_goals simp +contextual (maxDischargeDepth := 20) [h]

@[simp] theorem good_foundSwapped {n₀ : Notices} {s : State} (i : BayIx) (bolt : Bolt) (r : HeldReason) (read : Option AssetId) (h : Good n₀ s) :
    Good n₀ (s.foundSwapped i bolt r read) := by
  unfold State.foundSwapped
  try dsimp only
  all_goals simp +contextual (maxDischargeDepth := 20) [h]

@[simp] theorem good_foundTaken {n₀ : Notices} {s : State} (i : BayIx) (bolt : Bolt) (h : Good n₀ s) :
    Good n₀ (s.foundTaken i bolt) := by
  unfold State.foundTaken
  try dsimp only
  all_goals simp +contextual (maxDischargeDepth := 20) [h]

@[simp] theorem good_decideKept {n₀ : Notices} {s : State} (i : BayIx) (presence : Bool) (bolt : Bolt) (read : Option AssetId) (h : Good n₀ s) :
    Good n₀ (s.decideKept i presence bolt read) := by
  unfold State.decideKept
  try dsimp only
  repeat' split
  all_goals simp +contextual (maxDischargeDepth := 20) [h]

@[simp] theorem good_decideHeld {n₀ : Notices} {s : State} (i : BayIx) (presence : Bool) (bolt : Bolt) (read : Option AssetId) (h : Good n₀ s) :
    Good n₀ (s.decideHeld i presence bolt read) := by
  unfold State.decideHeld
  try dsimp only
  repeat' split
  all_goals simp +contextual (maxDischargeDepth := 20) [h]

@[simp] theorem good_decideEmpty {n₀ : Notices} {s : State} (i : BayIx) (presence : Bool) (bolt : Bolt) (h : Good n₀ s) :
    Good n₀ (s.decideEmpty i presence bolt) := by
  unfold State.decideEmpty
  try dsimp only
  repeat' split
  all_goals simp +contextual (maxDischargeDepth := 20) [h]

@[simp] theorem good_decideOpen {n₀ : Notices} {s : State} (i : BayIx) (presence : Bool) (bolt : Bolt) (h : Good n₀ s) :
    Good n₀ (s.decideOpen i presence bolt) := by
  unfold State.decideOpen
  try dsimp only
  repeat' split
  all_goals simp +contextual (maxDischargeDepth := 20) [h]

@[simp] theorem good_decideWarm {n₀ : Notices} {s : State} (i : BayIx) (presence : Bool) (bolt : Bolt) (read : Option AssetId) (h : Good n₀ s) :
    Good n₀ (s.decideWarm i presence bolt read) := by
  unfold State.decideWarm
  try dsimp only
  repeat' split
  all_goals simp +contextual (maxDischargeDepth := 20) [h]

@[simp] theorem good_decideCold {n₀ : Notices} {s : State} (i : BayIx) (presence : Bool) (bolt : Bolt) (h : Good n₀ s) :
    Good n₀ (s.decideCold i presence bolt) := by
  unfold State.decideCold
  try dsimp only
  repeat' split
  all_goals simp +contextual (maxDischargeDepth := 20) [h]

@[simp] theorem good_decide {n₀ : Notices} {s : State} (i : BayIx) (read : Option AssetId) (h : Good n₀ s) :
    Good n₀ (s.decide i read) := by
  unfold State.decide
  try dsimp only
  repeat' split
  all_goals simp +contextual (maxDischargeDepth := 20) [h]

@[simp] theorem good_reconReport {n₀ : Notices} {s : State} (i : BayIx) (h : Good n₀ s) :
    Good n₀ (s.reconReport i) := by
  unfold State.reconReport
  try dsimp only
  repeat' split
  all_goals simp +contextual (maxDischargeDepth := 20) [h]

@[simp] theorem good_reconBay {n₀ : Notices} {s : State} (count : Nat) (i : BayIx) (h : Good n₀ s) :
    Good n₀ (s.reconBay count i) := by
  unfold State.reconBay
  try dsimp only
  repeat' split
  all_goals simp +contextual (maxDischargeDepth := 20) [h]

@[simp] theorem good_beginRecon {n₀ : Notices} {s : State} (c : RebuildCause) (count : Nat) (h : Good n₀ s) :
    Good n₀ (s.beginRecon c count) := by
  unfold State.beginRecon
  try dsimp only
  repeat' split
  all_goals simp +contextual (maxDischargeDepth := 20) [h]

@[simp] theorem good_leaveTransit {n₀ : Notices} {s : State}  (h : Good n₀ s) :
    Good n₀ s.leaveTransit := by
  unfold State.leaveTransit
  try dsimp only
  repeat' split
  all_goals simp +contextual (maxDischargeDepth := 20) [h]

@[simp] theorem good_endRecon {n₀ : Notices} {s : State}  (h : Good n₀ s) :
    Good n₀ s.endRecon := by
  unfold State.endRecon
  try dsimp only
  all_goals simp +contextual (maxDischargeDepth := 20) [h]

@[simp] theorem good_reconCheck {n₀ : Notices} {s : State}  (h : Good n₀ s) :
    Good n₀ s.reconCheck := by
  unfold State.reconCheck
  try dsimp only
  repeat' split
  all_goals simp +contextual (maxDischargeDepth := 20) [h]

@[simp] theorem good_leaveBeyond {n₀ : Notices} {s : State} (m : Nat) (i : BayIx) (h : Good n₀ s) :
    Good n₀ (s.leaveBeyond m i) := by
  unfold State.leaveBeyond
  try dsimp only
  repeat' split
  all_goals simp +contextual (maxDischargeDepth := 20) [h]

@[simp] theorem good_scanPlace {n₀ : Notices} {s : State} (i : BayIx) (rest : List BayIx) (h : Good n₀ s) :
    Good n₀ (s.scanPlace i rest) := by
  unfold State.scanPlace
  all_goals simp +contextual (maxDischargeDepth := 20) [h]

@[simp] theorem good_startPass {n₀ : Notices} {s : State} (h : Good n₀ s) : Good n₀ s.startPass := by
  unfold State.startPass
  dsimp only
  split
  all_goals simp +contextual (maxDischargeDepth := 20) [h]

@[simp] theorem good_freshPass {n₀ : Notices} {s : State} (h : Good n₀ s) : Good n₀ s.freshPass := by
  unfold State.freshPass
  all_goals simp +contextual (maxDischargeDepth := 20) [h]

@[simp] theorem good_endRebuild {n₀ : Notices} {s : State} (m : Nat) (h : Good n₀ s) :
    Good n₀ (s.endRebuild m) := by
  unfold State.endRebuild
  try dsimp only
  repeat' split
  all_goals simp +contextual (maxDischargeDepth := 20) [h]

@[simp] theorem good_modRebuild {n₀ : Notices} {s : State} (f : Rebuild → Rebuild) (h : Good n₀ s) :
    Good n₀ (s.modRebuild f) := by
  unfold State.modRebuild
  try dsimp only
  all_goals simp +contextual (maxDischargeDepth := 20) [h]

@[simp] theorem good_discover {n₀ : Notices} {s : State} (p : BayIx) (h : Good n₀ s) :
    Good n₀ (s.discover p) := by
  unfold State.discover
  try dsimp only
  all_goals simp +contextual (maxDischargeDepth := 20) [h]

@[simp] theorem good_discIdentified {n₀ : Notices} {s : State} (p : BayIx) (serial : Option Serial) (h : Good n₀ s) :
    Good n₀ (s.discIdentified p serial) := by
  unfold State.discIdentified
  try dsimp only
  repeat' split
  all_goals simp +contextual (maxDischargeDepth := 20) [h]

@[simp] theorem good_discAssigned {n₀ : Notices} {s : State} (p : BayIx) (ok : Bool) (h : Good n₀ s) :
    Good n₀ (s.discAssigned p ok) := by
  unfold State.discAssigned
  try dsimp only
  repeat' split
  all_goals simp +contextual (maxDischargeDepth := 20) [h]

@[simp] theorem good_discPassed {n₀ : Notices} {s : State} (p : BayIx) (ok : Bool) (h : Good n₀ s) :
    Good n₀ (s.discPassed p ok) := by
  unfold State.discPassed
  try dsimp only
  repeat' split
  all_goals simp +contextual (maxDischargeDepth := 20) [h]

@[simp] theorem good_probed {n₀ : Notices} {s : State} (p : BayIx) (ok : Bool) (h : Good n₀ s) :
    Good n₀ (s.probed p ok) := by
  unfold State.probed
  try dsimp only
  all_goals simp +contextual (maxDischargeDepth := 20) [h]

/-- An attempt begun for a pulse that fits the slot (R101). -/
theorem good_startAttempt {n₀ : Notices} {s : State} (k : PulseSlot) (p : Pulse) (h : Good n₀ s)
    (f : s.arb.Fits k p.bay) : Good n₀ (s.startAttempt k p) := by
  unfold State.startAttempt
  exact good_place _ (good_fillSlot k _ f h)

@[simp] theorem good_grantSlot {n₀ : Notices} {s : State}  (h : Good n₀ s) :
    Good n₀ s.grantSlot := by
  unfold State.grantSlot
  split
  · rename_i lt
    split
    · exact h
    · rename_i e he
      have m := List.mem_of_find?_eq_some he
      have hm : e.1 ∈ s.arb.queue.map (·.1) := List.mem_map.2 ⟨e, m, rfl⟩
      have bound : s.slotLimit ≤ 2 := by
        unfold State.slotLimit; split <;> [omega; (split <;> [omega; (split <;> omega)])]
      have left : ∀ k : PulseSlot, (k = if s.arb.slotA.isNone then PulseSlot.a else .b) →
          Arbiter.Fits { s.arb with queue := s.arb.queue.filter fun x => x.1 ≠ e.1 } k e.1 := by
        intro k hk
        refine ⟨fun c => ?_, fun q hq c => ?_⟩
        · obtain ⟨z, hz, ez⟩ := List.mem_map.1 c
          have := (List.mem_filter.1 hz).2
          simp [ez] at this
        · cases k with
          | a => exact h.2.apartB q hq (c ▸ hm)
          | b => exact h.2.apartA q hq (c ▸ hm)
      have g : Good n₀ { s with arb := { s.arb with queue := s.arb.queue.filter fun x => x.1 ≠ e.1 } } :=
        ⟨h.1, h.2.filter _, h.3⟩
      exact good_startAttempt _ _ g (left _ rfl)
  · exact h

@[simp] theorem good_grantSlots {n₀ : Notices} {s : State}  (h : Good n₀ s) :
    Good n₀ s.grantSlots := by
  unfold State.grantSlots
  try dsimp only
  all_goals simp +contextual (maxDischargeDepth := 20) [h]

@[simp] theorem good_settle {n₀ : Notices} {s : State}  (h : Good n₀ s) :
    Good n₀ s.settle := by
  unfold State.settle
  try dsimp only
  all_goals simp +contextual (maxDischargeDepth := 20) [h]

@[simp] theorem good_linkLost {n₀ : Notices} {s : State} (i : BayIx) (h : Good n₀ s) :
    Good n₀ (s.linkLost i) := by
  unfold State.linkLost
  try dsimp only
  all_goals simp +contextual (maxDischargeDepth := 20) [h]

@[simp] theorem good_relink {n₀ : Notices} {s : State} (i : BayIx) (h : Good n₀ s) :
    Good n₀ (s.relink i) := by
  unfold State.relink
  try dsimp only
  all_goals simp +contextual (maxDischargeDepth := 20) [h]

@[simp] theorem good_heard {n₀ : Notices} {s : State} (i : BayIx) (h : Good n₀ s) :
    Good n₀ (s.heard i) := by
  unfold State.heard
  try dsimp only
  repeat' split
  all_goals simp +contextual (maxDischargeDepth := 20) [h]

@[simp] theorem good_missed {n₀ : Notices} {s : State} (i : BayIx) (h : Good n₀ s) :
    Good n₀ (s.missed i) := by
  unfold State.missed
  try dsimp only
  repeat' split
  all_goals simp +contextual (maxDischargeDepth := 20) [h]

@[simp] theorem good_takeOverdraw {n₀ : Notices} {s : State} (i : BayIx) (why : Reason) (h : Good n₀ s) :
    Good n₀ (s.takeOverdraw i why) := by
  unfold State.takeOverdraw
  try dsimp only
  all_goals simp +contextual (maxDischargeDepth := 20) [h]

@[simp] theorem good_testOverdraw {n₀ : Notices} {s : State} (i : BayIx) (h : Good n₀ s) :
    Good n₀ (s.testOverdraw i) := by
  unfold State.testOverdraw
  try dsimp only
  repeat' split
  all_goals simp +contextual (maxDischargeDepth := 20) [h]

@[simp] theorem good_testShort {n₀ : Notices} {s : State} (i : BayIx) (h : Good n₀ s) :
    Good n₀ (s.testShort i) := by
  unfold State.testShort
  try dsimp only
  repeat' split
  all_goals simp +contextual (maxDischargeDepth := 20) [h]

@[simp] theorem good_takeHot {n₀ : Notices} {s : State} (i : BayIx) (h : Good n₀ s) :
    Good n₀ (s.takeHot i) := by
  unfold State.takeHot
  try dsimp only
  all_goals simp +contextual (maxDischargeDepth := 20) [h]

@[simp] theorem good_testHot {n₀ : Notices} {s : State} (i : BayIx) (h : Good n₀ s) :
    Good n₀ (s.testHot i) := by
  unfold State.testHot
  try dsimp only
  repeat' split
  all_goals simp +contextual (maxDischargeDepth := 20) [h]

@[simp] theorem good_storeCharge {n₀ : Notices} {s : State} (i : BayIx) (k : Block) (h : Good n₀ s) :
    Good n₀ (s.storeCharge i k) := by
  unfold State.storeCharge
  try dsimp only
  repeat' split
  all_goals simp +contextual (maxDischargeDepth := 20) [h]

@[simp] theorem good_applyCharge {n₀ : Notices} {s : State} (i : BayIx) (k : Block) (h : Good n₀ s) :
    Good n₀ (s.applyCharge i k) := by
  unfold State.applyCharge
  try dsimp only
  repeat' split
  all_goals simp +contextual (maxDischargeDepth := 20) [h]

@[simp] theorem good_custodyReport {n₀ : Notices} {s : State} (i : BayIx) (k : Block) (h : Good n₀ s) :
    Good n₀ (s.custodyReport i k) := by
  unfold State.custodyReport
  try dsimp only
  repeat' split
  all_goals simp +contextual (maxDischargeDepth := 20) [h]

@[simp] theorem good_distribute {n₀ : Notices} {s : State} (i : BayIx) (k : Block) (h : Good n₀ s) :
    Good n₀ (s.distribute i k) := by
  unfold State.distribute
  try dsimp only
  all_goals simp +contextual (maxDischargeDepth := 20) [h]

@[simp] theorem good_clearOutstanding {n₀ : Notices} {s : State} (i : BayIx) (h : Good n₀ s) :
    Good n₀ (s.clearOutstanding i) := by
  unfold State.clearOutstanding
  try dsimp only
  repeat' split
  all_goals simp +contextual (maxDischargeDepth := 20) [h]

@[simp] theorem good_grantTold {n₀ : Notices} {s : State} (k : GrantKind) (i : BayIx) (e : Ending) (h : Good n₀ s) :
    Good n₀ (s.grantTold k i e) := by
  unfold State.grantTold
  try dsimp only
  repeat' split
  all_goals simp +contextual (maxDischargeDepth := 20) [h]

@[simp] theorem good_endPulse {n₀ : Notices} {s : State} (k : PulseSlot) (p : Pulse) (ok : Bool) (h : Good n₀ s) :
    Good n₀ (s.endPulse k p ok) := by
  unfold State.endPulse
  try dsimp only
  all_goals simp +contextual (maxDischargeDepth := 20) [h]

/-- An attempt of the pulse in a slot failed (R104). -/
theorem good_attemptFailed {n₀ : Notices} {s : State} (k : PulseSlot) (p q : Pulse) (e : s.slot k = some q)
    (b : p.bay = q.bay) (h : Good n₀ s) : Good n₀ (s.attemptFailed k p) := by
  unfold State.attemptFailed
  split
  · exact good_setSlot k _ q e b h
  · exact good_endPulse k p false (good_raise _ _ _ _ _ _ h)

@[simp] theorem good_lockTold {n₀ : Notices} {s : State} (k : PulseSlot) (ms : Nat) (e : Ending) (h : Good n₀ s) :
    Good n₀ (s.lockTold k ms e) := by
  unfold State.lockTold
  split
  · exact h
  · rename_i p e
    split
    · split
      · exact good_setSlot k _ p e rfl h
      · split
        · exact good_setSlot k _ p e rfl h
        · exact good_attemptFailed k _ p e rfl h
      · exact good_attemptFailed k _ p e rfl h
      · exact good_attemptFailed k _ p e rfl h
      · exact good_attemptFailed k _ p e rfl h
      · exact good_attemptFailed k _ p e rfl h
    · exact good_attemptFailed k _ p e rfl h
    · exact good_attemptFailed k _ p e rfl h

@[simp] theorem good_verifyTold {n₀ : Notices} {s : State} (k : PulseSlot) (e : Ending) (h : Good n₀ s) :
    Good n₀ (s.verifyTold k e) := by
  unfold State.verifyTold
  split
  · exact h
  · rename_i p e
    split
    · split
      · exact good_endPulse k p true h
      · exact good_attemptFailed k _ p e rfl h
    · exact good_attemptFailed k _ p e rfl h
    · exact good_attemptFailed k _ p e rfl h

@[simp] theorem good_readEnds {n₀ : Notices} {s : State} (i : BayIx) (recon : Bool) (id : Option AssetId) (h : Good n₀ s) :
    Good n₀ (s.readEnds i recon id) := by
  unfold State.readEnds
  try dsimp only
  repeat' split
  all_goals simp +contextual (maxDischargeDepth := 20) [h]

@[simp] theorem good_tagTold {n₀ : Notices} {s : State} (i : BayIx) (recon : Bool) (e : Ending) (h : Good n₀ s) :
    Good n₀ (s.tagTold i recon e) := by
  unfold State.tagTold
  try dsimp only
  repeat' split
  all_goals simp +contextual (maxDischargeDepth := 20) [h]

@[simp] theorem good_scanTold {n₀ : Notices} {s : State}  (h : Good n₀ s) :
    Good n₀ s.scanTold := by
  unfold State.scanTold
  try dsimp only
  repeat' split
  all_goals simp +contextual (maxDischargeDepth := 20) [h]

@[simp] theorem good_reconTold {n₀ : Notices} {s : State} (i : BayIx) (e : Ending) (h : Good n₀ s) :
    Good n₀ (s.reconTold i e) := by
  unfold State.reconTold
  try dsimp only
  repeat' split
  all_goals simp +contextual (maxDischargeDepth := 20) [h]

@[simp] theorem good_lampTold {n₀ : Notices} {s : State} (i : BayIx) (c : Colour) (e : Ending) (h : Good n₀ s) :
    Good n₀ (s.lampTold i c e) := by
  unfold State.lampTold
  try dsimp only
  repeat' split
  all_goals simp +contextual (maxDischargeDepth := 20) [h]

@[simp] theorem good_told {n₀ : Notices} {s : State} (t : Txn) (stale : Bool) (e : Ending) (h : Good n₀ s) :
    Good n₀ (s.told t stale e) := by
  unfold State.told
  try dsimp only
  repeat' split
  all_goals simp +contextual (maxDischargeDepth := 20) [h]

@[simp] theorem good_linkOf {n₀ : Notices} {s : State} (t : Txn) (e : Ending) (h : Good n₀ s) :
    Good n₀ (s.linkOf t e) := by
  unfold State.linkOf
  try dsimp only
  repeat' split
  all_goals simp +contextual (maxDischargeDepth := 20) [h]

@[simp] theorem good_shareOut {n₀ : Notices} {s : State} (t : Txn) (e : Ending) (h : Good n₀ s) :
    Good n₀ (s.shareOut t e) := by
  unfold State.shareOut
  try dsimp only
  repeat' split
  all_goals simp +contextual (maxDischargeDepth := 20) [h]

@[simp] theorem good_ended {n₀ : Notices} {s : State} (t : Txn) (stale : Bool) (e : Ending) (h : Good n₀ s) :
    Good n₀ (s.ended t stale e) := by
  unfold State.ended
  try dsimp only
  all_goals simp +contextual (maxDischargeDepth := 20) [h]

@[simp] theorem good_idleLoop {n₀ : Notices} {s : State}  (h : Good n₀ s) :
    Good n₀ s.idleLoop := by
  unfold State.idleLoop
  try dsimp only
  all_goals simp +contextual (maxDischargeDepth := 20) [h]

@[simp] theorem good_answered {n₀ : Notices} {s : State} (o : OnLoop) (a : Answer) (h : Good n₀ s) :
    Good n₀ (s.answered o a) := by
  unfold State.answered
  try dsimp only
  all_goals simp +contextual (maxDischargeDepth := 20) [h]

@[simp] theorem good_failedAttempt {n₀ : Notices} {s : State} (o : OnLoop) (h : Good n₀ s) :
    Good n₀ (s.failedAttempt o) := by
  unfold State.failedAttempt
  try dsimp only
  repeat' split
  all_goals simp +contextual (maxDischargeDepth := 20) [h]


end Sys2Proof.Machine
end

