-- ==== Sys2Proof/Laws/Supply.lean ====
section
/-! SUPPORT. The pool in force is 0 outside Serving, in Brownout and with the latch set (R6): a recomputation makes it so,
and every operation within an event keeps it so. One lemma for each operation. -/

namespace Sys2Proof.Machine

/-- The pool of R6 is 0 where its steps 9 and 10 say so. -/
theorem poolNow_zero (s : State)
    (h : s.power.state ≠ .serving ∨ s.inlet.cond = .brownout ∨ s.inlet.latch = true) : s.poolNow = 0 := by
  have : s.inlet.cond = .brownout ∨ s.power.state ≠ .serving ∨ s.inlet.latch = true := by tauto
  simp only [State.poolNow, this, if_true]

/-- What a recomputation does to the ground: the pool in force becomes the pool of R6, and nothing else (R7). -/
theorem ground_recomputePool (s : State) :
    s.recomputePool.ground = { s.ground with inForce := s.poolNow } := by
  have h : State.ground { s with pool := { s.pool with inForce := s.poolNow } } =
      { s.ground with inForce := s.poolNow } := rfl
  unfold State.recomputePool
  dsimp only
  rw [← h]
  split <;> split <;> simp only [ground_markPending, ground_fallBelow]

/-- The same by the ground and by what events keep. -/
theorem supply_iff (t : State) : t.SupplySound ↔ (t.ground.power.state ≠ .serving ∨
    t.kept.inlet.cond = .brownout ∨ t.kept.inlet.latch = true → t.ground.inForce = 0) := Iff.rfl

/-- What leaves the ground and what events keep alone keeps the supply sound. -/
theorem supply_of {s t : State} (hk : t.kept = s.kept) (hg : t.ground = s.ground) (h : s.SupplySound) :
    t.SupplySound := by
  have i : t.inlet = s.inlet := congrArg Kept.inlet hk
  have p : t.power = s.power := congrArg Ground.power hg
  have f : t.pool.inForce = s.pool.inForce := congrArg Ground.inForce hg
  unfold State.SupplySound
  rw [i, p, f]; exact h

/-- A recomputation makes it so. -/
@[simp] theorem supply_recomputePool (s : State) : s.recomputePool.SupplySound := by
  rw [supply_iff, kept_recomputePool, ground_recomputePool]
  exact poolNow_zero s

/-- An update of the other parts. -/
@[simp] theorem supply_mk {s : State} (now : Nat) (resetHeld keyswitch : Bool) (round : Round)
    (bays : Vector Bay 36) (cust : CustodyUnit) (arb : Arbiter) (sess : Sessions) (loop : Loop)
    (link : HostLink) (notices : Notices) (settings : Settings) (image : Option SettingsImage)
    (retained : Retained) (pending : List Instr) (h : s.SupplySound) :
    State.SupplySound ⟨now, resetHeld, keyswitch, s.inlet, s.pool, s.power, round, bays, cust, arb, sess, loop,
      link, notices, settings, image, retained, pending⟩ := h

/-- A change of the drain record and of the power timers. -/
@[simp] theorem supply_power {s : State} (now : Nat) (resetHeld keyswitch : Bool) (round : Round)
    (bays : Vector Bay 36) (cust : CustodyUnit) (arb : Arbiter) (sess : Sessions) (loop : Loop)
    (link : HostLink) (notices : Notices) (settings : Settings) (image : Option SettingsImage)
    (retained : Retained) (pending : List Instr) (rideDue settleDue : Option Nat) (drain : Option Drain)
    (settleCause nextCause : RebuildCause) (h : s.SupplySound) :
    State.SupplySound ⟨now, resetHeld, keyswitch, s.inlet, s.pool,
      ⟨s.power.state, rideDue, settleDue, drain, settleCause, nextCause⟩, round, bays, cust, arb, sess, loop,
      link, notices, settings, image, retained, pending⟩ := h

@[simp] theorem supply_foldl {α : Type} (f : State → α → State) (l : List α) {s : State}
    (h : s.SupplySound) (hf : ∀ s a, s.SupplySound → (f s a).SupplySound) : (l.foldl f s).SupplySound := by
  induction l generalizing s with
  | nil => exact h
  | cons a l ih => exact ih (hf s a h)

@[simp] theorem supply_modBay {s : State} (i : BayIx) (f : Bay → Bay) (h : s.SupplySound) :
    (s.modBay i f).SupplySound := h

@[simp] theorem supply_modBays {s : State} (f : BayIx → Bay → Bay) (h : s.SupplySound) :
    (s.modBays f).SupplySound := supply_foldl _ _ h fun _ i h => supply_modBay i (f i) h

@[simp] theorem supply_setSlot {s : State} (k : PulseSlot) (p : Option Pulse) (h : s.SupplySound) :
    (s.setSlot k p).SupplySound := by cases k <;> exact h

@[simp] theorem supply_lines {s : State} (h : s.SupplySound) : s.lines.SupplySound := h

@[simp] theorem supply_raise {s : State} (k : NoticeKind) (bay : Option BayIx) (asset : Option AssetId) (session : Option Nat) (value : Option Nat) (reason : Option Reason) (h : s.SupplySound) :
    (s.raise k bay asset session value reason).SupplySound := by
  unfold State.raise; dsimp only; split <;> exact h

@[simp] theorem supply_place {s : State} (t : Txn) (h : s.SupplySound) :
    (s.place t).SupplySound := supply_of (kept_place s t) (ground_place s t) h

@[simp] theorem supply_withdraw {s : State} (p : Txn → Bool) (h : s.SupplySound) :
    (s.withdraw p).SupplySound := supply_of (kept_withdraw s p) (ground_withdraw s p) h

@[simp] theorem supply_send {s : State} (t : Txn) (h : s.SupplySound) :
    (s.send t).SupplySound := by
  unfold State.send
  try dsimp only
  all_goals simp +contextual (maxDischargeDepth := 20) [h]

@[simp] theorem supply_askBolt {s : State} (i : BayIx) (d : Dir) (h : s.SupplySound) :
    (s.askBolt i d).SupplySound := supply_of (kept_askBolt s i d) (ground_askBolt s i d) h

@[simp] theorem supply_dropBolt {s : State} (i : BayIx) (h : s.SupplySound) :
    (s.dropBolt i).SupplySound := supply_of (kept_dropBolt s i) (ground_dropBolt s i) h

@[simp] theorem supply_markPending {s : State}  (h : s.SupplySound) :
    s.markPending.SupplySound := supply_of (kept_markPending s) (ground_markPending s) h

@[simp] theorem supply_markAtOnce {s : State}  (h : s.SupplySound) :
    s.markAtOnce.SupplySound := supply_of (kept_markAtOnce s) (ground_markAtOnce s) h

@[simp] theorem supply_setGrants {s : State} (i : BayIx) (applied commanded : Nat) (h : s.SupplySound) :
    (s.setGrants i applied commanded).SupplySound := by
  unfold State.setGrants
  try dsimp only
  repeat' split
  all_goals simp +contextual (maxDischargeDepth := 20) [h]

@[simp] theorem supply_refreshShare {s : State} (i : BayIx) (h : s.SupplySound) :
    (s.refreshShare i).SupplySound := supply_of (kept_refreshShare s i) (ground_refreshShare s i) h

@[simp] theorem supply_refreshShares {s : State}  (h : s.SupplySound) :
    s.refreshShares.SupplySound := supply_of (kept_refreshShares s) (ground_refreshShares s) h

@[simp] theorem supply_issueGrant {s : State} (k : GrantKind) (i : BayIx) (w : Nat) (h : s.SupplySound) :
    (s.issueGrant k i w).SupplySound := supply_of (kept_issueGrant s k i w) (ground_issueGrant s k i w) h

@[simp] theorem supply_withdrawGrant {s : State} (i : BayIx) (h : s.SupplySound) :
    (s.withdrawGrant i).SupplySound := supply_of (kept_withdrawGrant s i) (ground_withdrawGrant s i) h

@[simp] theorem supply_endRound {s : State}  (h : s.SupplySound) :
    s.endRound.SupplySound := supply_of (kept_endRound s) (ground_endRound s) h

@[simp] theorem supply_leaveRaise {s : State}  (h : s.SupplySound) :
    s.leaveRaise.SupplySound := supply_of (kept_leaveRaise s) (ground_leaveRaise s) h

@[simp] theorem supply_raiseBay {s : State} (i : BayIx) (h : s.SupplySound) :
    (s.raiseBay i).SupplySound := supply_of (kept_raiseBay s i) (ground_raiseBay s i) h

@[simp] theorem supply_beginRaising {s : State}  (h : s.SupplySound) :
    s.beginRaising.SupplySound := supply_of (kept_beginRaising s) (ground_beginRaising s) h

@[simp] theorem supply_roundOn {s : State}  (h : s.SupplySound) :
    s.roundOn.SupplySound := supply_of (kept_roundOn s) (ground_roundOn s) h

@[simp] theorem supply_takeTargets {s : State}  (h : s.SupplySound) :
    s.takeTargets.SupplySound := supply_of (kept_takeTargets s) (ground_takeTargets s) h

@[simp] theorem supply_lowerBay {s : State} (i : BayIx) (h : s.SupplySound) :
    (s.lowerBay i).SupplySound := supply_of (kept_lowerBay s i) (ground_lowerBay s i) h

@[simp] theorem supply_beginRound {s : State}  (h : s.SupplySound) :
    s.beginRound.SupplySound := supply_of (kept_beginRound s) (ground_beginRound s) h

@[simp] theorem supply_grantEnded {s : State} (k : GrantKind) (i : BayIx) (h : s.SupplySound) :
    (s.grantEnded k i).SupplySound := supply_of (kept_grantEnded s k i) (ground_grantEnded s k i) h

@[simp] theorem supply_cutGrant {s : State} (i : BayIx) (h : s.SupplySound) :
    (s.cutGrant i).SupplySound := supply_of (kept_cutGrant s i) (ground_cutGrant s i) h

@[simp] theorem supply_cutRound {s : State}  (h : s.SupplySound) :
    s.cutRound.SupplySound := supply_of (kept_cutRound s) (ground_cutRound s) h

@[simp] theorem supply_shedAll {s : State}  (h : s.SupplySound) :
    s.shedAll.SupplySound := supply_of (kept_shedAll s) (ground_shedAll s) h

@[simp] theorem supply_abandonRound {s : State}  (h : s.SupplySound) :
    s.abandonRound.SupplySound := supply_of (kept_abandonRound s) (ground_abandonRound s) h

@[simp] theorem supply_emergencyShed {s : State}  (h : s.SupplySound) :
    s.emergencyShed.SupplySound := supply_of (kept_emergencyShed s) (ground_emergencyShed s) h

@[simp] theorem supply_drainShed {s : State}  (h : s.SupplySound) :
    s.drainShed.SupplySound := supply_of (kept_drainShed s) (ground_drainShed s) h

@[simp] theorem supply_fallBelow {s : State}  (h : s.SupplySound) :
    s.fallBelow.SupplySound := supply_of (kept_fallBelow s) (ground_fallBelow s) h

@[simp] theorem supply_judgeEligible {s : State}  (h : s.SupplySound) :
    s.judgeEligible.SupplySound := supply_of (kept_judgeEligible s) (ground_judgeEligible s) h

@[simp] theorem supply_faultGrant {s : State} (i : BayIx) (h : s.SupplySound) :
    (s.faultGrant i).SupplySound := supply_of (kept_faultGrant s i) (ground_faultGrant s i) h

@[simp] theorem supply_dispatchTo {s : State} (c : ChanIx) (x : Session) (h : s.SupplySound) :
    (s.dispatchTo c x).SupplySound := supply_of (kept_dispatchTo s c x) (ground_dispatchTo s c x) h

@[simp] theorem supply_dispatchChan {s : State} (c : ChanIx) (h : s.SupplySound) :
    (s.dispatchChan c).SupplySound := supply_of (kept_dispatchChan s c) (ground_dispatchChan s c) h

@[simp] theorem supply_dispatch {s : State}  (h : s.SupplySound) :
    s.dispatch.SupplySound := supply_of (kept_dispatch s) (ground_dispatch s) h

@[simp] theorem supply_leaveQueue {s : State} (x : Session) (h : s.SupplySound) :
    (s.leaveQueue x).SupplySound := supply_of (kept_leaveQueue s x) (ground_leaveQueue s x) h

@[simp] theorem supply_channelFreed {s : State} (x : Session) (h : s.SupplySound) :
    (s.channelFreed x).SupplySound := supply_of (kept_channelFreed s x) (ground_channelFreed s x) h

@[simp] theorem supply_endSessionAs {s : State} (id : Nat) (o : SessOutcome) (asset : Option AssetId) (h : s.SupplySound) :
    (s.endSessionAs id o asset).SupplySound := supply_of (kept_endSessionAs s id o asset) (ground_endSessionAs s id o asset) h

@[simp] theorem supply_endSession {s : State} (id : Nat) (o : SessOutcome) (h : s.SupplySound) :
    (s.endSession id o).SupplySound := supply_of (kept_endSession s id o) (ground_endSession s id o) h

@[simp] theorem supply_tellRemoval {s : State} (i : BayIx) (asset : Option AssetId) (h : s.SupplySound) :
    (s.tellRemoval i asset).SupplySound := supply_of (kept_tellRemoval s i asset) (ground_tellRemoval s i asset) h

@[simp] theorem supply_sessionMeetsRelease {s : State} (i : BayIx) (h : s.SupplySound) :
    (s.sessionMeetsRelease i).SupplySound := supply_of (kept_sessionMeetsRelease s i) (ground_sessionMeetsRelease s i) h

@[simp] theorem supply_endSessionsIn {s : State} (p : SessState → Bool) (o : SessOutcome) (h : s.SupplySound) :
    (s.endSessionsIn p o).SupplySound := supply_of (kept_endSessionsIn s p o) (ground_endSessionsIn s p o) h

@[simp] theorem supply_admitSession {s : State} (i : BayIx) (k : SessClass) (minCharge idleLimit : Nat) (h : s.SupplySound) :
    (s.admitSession i k minCharge idleLimit).SupplySound := by
  unfold State.admitSession
  exact supply_of (kept_dispatch _) (ground_dispatch _) (supply_mk _ _ _ _ _ _ _ _ _ _ _ _ _ _ _ h)

@[simp] theorem supply_chanOf {s : State} (x : Session) (f : Channel → Channel) (h : s.SupplySound) :
    (s.chanOf x f).SupplySound := supply_of (kept_chanOf s x f) (ground_chanOf s x f) h

@[simp] theorem supply_linkUpSession {s : State} (x : Session) (h : s.SupplySound) :
    (s.linkUpSession x).SupplySound := supply_of (kept_linkUpSession s x) (ground_linkUpSession s x) h

@[simp] theorem supply_progressSession {s : State} (x : Session) (v : Nat) (h : s.SupplySound) :
    (s.progressSession x v).SupplySound := supply_of (kept_progressSession s x v) (ground_progressSession s x v) h

@[simp] theorem supply_finishActive {s : State} (x : Session) (ok : Bool) (h : s.SupplySound) :
    (s.finishActive x ok).SupplySound := supply_of (kept_finishActive s x ok) (ground_finishActive s x ok) h

@[simp] theorem supply_configure {s : State} (c : ChanIx) (new : ChanCfg) (h : s.SupplySound) :
    (s.configure c new).SupplySound := supply_of (kept_configure s c new) (ground_configure s c new) h

@[simp] theorem supply_leaveReady {s : State} (i : BayIx) (why : Option Reason) (h : s.SupplySound) :
    (s.leaveReady i why).SupplySound := supply_of (kept_leaveReady s i why) (ground_leaveReady s i why) h

@[simp] theorem supply_emptyReady {s : State} (why : Reason) (h : s.SupplySound) :
    (s.emptyReady why).SupplySound := supply_of (kept_emptyReady s why) (ground_emptyReady s why) h

@[simp] theorem supply_prepareReady {s : State} (n : Nat) (h : s.SupplySound) :
    (s.prepareReady n).SupplySound := supply_of (kept_prepareReady s n) (ground_prepareReady s n) h

@[simp] theorem supply_dockedOut {s : State} (i : BayIx) (holder : Option Badge) (h : s.SupplySound) :
    (s.dockedOut i holder).SupplySound := supply_of (kept_dockedOut s i holder) (ground_dockedOut s i holder) h

@[simp] theorem supply_dockedMissing {s : State} (i : BayIx) (h : s.SupplySound) :
    (s.dockedMissing i).SupplySound := supply_of (kept_dockedMissing s i) (ground_dockedMissing s i) h

@[simp] theorem supply_dockEntry {s : State} (a : AssetId) (i : BayIx) (h : s.SupplySound) :
    (s.dockEntry a i).SupplySound := supply_of (kept_dockEntry s a i) (ground_dockEntry s a i) h

@[simp] theorem supply_setAsset {s : State} (i : BayIx) (a : Option AssetId) (st : Option Standing) (h : s.SupplySound) :
    (s.setAsset i a st).SupplySound := supply_of (kept_setAsset s i a st) (ground_setAsset s i a st) h

@[simp] theorem supply_dropTag {s : State} (i : BayIx) (h : s.SupplySound) :
    (s.dropTag i).SupplySound := supply_of (kept_dropTag s i) (ground_dropTag s i) h

@[simp] theorem supply_stopSeating {s : State} (i : BayIx) (h : s.SupplySound) :
    (s.stopSeating i).SupplySound := supply_of (kept_stopSeating s i) (ground_stopSeating s i) h

@[simp] theorem supply_stopWindow {s : State} (i : BayIx) (h : s.SupplySound) :
    (s.stopWindow i).SupplySound := supply_of (kept_stopWindow s i) (ground_stopWindow s i) h

@[simp] theorem supply_become {s : State} (i : BayIx) (c : Custody) (h : s.SupplySound) :
    (s.become i c).SupplySound := supply_of (kept_become s i c) (ground_become s i c) h

@[simp] theorem supply_clearBay {s : State} (i : BayIx) (h : s.SupplySound) :
    (s.clearBay i).SupplySound := supply_of (kept_clearBay s i) (ground_clearBay s i) h

@[simp] theorem supply_engageBay {s : State} (i : BayIx) (h : s.SupplySound) :
    (s.engageBay i).SupplySound := supply_of (kept_engageBay s i) (ground_engageBay s i) h

@[simp] theorem supply_secureBay {s : State} (i : BayIx) (h : s.SupplySound) :
    (s.secureBay i).SupplySound := supply_of (kept_secureBay s i) (ground_secureBay s i) h

@[simp] theorem supply_dropRelease {s : State} (i : BayIx) (h : s.SupplySound) :
    (s.dropRelease i).SupplySound := supply_of (kept_dropRelease s i) (ground_dropRelease s i) h

@[simp] theorem supply_sayCancelled {s : State} (i : BayIx) (why : Reason) (h : s.SupplySound) :
    (s.sayCancelled i why).SupplySound := supply_of (kept_sayCancelled s i why) (ground_sayCancelled s i why) h

@[simp] theorem supply_drainReleasing {s : State} (i : BayIx) (why : Reason) (h : s.SupplySound) :
    (s.drainReleasing i why).SupplySound := supply_of (kept_drainReleasing s i why) (ground_drainReleasing s i why) h

@[simp] theorem supply_drainReleased {s : State} (i : BayIx) (why : Reason) (h : s.SupplySound) :
    (s.drainReleased i why).SupplySound := supply_of (kept_drainReleased s i why) (ground_drainReleased s i why) h

@[simp] theorem supply_drainMind {s : State} (i : BayIx) (h : s.SupplySound) :
    (s.drainMind i).SupplySound := supply_of (kept_drainMind s i) (ground_drainMind s i) h

@[simp] theorem supply_openWindow {s : State} (i : BayIx) (h : s.SupplySound) :
    (s.openWindow i).SupplySound := supply_of (kept_openWindow s i) (ground_openWindow s i) h

@[simp] theorem supply_acceptRelease {s : State} (i : BayIx) (seconds : Nat) (holder : Option Badge) (origin : ReleaseOrigin) (h : s.SupplySound) :
    (s.acceptRelease i seconds holder origin).SupplySound := supply_of (kept_acceptRelease s i seconds holder origin) (ground_acceptRelease s i seconds holder origin) h

@[simp] theorem supply_takeTablet {s : State} (i : BayIx) (holder : Option Badge) (why : Reason) (value : Nat) (h : s.SupplySound) :
    (s.takeTablet i holder why value).SupplySound := supply_of (kept_takeTablet s i holder why value) (ground_takeTablet s i holder why value) h

@[simp] theorem supply_windowEnds {s : State} (i : BayIx) (h : s.SupplySound) :
    (s.windowEnds i).SupplySound := supply_of (kept_windowEnds s i) (ground_windowEnds s i) h

@[simp] theorem supply_sayTamper {s : State} (i : BayIx) (why : Reason) (h : s.SupplySound) :
    (s.sayTamper i why).SupplySound := supply_of (kept_sayTamper s i why) (ground_sayTamper s i why) h

@[simp] theorem supply_mendBolt {s : State} (i : BayIx) (bolt : Bolt) (h : s.SupplySound) :
    (s.mendBolt i bolt).SupplySound := supply_of (kept_mendBolt s i bolt) (ground_mendBolt s i bolt) h

@[simp] theorem supply_judgeVacant {s : State} (i : BayIx) (presence : Bool) (bolt : Bolt) (h : s.SupplySound) :
    (s.judgeVacant i presence bolt).SupplySound := supply_of (kept_judgeVacant s i presence bolt) (ground_judgeVacant s i presence bolt) h

@[simp] theorem supply_judgeSeating {s : State} (i : BayIx) (presence : Bool) (h : s.SupplySound) :
    (s.judgeSeating i presence).SupplySound := supply_of (kept_judgeSeating s i presence) (ground_judgeSeating s i presence) h

@[simp] theorem supply_markGone {s : State} (i : BayIx) (h : s.SupplySound) :
    (s.markGone i).SupplySound := supply_of (kept_markGone s i) (ground_markGone s i) h

@[simp] theorem supply_judgeSecuring {s : State} (i : BayIx) (h : s.SupplySound) :
    (s.judgeSecuring i).SupplySound := supply_of (kept_judgeSecuring s i) (ground_judgeSecuring s i) h

@[simp] theorem supply_judgeLocked {s : State} (i : BayIx) (presence : Bool) (bolt : Bolt) (h : s.SupplySound) :
    (s.judgeLocked i presence bolt).SupplySound := supply_of (kept_judgeLocked s i presence bolt) (ground_judgeLocked s i presence bolt) h

@[simp] theorem supply_judgeReleasing {s : State} (i : BayIx) (h : s.SupplySound) :
    (s.judgeReleasing i).SupplySound := supply_of (kept_judgeReleasing s i) (ground_judgeReleasing s i) h

@[simp] theorem supply_judgeReleased {s : State} (i : BayIx) (presence : Bool) (bolt : Bolt) (h : s.SupplySound) :
    (s.judgeReleased i presence bolt).SupplySound := supply_of (kept_judgeReleased s i presence bolt) (ground_judgeReleased s i presence bolt) h

@[simp] theorem supply_removeHeld {s : State} (i : BayIx) (h : s.SupplySound) :
    (s.removeHeld i).SupplySound := supply_of (kept_removeHeld s i) (ground_removeHeld s i) h

@[simp] theorem supply_loseJammed {s : State} (i : BayIx) (h : s.SupplySound) :
    (s.loseJammed i).SupplySound := supply_of (kept_loseJammed s i) (ground_loseJammed s i) h

@[simp] theorem supply_judge {s : State} (i : BayIx) (presence : Bool) (bolt : Bolt) (h : s.SupplySound) :
    (s.judge i presence bolt).SupplySound := supply_of (kept_judge s i presence bolt) (ground_judge s i presence bolt) h

@[simp] theorem supply_buttonPress {s : State} (i : BayIx) (latch : Bool) (h : s.SupplySound) :
    (s.buttonPress i latch).SupplySound := supply_of (kept_buttonPress s i latch) (ground_buttonPress s i latch) h

@[simp] theorem supply_holdBay {s : State} (i : BayIx) (r : HeldReason) (a : Option AssetId) (st : Option Standing) (h : s.SupplySound) :
    (s.holdBay i r a st).SupplySound := supply_of (kept_holdBay s i r a st) (ground_holdBay s i r a st) h

@[simp] theorem supply_dockBay {s : State} (i : BayIx) (a : AssetId) (e : Entry) (k : NoticeKind) (value : Option Nat) (h : s.SupplySound) :
    (s.dockBay i a e k value).SupplySound := supply_of (kept_dockBay s i a e k value) (ground_dockBay s i a e k value) h

@[simp] theorem supply_identified {s : State} (i : BayIx) (id : Option AssetId) (h : s.SupplySound) :
    (s.identified i id).SupplySound := supply_of (kept_identified s i id) (ground_identified s i id) h

@[simp] theorem supply_engageDone {s : State} (i : BayIx) (h : s.SupplySound) :
    (s.engageDone i).SupplySound := supply_of (kept_engageDone s i) (ground_engageDone s i) h

@[simp] theorem supply_retractDone {s : State} (i : BayIx) (h : s.SupplySound) :
    (s.retractDone i).SupplySound := supply_of (kept_retractDone s i) (ground_retractDone s i) h

@[simp] theorem supply_pulseReport {s : State} (i : BayIx) (d : Dir) (ok : Bool) (h : s.SupplySound) :
    (s.pulseReport i d ok).SupplySound := supply_of (kept_pulseReport s i d ok) (ground_pulseReport s i d ok) h

@[simp] theorem supply_unjam {s : State} (i : BayIx) (h : s.SupplySound) :
    (s.unjam i).SupplySound := supply_of (kept_unjam s i) (ground_unjam s i) h

@[simp] theorem supply_compareLamp {s : State} (i : BayIx) (h : s.SupplySound) :
    (s.compareLamp i).SupplySound := supply_of (kept_compareLamp s i) (ground_compareLamp s i) h

@[simp] theorem supply_deriveLamp {s : State} (i : BayIx) (h : s.SupplySound) :
    (s.deriveLamp i).SupplySound := supply_of (kept_deriveLamp s i) (ground_deriveLamp s i) h

@[simp] theorem supply_deriveLamps {s : State}  (h : s.SupplySound) :
    s.deriveLamps.SupplySound := supply_of (kept_deriveLamps s) (ground_deriveLamps s) h

@[simp] theorem supply_loopPowerOff {s : State}  (h : s.SupplySound) :
    s.loopPowerOff.SupplySound := by
  unfold State.loopPowerOff
  try dsimp only
  repeat' split
  all_goals simp +contextual (maxDischargeDepth := 20) [h]

@[simp] theorem supply_enterSettling {s : State}  (h : s.SupplySound) :
    s.enterSettling.SupplySound := by
  unfold State.enterSettling
  try dsimp only
  all_goals simp +contextual (maxDischargeDepth := 20)

@[simp] theorem supply_beginDrain {s : State} (k : DrainKind) (h : s.SupplySound) :
    (s.beginDrain k).SupplySound := by
  unfold State.beginDrain
  try dsimp only
  repeat' split
  all_goals simp +contextual (maxDischargeDepth := 20) [h]

@[simp] theorem supply_powerUp {s : State} (r : Rebuild) (h : s.SupplySound) :
    (s.powerUp r).SupplySound := by
  unfold State.powerUp
  try dsimp only
  all_goals simp +contextual (maxDischargeDepth := 20) [h]

@[simp] theorem supply_enterPowerOff {s : State}  (h : s.SupplySound) :
    s.enterPowerOff.SupplySound := by
  unfold State.enterPowerOff
  try dsimp only
  repeat' split
  all_goals simp +contextual (maxDischargeDepth := 20) [h]

@[simp] theorem supply_startRebuild {s : State} (c : RebuildCause) (h : s.SupplySound) :
    (s.startRebuild c).SupplySound := by
  unfold State.startRebuild
  try dsimp only
  repeat' split
  all_goals simp +contextual (maxDischargeDepth := 20) [h]

@[simp] theorem supply_throughTransit {s : State}  (h : s.SupplySound) :
    s.throughTransit.SupplySound := by
  unfold State.throughTransit
  try dsimp only
  repeat' split
  all_goals simp +contextual (maxDischargeDepth := 20) [h]

@[simp] theorem supply_enterTransit {s : State}  (h : s.SupplySound) :
    s.enterTransit.SupplySound := by
  unfold State.enterTransit
  try dsimp only
  all_goals simp +contextual (maxDischargeDepth := 20)

@[simp] theorem supply_endDrain {s : State}  (h : s.SupplySound) :
    s.endDrain.SupplySound := by
  unfold State.endDrain
  try dsimp only
  repeat' split
  all_goals simp +contextual (maxDischargeDepth := 20) [h]

@[simp] theorem supply_drainCheck {s : State}  (h : s.SupplySound) :
    s.drainCheck.SupplySound := by
  unfold State.drainCheck
  try dsimp only
  repeat' split
  all_goals simp +contextual (maxDischargeDepth := 20) [h]

@[simp] theorem supply_abandonRebuild {s : State}  (h : s.SupplySound) :
    s.abandonRebuild.SupplySound := by
  unfold State.abandonRebuild
  try dsimp only
  repeat' split
  all_goals simp +contextual (maxDischargeDepth := 20) [h]

@[simp] theorem supply_autoCheck {s : State}  (h : s.SupplySound) :
    s.autoCheck.SupplySound := by
  unfold State.autoCheck
  try dsimp only
  repeat' split
  all_goals simp +contextual (maxDischargeDepth := 20) [h]

@[simp] theorem supply_enterRiding {s : State}  (h : s.SupplySound) :
    s.enterRiding.SupplySound := by
  unfold State.enterRiding
  try dsimp only
  all_goals simp +contextual (maxDischargeDepth := 20)

@[simp] theorem supply_dropSettling {s : State}  (h : s.SupplySound) :
    s.dropSettling.SupplySound := by
  unfold State.dropSettling
  try dsimp only
  repeat' split
  all_goals simp +contextual (maxDischargeDepth := 20)

@[simp] theorem supply_dropout {s : State}  (h : s.SupplySound) :
    s.dropout.SupplySound := by
  unfold State.dropout
  try dsimp only
  repeat' split
  all_goals simp +contextual (maxDischargeDepth := 20) [h]

@[simp] theorem supply_resumeServing {s : State}  (h : s.SupplySound) :
    s.resumeServing.SupplySound := by
  unfold State.resumeServing
  try dsimp only
  all_goals simp +contextual (maxDischargeDepth := 20)

@[simp] theorem supply_restoration {s : State}  (h : s.SupplySound) :
    s.restoration.SupplySound := by
  unfold State.restoration
  try dsimp only
  repeat' split
  all_goals simp +contextual (maxDischargeDepth := 20) [h]

@[simp] theorem supply_unmark {s : State} (i : BayIx) (h : s.SupplySound) :
    (s.unmark i).SupplySound := by
  unfold State.unmark
  try dsimp only
  repeat' split
  all_goals simp +contextual (maxDischargeDepth := 20) [h]

@[simp] theorem supply_abandonRecon {s : State}  (h : s.SupplySound) :
    s.abandonRecon.SupplySound := by
  unfold State.abandonRecon
  try dsimp only
  repeat' split
  all_goals simp +contextual (maxDischargeDepth := 20) [h]

@[simp] theorem supply_rideOut {s : State}  (h : s.SupplySound) :
    s.rideOut.SupplySound := by
  unfold State.rideOut
  try dsimp only
  all_goals simp +contextual (maxDischargeDepth := 20)

@[simp] theorem supply_leaveEmpty {s : State} (i : BayIx) (bolt : Bolt) (h : s.SupplySound) :
    (s.leaveEmpty i bolt).SupplySound := by
  unfold State.leaveEmpty
  try dsimp only
  repeat' split
  all_goals simp +contextual (maxDischargeDepth := 20) [h]

@[simp] theorem supply_mendHeld {s : State} (i : BayIx) (bolt : Bolt) (h : s.SupplySound) :
    (s.mendHeld i bolt).SupplySound := by
  unfold State.mendHeld
  try dsimp only
  repeat' split
  all_goals simp +contextual (maxDischargeDepth := 20) [h]

@[simp] theorem supply_mismatch {s : State} (i : BayIx) (why : Reason) (h : s.SupplySound) :
    (s.mismatch i why).SupplySound := by
  unfold State.mismatch
  try dsimp only
  all_goals simp +contextual (maxDischargeDepth := 20) [h]

@[simp] theorem supply_foundGone {s : State} (i : BayIx) (bolt : Bolt) (h : s.SupplySound) :
    (s.foundGone i bolt).SupplySound := by
  unfold State.foundGone
  try dsimp only
  all_goals simp +contextual (maxDischargeDepth := 20) [h]

@[simp] theorem supply_foundSwapped {s : State} (i : BayIx) (bolt : Bolt) (r : HeldReason) (read : Option AssetId) (h : s.SupplySound) :
    (s.foundSwapped i bolt r read).SupplySound := by
  unfold State.foundSwapped
  try dsimp only
  all_goals simp +contextual (maxDischargeDepth := 20) [h]

@[simp] theorem supply_foundTaken {s : State} (i : BayIx) (bolt : Bolt) (h : s.SupplySound) :
    (s.foundTaken i bolt).SupplySound := by
  unfold State.foundTaken
  try dsimp only
  all_goals simp +contextual (maxDischargeDepth := 20) [h]

@[simp] theorem supply_decideKept {s : State} (i : BayIx) (presence : Bool) (bolt : Bolt) (read : Option AssetId) (h : s.SupplySound) :
    (s.decideKept i presence bolt read).SupplySound := by
  unfold State.decideKept
  try dsimp only
  repeat' split
  all_goals simp +contextual (maxDischargeDepth := 20) [h]

@[simp] theorem supply_decideHeld {s : State} (i : BayIx) (presence : Bool) (bolt : Bolt) (read : Option AssetId) (h : s.SupplySound) :
    (s.decideHeld i presence bolt read).SupplySound := by
  unfold State.decideHeld
  try dsimp only
  repeat' split
  all_goals simp +contextual (maxDischargeDepth := 20) [h]

@[simp] theorem supply_decideEmpty {s : State} (i : BayIx) (presence : Bool) (bolt : Bolt) (h : s.SupplySound) :
    (s.decideEmpty i presence bolt).SupplySound := by
  unfold State.decideEmpty
  try dsimp only
  repeat' split
  all_goals simp +contextual (maxDischargeDepth := 20) [h]

@[simp] theorem supply_decideOpen {s : State} (i : BayIx) (presence : Bool) (bolt : Bolt) (h : s.SupplySound) :
    (s.decideOpen i presence bolt).SupplySound := by
  unfold State.decideOpen
  try dsimp only
  repeat' split
  all_goals simp +contextual (maxDischargeDepth := 20) [h]

@[simp] theorem supply_decideWarm {s : State} (i : BayIx) (presence : Bool) (bolt : Bolt) (read : Option AssetId) (h : s.SupplySound) :
    (s.decideWarm i presence bolt read).SupplySound := by
  unfold State.decideWarm
  try dsimp only
  repeat' split
  all_goals simp +contextual (maxDischargeDepth := 20) [h]

@[simp] theorem supply_decideCold {s : State} (i : BayIx) (presence : Bool) (bolt : Bolt) (h : s.SupplySound) :
    (s.decideCold i presence bolt).SupplySound := by
  unfold State.decideCold
  try dsimp only
  repeat' split
  all_goals simp +contextual (maxDischargeDepth := 20) [h]

@[simp] theorem supply_decide {s : State} (i : BayIx) (read : Option AssetId) (h : s.SupplySound) :
    (s.decide i read).SupplySound := by
  unfold State.decide
  try dsimp only
  repeat' split
  all_goals simp +contextual (maxDischargeDepth := 20) [h]

@[simp] theorem supply_reconReport {s : State} (i : BayIx) (h : s.SupplySound) :
    (s.reconReport i).SupplySound := by
  unfold State.reconReport
  try dsimp only
  repeat' split
  all_goals simp +contextual (maxDischargeDepth := 20) [h]

@[simp] theorem supply_reconBay {s : State} (count : Nat) (i : BayIx) (h : s.SupplySound) :
    (s.reconBay count i).SupplySound := by
  unfold State.reconBay
  try dsimp only
  repeat' split
  all_goals simp +contextual (maxDischargeDepth := 20) [h]

@[simp] theorem supply_beginRecon {s : State} (c : RebuildCause) (count : Nat) (h : s.SupplySound) :
    (s.beginRecon c count).SupplySound := by
  unfold State.beginRecon
  try dsimp only
  repeat' split
  all_goals simp +contextual (maxDischargeDepth := 20) [h]

@[simp] theorem supply_leaveTransit {s : State}  (h : s.SupplySound) :
    s.leaveTransit.SupplySound := by
  unfold State.leaveTransit
  try dsimp only
  repeat' split
  all_goals simp +contextual (maxDischargeDepth := 20) [h]

@[simp] theorem supply_endRecon {s : State}  (h : s.SupplySound) :
    s.endRecon.SupplySound := by
  unfold State.endRecon
  try dsimp only
  all_goals simp +contextual (maxDischargeDepth := 20) [h]

@[simp] theorem supply_reconCheck {s : State}  (h : s.SupplySound) :
    s.reconCheck.SupplySound := by
  unfold State.reconCheck
  try dsimp only
  repeat' split
  all_goals simp +contextual (maxDischargeDepth := 20) [h]

@[simp] theorem supply_leaveBeyond {s : State} (m : Nat) (i : BayIx) (h : s.SupplySound) :
    (s.leaveBeyond m i).SupplySound := by
  unfold State.leaveBeyond
  try dsimp only
  repeat' split
  all_goals simp +contextual (maxDischargeDepth := 20) [h]

@[simp] theorem supply_scanPlace {s : State} (i : BayIx) (rest : List BayIx) (h : s.SupplySound) :
    (s.scanPlace i rest).SupplySound := by
  unfold State.scanPlace
  all_goals simp +contextual (maxDischargeDepth := 20) [h]

@[simp] theorem supply_startPass {s : State} (h : s.SupplySound) : s.startPass.SupplySound := by
  unfold State.startPass
  dsimp only
  split
  all_goals simp +contextual (maxDischargeDepth := 20) [h]

@[simp] theorem supply_freshPass {s : State} (h : s.SupplySound) : s.freshPass.SupplySound := by
  unfold State.freshPass
  all_goals simp +contextual (maxDischargeDepth := 20) [h]

@[simp] theorem supply_endRebuild {s : State} (m : Nat) (h : s.SupplySound) :
    (s.endRebuild m).SupplySound := by
  unfold State.endRebuild
  try dsimp only
  repeat' split
  all_goals simp +contextual (maxDischargeDepth := 20) [h]

@[simp] theorem supply_modRebuild {s : State} (f : Rebuild → Rebuild) (h : s.SupplySound) :
    (s.modRebuild f).SupplySound := by
  unfold State.modRebuild
  try dsimp only
  all_goals simp +contextual (maxDischargeDepth := 20) [h]

@[simp] theorem supply_discover {s : State} (p : BayIx) (h : s.SupplySound) :
    (s.discover p).SupplySound := by
  unfold State.discover
  try dsimp only
  all_goals simp +contextual (maxDischargeDepth := 20) [h]

@[simp] theorem supply_discIdentified {s : State} (p : BayIx) (serial : Option Serial) (h : s.SupplySound) :
    (s.discIdentified p serial).SupplySound := by
  unfold State.discIdentified
  try dsimp only
  repeat' split
  all_goals simp +contextual (maxDischargeDepth := 20) [h]

@[simp] theorem supply_discAssigned {s : State} (p : BayIx) (ok : Bool) (h : s.SupplySound) :
    (s.discAssigned p ok).SupplySound := by
  unfold State.discAssigned
  try dsimp only
  repeat' split
  all_goals simp +contextual (maxDischargeDepth := 20) [h]

@[simp] theorem supply_discPassed {s : State} (p : BayIx) (ok : Bool) (h : s.SupplySound) :
    (s.discPassed p ok).SupplySound := by
  unfold State.discPassed
  try dsimp only
  repeat' split
  all_goals simp +contextual (maxDischargeDepth := 20) [h]

@[simp] theorem supply_probed {s : State} (p : BayIx) (ok : Bool) (h : s.SupplySound) :
    (s.probed p ok).SupplySound := by
  unfold State.probed
  try dsimp only
  all_goals simp +contextual (maxDischargeDepth := 20) [h]

@[simp] theorem supply_startAttempt {s : State} (k : PulseSlot) (p : Pulse) (h : s.SupplySound) :
    (s.startAttempt k p).SupplySound := supply_of (kept_startAttempt s k p) (ground_startAttempt s k p) h

@[simp] theorem supply_grantSlot {s : State}  (h : s.SupplySound) :
    s.grantSlot.SupplySound := supply_of (kept_grantSlot s) (ground_grantSlot s) h

@[simp] theorem supply_grantSlots {s : State}  (h : s.SupplySound) :
    s.grantSlots.SupplySound := supply_of (kept_grantSlots s) (ground_grantSlots s) h

@[simp] theorem supply_settle {s : State}  (h : s.SupplySound) :
    s.settle.SupplySound := by
  unfold State.settle
  try dsimp only
  all_goals simp +contextual (maxDischargeDepth := 20) [h]

@[simp] theorem supply_linkLost {s : State} (i : BayIx) (h : s.SupplySound) :
    (s.linkLost i).SupplySound := by
  unfold State.linkLost
  try dsimp only
  all_goals simp +contextual (maxDischargeDepth := 20) [h]

@[simp] theorem supply_relink {s : State} (i : BayIx) (h : s.SupplySound) :
    (s.relink i).SupplySound := by
  unfold State.relink
  try dsimp only
  all_goals simp +contextual (maxDischargeDepth := 20) [h]

@[simp] theorem supply_heard {s : State} (i : BayIx) (h : s.SupplySound) :
    (s.heard i).SupplySound := by
  unfold State.heard
  try dsimp only
  repeat' split
  all_goals simp +contextual (maxDischargeDepth := 20) [h]

@[simp] theorem supply_missed {s : State} (i : BayIx) (h : s.SupplySound) :
    (s.missed i).SupplySound := by
  unfold State.missed
  try dsimp only
  repeat' split
  all_goals simp +contextual (maxDischargeDepth := 20) [h]

@[simp] theorem supply_takeOverdraw {s : State} (i : BayIx) (why : Reason) (h : s.SupplySound) :
    (s.takeOverdraw i why).SupplySound := by
  unfold State.takeOverdraw
  try dsimp only
  all_goals simp +contextual (maxDischargeDepth := 20) [h]

@[simp] theorem supply_testOverdraw {s : State} (i : BayIx) (h : s.SupplySound) :
    (s.testOverdraw i).SupplySound := by
  unfold State.testOverdraw
  try dsimp only
  repeat' split
  all_goals simp +contextual (maxDischargeDepth := 20) [h]

@[simp] theorem supply_testShort {s : State} (i : BayIx) (h : s.SupplySound) :
    (s.testShort i).SupplySound := by
  unfold State.testShort
  try dsimp only
  repeat' split
  all_goals simp +contextual (maxDischargeDepth := 20) [h]

@[simp] theorem supply_takeHot {s : State} (i : BayIx) (h : s.SupplySound) :
    (s.takeHot i).SupplySound := by
  unfold State.takeHot
  try dsimp only
  all_goals simp +contextual (maxDischargeDepth := 20) [h]

@[simp] theorem supply_testHot {s : State} (i : BayIx) (h : s.SupplySound) :
    (s.testHot i).SupplySound := by
  unfold State.testHot
  try dsimp only
  repeat' split
  all_goals simp +contextual (maxDischargeDepth := 20) [h]

@[simp] theorem supply_storeCharge {s : State} (i : BayIx) (k : Block) (h : s.SupplySound) :
    (s.storeCharge i k).SupplySound := by
  unfold State.storeCharge
  try dsimp only
  repeat' split
  all_goals simp +contextual (maxDischargeDepth := 20) [h]

@[simp] theorem supply_applyCharge {s : State} (i : BayIx) (k : Block) (h : s.SupplySound) :
    (s.applyCharge i k).SupplySound := by
  unfold State.applyCharge
  try dsimp only
  repeat' split
  all_goals simp +contextual (maxDischargeDepth := 20) [h]

@[simp] theorem supply_custodyReport {s : State} (i : BayIx) (k : Block) (h : s.SupplySound) :
    (s.custodyReport i k).SupplySound := by
  unfold State.custodyReport
  try dsimp only
  repeat' split
  all_goals simp +contextual (maxDischargeDepth := 20) [h]

@[simp] theorem supply_distribute {s : State} (i : BayIx) (k : Block) (h : s.SupplySound) :
    (s.distribute i k).SupplySound := by
  unfold State.distribute
  try dsimp only
  all_goals simp +contextual (maxDischargeDepth := 20) [h]

@[simp] theorem supply_clearOutstanding {s : State} (i : BayIx) (h : s.SupplySound) :
    (s.clearOutstanding i).SupplySound := supply_of (kept_clearOutstanding s i) (ground_clearOutstanding s i) h

@[simp] theorem supply_grantTold {s : State} (k : GrantKind) (i : BayIx) (e : Ending) (h : s.SupplySound) :
    (s.grantTold k i e).SupplySound := by
  unfold State.grantTold
  try dsimp only
  repeat' split
  all_goals simp +contextual (maxDischargeDepth := 20) [h]

@[simp] theorem supply_endPulse {s : State} (k : PulseSlot) (p : Pulse) (ok : Bool) (h : s.SupplySound) :
    (s.endPulse k p ok).SupplySound := supply_of (kept_endPulse s k p ok) (ground_endPulse s k p ok) h

@[simp] theorem supply_attemptFailed {s : State} (k : PulseSlot) (p : Pulse) (h : s.SupplySound) :
    (s.attemptFailed k p).SupplySound := supply_of (kept_attemptFailed s k p) (ground_attemptFailed s k p) h

@[simp] theorem supply_lockTold {s : State} (k : PulseSlot) (ms : Nat) (e : Ending) (h : s.SupplySound) :
    (s.lockTold k ms e).SupplySound := supply_of (kept_lockTold s k ms e) (ground_lockTold s k ms e) h

@[simp] theorem supply_verifyTold {s : State} (k : PulseSlot) (e : Ending) (h : s.SupplySound) :
    (s.verifyTold k e).SupplySound := supply_of (kept_verifyTold s k e) (ground_verifyTold s k e) h

@[simp] theorem supply_readEnds {s : State} (i : BayIx) (recon : Bool) (id : Option AssetId) (h : s.SupplySound) :
    (s.readEnds i recon id).SupplySound := by
  unfold State.readEnds
  try dsimp only
  repeat' split
  all_goals simp +contextual (maxDischargeDepth := 20) [h]

@[simp] theorem supply_tagTold {s : State} (i : BayIx) (recon : Bool) (e : Ending) (h : s.SupplySound) :
    (s.tagTold i recon e).SupplySound := by
  unfold State.tagTold
  try dsimp only
  repeat' split
  all_goals simp +contextual (maxDischargeDepth := 20) [h]

@[simp] theorem supply_scanTold {s : State}  (h : s.SupplySound) :
    s.scanTold.SupplySound := by
  unfold State.scanTold
  try dsimp only
  repeat' split
  all_goals simp +contextual (maxDischargeDepth := 20) [h]

@[simp] theorem supply_reconTold {s : State} (i : BayIx) (e : Ending) (h : s.SupplySound) :
    (s.reconTold i e).SupplySound := by
  unfold State.reconTold
  try dsimp only
  repeat' split
  all_goals simp +contextual (maxDischargeDepth := 20) [h]

@[simp] theorem supply_lampTold {s : State} (i : BayIx) (c : Colour) (e : Ending) (h : s.SupplySound) :
    (s.lampTold i c e).SupplySound := by
  unfold State.lampTold
  try dsimp only
  repeat' split
  all_goals simp +contextual (maxDischargeDepth := 20) [h]

@[simp] theorem supply_told {s : State} (t : Txn) (stale : Bool) (e : Ending) (h : s.SupplySound) :
    (s.told t stale e).SupplySound := by
  unfold State.told
  try dsimp only
  repeat' split
  all_goals simp +contextual (maxDischargeDepth := 20) [h]

@[simp] theorem supply_linkOf {s : State} (t : Txn) (e : Ending) (h : s.SupplySound) :
    (s.linkOf t e).SupplySound := by
  unfold State.linkOf
  try dsimp only
  repeat' split
  all_goals simp +contextual (maxDischargeDepth := 20) [h]

@[simp] theorem supply_shareOut {s : State} (t : Txn) (e : Ending) (h : s.SupplySound) :
    (s.shareOut t e).SupplySound := by
  unfold State.shareOut
  try dsimp only
  repeat' split
  all_goals simp +contextual (maxDischargeDepth := 20) [h]

@[simp] theorem supply_ended {s : State} (t : Txn) (stale : Bool) (e : Ending) (h : s.SupplySound) :
    (s.ended t stale e).SupplySound := by
  unfold State.ended
  try dsimp only
  all_goals simp +contextual (maxDischargeDepth := 20) [h]

@[simp] theorem supply_idleLoop {s : State}  (h : s.SupplySound) :
    s.idleLoop.SupplySound := by
  unfold State.idleLoop
  try dsimp only
  all_goals simp +contextual (maxDischargeDepth := 20) [h]

@[simp] theorem supply_answered {s : State} (o : OnLoop) (a : Answer) (h : s.SupplySound) :
    (s.answered o a).SupplySound := by
  unfold State.answered
  try dsimp only
  all_goals simp +contextual (maxDischargeDepth := 20) [h]

@[simp] theorem supply_failedAttempt {s : State} (o : OnLoop) (h : s.SupplySound) :
    (s.failedAttempt o).SupplySound := by
  unfold State.failedAttempt
  try dsimp only
  repeat' split
  all_goals simp +contextual (maxDischargeDepth := 20) [h]


end Sys2Proof.Machine
end

