-- ==== Sys2Proof/Laws/Inlet.lean ====
section
/-! SUPPORT. What the work of the Inlet Monitor does to the inlet and to what events keep, and that it keeps notices,
arbiter, sessions and the pool in force sound. -/

namespace Sys2Proof.Machine

/-! ### What it does to the inlet -/

/-- The inlet after a voltage sample (R1 to R3). -/
def Inlet.afterVoltage (x : Inlet) (v : Nat) : Inlet :=
  let ring := pushRing x.voltRing v
  let restores : Bool := x.cond = .lost && 90 ≤ v && 1 ≤ x.restoreCount
  { x with
    voltRing := if restores then ring.drop (ring.length - 2) else ring
    cond :=
      if v < 70 then .lost
      else if x.cond = .lost then if restores then .normal else .lost
      else if ringMean ring < 90 then .brownout
      else .normal
    restoreCount :=
      if v < 90 then 0
      else if x.cond = .lost then if restores then 0 else x.restoreCount + 1
      else x.restoreCount }

/-- A condition or a latch put where it stands. -/
theorem Inlet.same_cond {x : Inlet} {c : InletCond} (h : x.cond = c) : { x with cond := c } = x := by
  subst h; rfl
theorem Inlet.same_latch {x : Inlet} {b : Bool} (h : x.latch = b) : { x with latch := b } = x := by
  subst h; rfl

/-- The brownout test changes the condition alone of what events keep (R3). -/
@[simp] theorem kept_brownoutTest (s : State) :
    s.brownoutTest.kept =
      { s.kept with
        inlet := { s.inlet with
          cond :=
            if s.inlet.cond = .lost then .lost
            else if s.vin < 90 then .brownout
            else .normal } } := by
  unfold State.brownoutTest
  cases e : s.inlet.cond
  · show s.kept = _
    simp [State.kept, ← e]
  · dsimp only
    split
    · rw [kept_recomputePool, kept_raise]; simp [State.kept]
    · rw [if_neg (by simp), Inlet.same_cond e]; rfl
  · dsimp only
    split
    · rw [kept_recomputePool]
      have : ¬ s.vin < 90 := by omega
      simp [State.kept, this]
    · have : s.vin < 90 := by omega
      rw [if_neg (by simp), if_pos this, Inlet.same_cond e]; rfl

/-- A voltage sample changes the inlet alone of what events keep (R1 to R3). -/
@[simp] theorem kept_takeVoltage (s : State) (volts : Nat) :
    (s.takeVoltage volts).kept = { s.kept with inlet := s.inlet.afterVoltage (min volts 300) } := by
  unfold State.takeVoltage State.judgeVoltage State.dropoutSample
  generalize min volts 300 = v
  dsimp only
  split
  · rename_i lt
    have a : v < 90 := by omega
    have b : ¬ 90 ≤ v := by omega
    split <;> simp only [kept_dropout, kept_recomputePool] <;>
      simp [State.kept, Inlet.afterVoltage, lt, a, b]
  · rename_i ge
    split
    · rename_i lt
      have b : ¬ 90 ≤ v := by omega
      rw [kept_brownoutTest]
      cases e : s.inlet.cond <;>
        simp [State.kept, Inlet.afterVoltage, State.vin, lt, ge, b, e] <;> rfl
    · rename_i ge2
      have b : 90 ≤ v := by omega
      cases e : s.inlet.cond
      · dsimp only
        split
        · rename_i r
          unfold State.restored
          rw [kept_restoration]
          simp [State.kept, Inlet.afterVoltage, ge, ge2, b, e, r]
        · rename_i r
          simp [State.kept, Inlet.afterVoltage, ge, ge2, b, e, r]
      all_goals
        dsimp only
        rw [kept_brownoutTest]
        simp [State.kept, Inlet.afterVoltage, State.vin, ge, ge2, b, e] <;> rfl

/-- The inlet after a current sample (R4, R14 to R16). -/
def Inlet.afterCurrent (x : Inlet) (threshold a now : Nat) (time : Secs) : Inlet :=
  let strike : Bool := threshold < a && 2 ≤ x.highCount
  { x with
    currRing := pushRing x.currRing a
    highCount := if threshold < a ∧ x.highCount < 2 then x.highCount + 1 else 0
    strikes := if strike then x.strikes ++ [⟨time, now + 600000⟩] else x.strikes
    holdoffDue := if strike then some (now + 10000) else x.holdoffDue
    latch := x.latch || strike && 2 ≤ x.strikes.length }

/-- The latch check changes the latch alone of what events keep (R16). -/
@[simp] theorem kept_latchCheck (s : State) :
    s.latchCheck.kept =
      { s.kept with inlet := { s.inlet with latch := s.inlet.latch || 3 ≤ s.inlet.strikes.length } } := by
  unfold State.latchCheck
  split
  · rename_i h
    rw [kept_raise, kept_recomputePool]
    simp [State.kept, h.1]
  · rename_i h
    cases e : s.inlet.latch
    · have : ¬ 3 ≤ s.inlet.strikes.length := fun g => h ⟨g, by simp [e]⟩
      simp [State.kept, this, ← e]
    · rw [Bool.true_or, Inlet.same_latch e]; rfl

/-- The inlet, the clock, the seconds counter and the settings by what events keep. -/
theorem now_kept (s : State) : s.now = s.kept.now := rfl
theorem inlet_kept (s : State) : s.inlet = s.kept.inlet := rfl

/-- A strike changes the inlet alone of what events keep (R15, R16). -/
theorem kept_strike (s : State) (a : Nat) :
    (s.strike a).kept =
      { s.kept with
        inlet := { s.inlet with
          highCount := 0
          strikes := s.inlet.strikes ++ [(⟨s.retained.seconds, s.now + 600000⟩ : Strike)]
          holdoffDue := some (s.now + 10000)
          latch := s.inlet.latch || 2 ≤ s.inlet.strikes.length } } := by
  unfold State.strike
  dsimp only
  rw [kept_latchCheck]
  simp only [inlet_kept, kept_emergencyShed, kept_raise]
  simp [State.kept]

/-- A current sample changes the inlet alone of what events keep (R4, R14). -/
@[simp] theorem kept_takeCurrent (s : State) (amps : Nat) :
    (s.takeCurrent amps).kept =
      { s.kept with
        inlet := s.inlet.afterCurrent s.strikeThreshold (min amps 2000) s.now s.retained.seconds } := by
  unfold State.takeCurrent
  generalize min amps 2000 = a
  dsimp only
  have thr : ∀ x : Inlet, State.strikeThreshold { s with inlet := x } = s.strikeThreshold := fun _ => rfl
  rw [thr]
  split
  · rename_i lt
    split
    · rename_i hc
      have b : ¬ s.inlet.highCount < 2 := by omega
      rw [kept_strike]
      simp [State.kept, Inlet.afterCurrent, lt, hc, b]
    · rename_i hc
      have b : s.inlet.highCount < 2 := by omega
      simp [State.kept, Inlet.afterCurrent, lt, hc, b]
  · rename_i lt
    simp [State.kept, Inlet.afterCurrent, lt]

/-- The inlet after a temperature reading (R5). -/
def Inlet.afterTemperature (x : Inlet) (t : Int) : Inlet :=
  { x with tc := tcOf t, derate := deratingOf (tcOf t), sensorFault := badReading t }

/-- A temperature reading changes the inlet alone of what events keep (R5). -/
@[simp] theorem kept_takeTemperature (s : State) (t : Int) :
    (s.takeTemperature t).kept = { s.kept with inlet := s.inlet.afterTemperature t } := by
  unfold State.takeTemperature
  dsimp only
  repeat' split
  all_goals try simp only [kept_recomputePool, kept_raise]
  all_goals rfl

/-- An audit changes the trim alone of what events keep (R13). -/
@[simp] theorem kept_audit (s : State) :
    s.audit.kept =
      { s.kept with inlet := { s.inlet with trim := trimAfter s.inlet.trim s.auditDelta } } := by
  unfold State.audit
  dsimp only
  split
  · rename_i e
    rw [e]; rfl
  · rw [kept_recomputePool]; rfl

/-! ### What it keeps sound -/

/-- A change of the inlet keeps notices, arbiter and sessions sound. -/
theorem good_inlet {n₀ : Notices} {s : State} (x : Inlet) (h : Good n₀ s) : Good n₀ { s with inlet := x } :=
  ⟨h.1, h.2, h.3⟩

@[simp] theorem good_takeTemperature {n₀ : Notices} {s : State} (t : Int) (h : Good n₀ s) :
    Good n₀ (s.takeTemperature t) := by
  have hx := fun x => good_inlet (s := s) x h
  unfold State.takeTemperature
  dsimp only
  repeat' split
  all_goals simp (maxDischargeDepth := 20) [hx]

@[simp] theorem good_takeVoltage {n₀ : Notices} {s : State} (volts : Nat) (h : Good n₀ s) :
    Good n₀ (s.takeVoltage volts) := by
  have hx := fun x => good_inlet (s := s) x h
  unfold State.takeVoltage State.judgeVoltage State.dropoutSample State.brownoutTest State.restored
  dsimp only
  repeat' split
  all_goals simp (maxDischargeDepth := 20) [hx]

theorem good_strike {n₀ : Notices} {s : State} (a : Nat) (h : Good n₀ s) : Good n₀ (s.strike a) := by
  have hx := fun x => good_inlet (s := s) x h
  have g : ∀ {u : State}, Good n₀ u → Good n₀ u.latchCheck := by
    intro u hu
    unfold State.latchCheck
    dsimp only
    split
    · exact good_raise _ _ _ _ _ _ (good_recomputePool (good_inlet _ hu))
    · exact hu
  unfold State.strike
  dsimp only
  exact g (good_emergencyShed (good_raise _ _ _ _ _ _ (hx _)))

@[simp] theorem good_takeCurrent {n₀ : Notices} {s : State} (amps : Nat) (h : Good n₀ s) :
    Good n₀ (s.takeCurrent amps) := by
  have hx := fun x => good_inlet (s := s) x h
  unfold State.takeCurrent
  dsimp only
  split
  · split
    · exact good_strike _ (hx _)
    · exact hx _
  · exact hx _

@[simp] theorem good_audit {n₀ : Notices} {s : State} (h : Good n₀ s) : Good n₀ s.audit := by
  unfold State.audit
  dsimp only
  split
  · exact h
  · exact good_recomputePool (good_inlet _ h)

/-- A change of the inlet that leaves the condition and the latch keeps the pool in force sound. -/
theorem supply_inlet {s : State} (x : Inlet) (c : x.cond = s.inlet.cond) (l : x.latch = s.inlet.latch)
    (h : s.SupplySound) : State.SupplySound { s with inlet := x } := by
  unfold State.SupplySound
  dsimp only
  rw [c, l]; exact h

@[simp] theorem supply_takeTemperature {s : State} (t : Int) (h : s.SupplySound) :
    (s.takeTemperature t).SupplySound := by
  have hx : ∀ x : Inlet, x.cond = s.inlet.cond → x.latch = s.inlet.latch →
      State.SupplySound { s with inlet := x } := fun x c l => supply_inlet x c l h
  unfold State.takeTemperature
  dsimp only
  repeat' split
  all_goals simp (maxDischargeDepth := 20) [hx]

/-- A dropout where the pool in force is sound but for the condition's change to Lost. -/
theorem supply_lost {s : State} (n : Nat) (ring : List Nat) (h : s.SupplySound) :
    State.SupplySound
      { s with inlet := { s.inlet with voltRing := ring, cond := .lost, restoreCount := n } } := by
  intro g
  refine h ?_
  rcases g with g | g | g
  · exact Or.inl g
  · exact absurd g (by simp)
  · exact Or.inr (Or.inr g)

theorem supply_dropoutSample {s : State} (h : s.SupplySound) : s.dropoutSample.SupplySound := by
  unfold State.dropoutSample
  dsimp only
  split
  · exact supply_dropout (supply_recomputePool _)
  · exact supply_dropout (supply_lost 0 s.inlet.voltRing h)

theorem ite_of {p : State → Prop} {a b : State} (c : Prop) [Decidable c] (ha : p a) (hb : p b) :
    p (if c then a else b) := by split <;> assumption

theorem supply_brownoutTest {s : State} (h : s.SupplySound) : s.brownoutTest.SupplySound := by
  unfold State.brownoutTest
  cases s.inlet.cond with
  | lost => exact h
  | normal => exact ite_of _ (supply_recomputePool _) h
  | brownout => exact ite_of _ (supply_recomputePool _) h

theorem supply_restored {s : State} (h : s.SupplySound) : s.restored.SupplySound := by
  unfold State.restored
  refine supply_restoration fun g => h ?_
  rcases g with g | g | g
  · exact Or.inl g
  · exact absurd g (by simp)
  · exact Or.inr (Or.inr g)

@[simp] theorem supply_takeVoltage {s : State} (volts : Nat) (h : s.SupplySound) :
    (s.takeVoltage volts).SupplySound := by
  have ring := supply_inlet { s.inlet with voltRing := pushRing s.inlet.voltRing (min volts 300) } rfl rfl h
  unfold State.takeVoltage State.judgeVoltage
  dsimp only
  split
  · exact supply_dropoutSample ring
  · split
    · exact supply_brownoutTest (supply_inlet _ rfl rfl h)
    · split
      · split
        · exact supply_restored ring
        · exact supply_inlet _ rfl rfl h
      · exact supply_brownoutTest ring
      · exact supply_brownoutTest ring

@[simp] theorem supply_takeCurrent {s : State} (amps : Nat) (h : s.SupplySound) :
    (s.takeCurrent amps).SupplySound := by
  have g : ∀ {u : State}, u.SupplySound → u.latchCheck.SupplySound := by
    intro u hu
    unfold State.latchCheck
    dsimp only
    split
    · exact supply_raise _ _ _ _ _ _ (supply_recomputePool _)
    · exact hu
  unfold State.takeCurrent
  dsimp only
  split
  · split
    · unfold State.strike
      dsimp only
      exact g (supply_emergencyShed (supply_raise _ _ _ _ _ _ (supply_inlet _ rfl rfl h)))
    · exact supply_inlet _ rfl rfl h
  · exact supply_inlet _ rfl rfl h

@[simp] theorem supply_audit {s : State} (h : s.SupplySound) : s.audit.SupplySound := by
  unfold State.audit
  dsimp only
  split
  · exact h
  · exact supply_recomputePool _

end Sys2Proof.Machine
end

