-- ==== Sys2Proof/Laws/Parts.lean ====
section
/-! SUPPORT. What two states agree in where they agree in what events keep, in the ground, or in what the end of a calm
event leaves alone: each field on its own. -/

namespace Sys2Proof.Machine

section
variable {s t : State}

theorem now_of_kept (h : t.kept = s.kept) : t.now = s.now := congrArg Kept.now h
theorem resetHeld_of_kept (h : t.kept = s.kept) : t.resetHeld = s.resetHeld := congrArg Kept.resetHeld h
theorem keyswitch_of_kept (h : t.kept = s.kept) : t.keyswitch = s.keyswitch := congrArg Kept.keyswitch h
theorem inlet_of_kept (h : t.kept = s.kept) : t.inlet = s.inlet := congrArg Kept.inlet h
theorem quiet_of_kept (h : t.kept = s.kept) : t.pool.quiet = s.pool.quiet := congrArg Kept.quiet h
theorem rx_of_kept (h : t.kept = s.kept) : t.link.rx = s.link.rx := congrArg Kept.rx h
theorem buffer_of_kept (h : t.kept = s.kept) : t.link.buffer = s.link.buffer := congrArg Kept.buffer h
theorem tx_of_kept (h : t.kept = s.kept) : t.link.tx = s.link.tx := congrArg Kept.tx h
theorem clear_of_kept (h : t.kept = s.kept) : t.link.clear = s.link.clear := congrArg Kept.clear h
theorem silenceDue_of_kept (h : t.kept = s.kept) : t.link.silenceDue = s.link.silenceDue :=
    congrArg Kept.silenceDue h
theorem standalone_of_kept (h : t.kept = s.kept) : t.link.standalone = s.link.standalone :=
    congrArg Kept.standalone h
theorem cause_of_kept (h : t.kept = s.kept) : t.link.cause = s.link.cause := congrArg Kept.cause h
theorem fromImage_of_kept (h : t.kept = s.kept) : t.link.fromImage = s.link.fromImage :=
    congrArg Kept.fromImage h
theorem levels_of_kept (h : t.kept = s.kept) : t.notices.levels = s.notices.levels := congrArg Kept.levels h
theorem fetchHold_of_kept (h : t.kept = s.kept) : t.notices.fetchHold = s.notices.fetchHold :=
    congrArg Kept.fetchHold h
theorem grace_of_kept (h : t.kept = s.kept) : t.cust.grace = s.cust.grace := congrArg Kept.grace h
theorem settings_of_kept (h : t.kept = s.kept) : t.settings = s.settings := congrArg Kept.settings h
theorem image_of_kept (h : t.kept = s.kept) : t.image = s.image := congrArg Kept.image h
theorem retained_of_kept (h : t.kept = s.kept) : t.retained = s.retained := congrArg Kept.retained h
theorem pending_of_kept (h : t.kept = s.kept) : t.pending = s.pending := congrArg Kept.pending h

theorem power_of_ground (h : t.ground = s.ground) : t.power = s.power := congrArg Ground.power h
theorem inForce_of_ground (h : t.ground = s.ground) : t.pool.inForce = s.pool.inForce :=
    congrArg Ground.inForce h
theorem reconActive_of_ground (h : t.ground = s.ground) : t.cust.reconActive = s.cust.reconActive :=
    congrArg Ground.reconActive h
theorem reconCase_of_ground (h : t.ground = s.ground) : t.cust.reconCase = s.cust.reconCase :=
    congrArg Ground.reconCase h
theorem reconCause_of_ground (h : t.ground = s.ground) : t.cust.reconCause = s.cust.reconCause :=
    congrArg Ground.reconCause h
theorem coldNext_of_ground (h : t.ground = s.ground) : t.cust.coldNext = s.cust.coldNext :=
    congrArg Ground.coldNext h
theorem held_of_ground (h : t.ground = s.ground) : t.arb.held = s.arb.held := congrArg Ground.held h
theorem loopPower_of_ground (h : t.ground = s.ground) : t.loop.power = s.loop.power :=
    congrArg Ground.loopPower h
theorem offSince_of_ground (h : t.ground = s.ground) : t.loop.offSince = s.loop.offSince :=
    congrArg Ground.offSince h
theorem bayCount_of_ground (h : t.ground = s.ground) : t.loop.bayCount = s.loop.bayCount :=
    congrArg Ground.bayCount h
theorem rebuild_of_ground (h : t.ground = s.ground) : t.loop.rebuild = s.loop.rebuild :=
    congrArg Ground.rebuild h
theorem checkDue_of_ground (h : t.ground = s.ground) : t.loop.checkDue = s.loop.checkDue :=
    congrArg Ground.checkDue h
theorem scan_of_ground (h : t.ground = s.ground) : t.loop.scan = s.loop.scan := congrArg Ground.scan h
theorem lastFrame_of_ground (h : t.ground = s.ground) : t.loop.lastFrame = s.loop.lastFrame :=
    congrArg Ground.lastFrame h

theorem power_of_still (h : t.still = s.still) : t.power = s.power := congrArg Still.power h
theorem pool_of_still (h : t.still = s.still) : t.pool = s.pool := congrArg Still.pool h
theorem cust_of_still (h : t.still = s.still) : t.cust = s.cust := congrArg Still.cust h
theorem sess_of_still (h : t.still = s.still) : t.sess = s.sess := congrArg Still.sess h
theorem queue_of_still (h : t.still = s.still) : t.notices.queue = s.notices.queue := congrArg Still.queue h
theorem overflow_of_still (h : t.still = s.still) : t.notices.overflow = s.notices.overflow :=
    congrArg Still.overflow h
theorem held_of_still (h : t.still = s.still) : t.arb.held = s.arb.held := congrArg Still.held h
theorem loopPower_of_still (h : t.still = s.still) : t.loop.power = s.loop.power := congrArg Still.loopPower h
theorem offSince_of_still (h : t.still = s.still) : t.loop.offSince = s.loop.offSince :=
    congrArg Still.offSince h
theorem bayCount_of_still (h : t.still = s.still) : t.loop.bayCount = s.loop.bayCount :=
    congrArg Still.bayCount h
theorem rebuild_of_still (h : t.still = s.still) : t.loop.rebuild = s.loop.rebuild := congrArg Still.rebuild h
theorem checkDue_of_still (h : t.still = s.still) : t.loop.checkDue = s.loop.checkDue :=
    congrArg Still.checkDue h
theorem scan_of_still (h : t.still = s.still) : t.loop.scan = s.loop.scan := congrArg Still.scan h
theorem lastFrame_of_still (h : t.still = s.still) : t.loop.lastFrame = s.loop.lastFrame :=
    congrArg Still.lastFrame h
theorem onLoop_of_still (h : t.still = s.still) : t.loop.onLoop = s.loop.onLoop := congrArg Still.onLoop h

theorem cfg_of_kept (h : t.kept = s.kept) (i : SettingId) : t.cfg i = s.cfg i :=
    by
  unfold State.cfg; rw [settings_of_kept h]

theorem seen_of_ground (h : t.ground = s.ground) (i : BayIx) : (t.bay i).seen = (s.bay i).seen :=
  congrFun (congrArg Ground.seen h) i

theorem core_of_still (h : t.still = s.still) (i : BayIx) : (t.bay i).core = (s.bay i).core :=
  congrFun (congrArg Still.core h) i
end

section
variable {a b : Bay}

theorem link_of_seen (h : b.seen = a.seen) : b.link = a.link := congrArg Seen.link h
theorem serial_of_seen (h : b.seen = a.seen) : b.serial = a.serial := congrArg Seen.serial h
theorem miss_of_seen (h : b.seen = a.seen) : b.miss = a.miss := congrArg Seen.miss h
theorem lostAt_of_seen (h : b.seen = a.seen) : b.lostAt = a.lostAt := congrArg Seen.lostAt h
theorem resync_of_seen (h : b.seen = a.seen) : b.resync = a.resync := congrArg Seen.resync h
theorem soc_of_seen (h : b.seen = a.seen) : b.soc = a.soc := congrArg Seen.soc h
theorem pneg_of_seen (h : b.seen = a.seen) : b.pneg = a.pneg := congrArg Seen.pneg h
theorem applied_of_seen (h : b.seen = a.seen) : b.applied = a.applied := congrArg Seen.applied h
theorem measured_of_seen (h : b.seen = a.seen) : b.measured = a.measured := congrArg Seen.measured h
theorem overTemp_of_seen (h : b.seen = a.seen) : b.overTemp = a.overTemp := congrArg Seen.overTemp h
theorem short_of_seen (h : b.seen = a.seen) : b.short = a.short := congrArg Seen.short h
theorem overdraw_of_seen (h : b.seen = a.seen) : b.overdraw = a.overdraw := congrArg Seen.overdraw h
theorem overdrawCount_of_seen (h : b.seen = a.seen) : b.overdrawCount = a.overdrawCount :=
    congrArg Seen.overdrawCount h
theorem hot_of_seen (h : b.seen = a.seen) : b.hot = a.hot := congrArg Seen.hot h
theorem hotTime_of_seen (h : b.seen = a.seen) : b.hotTime = a.hotTime := congrArg Seen.hotTime h
theorem chargeOn_of_seen (h : b.seen = a.seen) : b.chargeOn = a.chargeOn := congrArg Seen.chargeOn h
theorem presence_of_seen (h : b.seen = a.seen) : b.presence = a.presence := congrArg Seen.presence h
theorem bolt_of_seen (h : b.seen = a.seen) : b.bolt = a.bolt := congrArg Seen.bolt h
theorem lampShown_of_seen (h : b.seen = a.seen) : b.lampShown = a.lampShown := congrArg Seen.lampShown h
theorem recon_of_seen (h : b.seen = a.seen) : b.recon = a.recon := congrArg Seen.recon h

theorem link_of_core (h : b.core = a.core) : b.link = a.link :=
    congrArg (a₁ := b.core) (a₂ := a.core) (·.link) h
theorem serial_of_core (h : b.core = a.core) : b.serial = a.serial :=
    congrArg (a₁ := b.core) (a₂ := a.core) (·.serial) h
theorem miss_of_core (h : b.core = a.core) : b.miss = a.miss :=
    congrArg (a₁ := b.core) (a₂ := a.core) (·.miss) h
theorem lostAt_of_core (h : b.core = a.core) : b.lostAt = a.lostAt :=
    congrArg (a₁ := b.core) (a₂ := a.core) (·.lostAt) h
theorem resync_of_core (h : b.core = a.core) : b.resync = a.resync :=
    congrArg (a₁ := b.core) (a₂ := a.core) (·.resync) h
theorem soc_of_core (h : b.core = a.core) : b.soc = a.soc := congrArg (a₁ := b.core) (a₂ := a.core) (·.soc) h
theorem pneg_of_core (h : b.core = a.core) : b.pneg = a.pneg :=
    congrArg (a₁ := b.core) (a₂ := a.core) (·.pneg) h
theorem applied_of_core (h : b.core = a.core) : b.applied = a.applied :=
    congrArg (a₁ := b.core) (a₂ := a.core) (·.applied) h
theorem measured_of_core (h : b.core = a.core) : b.measured = a.measured :=
    congrArg (a₁ := b.core) (a₂ := a.core) (·.measured) h
theorem overTemp_of_core (h : b.core = a.core) : b.overTemp = a.overTemp :=
    congrArg (a₁ := b.core) (a₂ := a.core) (·.overTemp) h
theorem short_of_core (h : b.core = a.core) : b.short = a.short :=
    congrArg (a₁ := b.core) (a₂ := a.core) (·.short) h
theorem share_of_core (h : b.core = a.core) : b.share = a.share :=
    congrArg (a₁ := b.core) (a₂ := a.core) (·.share) h
theorem kept_of_core (h : b.core = a.core) : b.kept = a.kept :=
    congrArg (a₁ := b.core) (a₂ := a.core) (·.kept) h
theorem overdraw_of_core (h : b.core = a.core) : b.overdraw = a.overdraw :=
    congrArg (a₁ := b.core) (a₂ := a.core) (·.overdraw) h
theorem overdrawCount_of_core (h : b.core = a.core) : b.overdrawCount = a.overdrawCount :=
    congrArg (a₁ := b.core) (a₂ := a.core) (·.overdrawCount) h
theorem hot_of_core (h : b.core = a.core) : b.hot = a.hot := congrArg (a₁ := b.core) (a₂ := a.core) (·.hot) h
theorem hotTime_of_core (h : b.core = a.core) : b.hotTime = a.hotTime :=
    congrArg (a₁ := b.core) (a₂ := a.core) (·.hotTime) h
theorem chargeOn_of_core (h : b.core = a.core) : b.chargeOn = a.chargeOn :=
    congrArg (a₁ := b.core) (a₂ := a.core) (·.chargeOn) h
theorem custody_of_core (h : b.core = a.core) : b.custody = a.custody :=
    congrArg (a₁ := b.core) (a₂ := a.core) (·.custody) h
theorem admit_of_core (h : b.core = a.core) : b.admission = a.admission :=
    congrArg (a₁ := b.core) (a₂ := a.core) (·.admission) h
theorem assetId_of_core (h : b.core = a.core) : b.assetId = a.assetId :=
    congrArg (a₁ := b.core) (a₂ := a.core) (·.assetId) h
theorem standing_of_core (h : b.core = a.core) : b.standing = a.standing :=
    congrArg (a₁ := b.core) (a₂ := a.core) (·.standing) h
theorem presence_of_core (h : b.core = a.core) : b.presence = a.presence :=
    congrArg (a₁ := b.core) (a₂ := a.core) (·.presence) h
theorem bolt_of_core (h : b.core = a.core) : b.bolt = a.bolt :=
    congrArg (a₁ := b.core) (a₂ := a.core) (·.bolt) h
theorem gone_of_core (h : b.core = a.core) : b.gone = a.gone :=
    congrArg (a₁ := b.core) (a₂ := a.core) (·.gone) h
theorem seatDue_of_core (h : b.core = a.core) : b.seatDue = a.seatDue :=
    congrArg (a₁ := b.core) (a₂ := a.core) (·.seatDue) h
theorem tagTries_of_core (h : b.core = a.core) : b.tagTries = a.tagTries :=
    congrArg (a₁ := b.core) (a₂ := a.core) (·.tagTries) h
theorem tagRetryDue_of_core (h : b.core = a.core) : b.tagRetryDue = a.tagRetryDue :=
    congrArg (a₁ := b.core) (a₂ := a.core) (·.tagRetryDue) h
theorem release_of_core (h : b.core = a.core) : b.release = a.release :=
    congrArg (a₁ := b.core) (a₂ := a.core) (·.release) h
theorem lampShown_of_core (h : b.core = a.core) : b.lampShown = a.lampShown :=
    congrArg (a₁ := b.core) (a₂ := a.core) (·.lampShown) h
theorem displayDue_of_core (h : b.core = a.core) : b.displayDue = a.displayDue :=
    congrArg (a₁ := b.core) (a₂ := a.core) (·.displayDue) h
theorem recon_of_core (h : b.core = a.core) : b.recon = a.recon :=
    congrArg (a₁ := b.core) (a₂ := a.core) (·.recon) h
theorem lastOutcome_of_core (h : b.core = a.core) : b.lastOutcome = a.lastOutcome :=
    congrArg (a₁ := b.core) (a₂ := a.core) (·.lastOutcome) h

theorem seen_of_core (h : b.core = a.core) : b.seen = a.seen := by
  simp only [seen_eq, link_of_core h, serial_of_core h, miss_of_core h, lostAt_of_core h, resync_of_core h,
    soc_of_core h, pneg_of_core h, applied_of_core h, measured_of_core h, overTemp_of_core h, short_of_core h,
    overdraw_of_core h, overdrawCount_of_core h, hot_of_core h, hotTime_of_core h, chargeOn_of_core h,
    presence_of_core h, bolt_of_core h, lampShown_of_core h, recon_of_core h]
end

end Sys2Proof.Machine
end

