-- ==== Sys2Proof/Laws/Bays.lean ====
section
/-! SUPPORT. What changing every bay, setting grants and switching the loop power off do, field by field. -/

namespace Sys2Proof.Machine

/-! ### Every bay changed -/

/-- A change of every bay changes the bay records alone. -/
theorem modBays_eq (s : State) (f : BayIx → Bay → Bay) :
    s.modBays f = { s with bays := (s.modBays f).bays } := by
  unfold State.modBays
  generalize allBays = l
  induction l generalizing s with
  | nil => rfl
  | cons a l ih => rw [List.foldl_cons, ih]; rfl

section
variable (s : State) (f : BayIx → Bay → Bay)
@[simp] theorem modBays_now : (s.modBays f).now = s.now := by rw [modBays_eq]
@[simp] theorem modBays_inlet : (s.modBays f).inlet = s.inlet := by rw [modBays_eq]
@[simp] theorem modBays_pool : (s.modBays f).pool = s.pool := by rw [modBays_eq]
@[simp] theorem modBays_power : (s.modBays f).power = s.power := by rw [modBays_eq]
@[simp] theorem modBays_round : (s.modBays f).round = s.round := by rw [modBays_eq]
@[simp] theorem modBays_cust : (s.modBays f).cust = s.cust := by rw [modBays_eq]
@[simp] theorem modBays_arb : (s.modBays f).arb = s.arb := by rw [modBays_eq]
@[simp] theorem modBays_sess : (s.modBays f).sess = s.sess := by rw [modBays_eq]
@[simp] theorem modBays_loop : (s.modBays f).loop = s.loop := by rw [modBays_eq]
@[simp] theorem modBays_link : (s.modBays f).link = s.link := by rw [modBays_eq]
@[simp] theorem modBays_notices : (s.modBays f).notices = s.notices := by rw [modBays_eq]
@[simp] theorem modBays_settings : (s.modBays f).settings = s.settings := by rw [modBays_eq]
end

/-- Changes of the bays of a list, each once. -/
theorem bay_foldl (f : BayIx → Bay → Bay) (l : List BayIx) (n : l.Nodup) (s : State) (i : BayIx) :
    (l.foldl (fun s i => s.modBay i (f i)) s).bay i = if i ∈ l then f i (s.bay i) else s.bay i := by
  induction l generalizing s with
  | nil => simp
  | cons a l ih =>
    rw [List.foldl_cons, ih n.of_cons]
    by_cases e : i = a
    · subst e
      have : i ∉ l := (List.nodup_cons.1 n).1
      simp [this]
    · simp [e, bay_modBay_ne s (f a) e]

theorem allBays_nodup : allBays.Nodup := by decide

theorem mem_allBays (i : BayIx) : i ∈ allBays := by revert i; decide

/-- Each bay changed. -/
@[simp] theorem bay_modBays (s : State) (f : BayIx → Bay → Bay) (i : BayIx) :
    (s.modBays f).bay i = f i (s.bay i) := by
  unfold State.modBays
  rw [bay_foldl f allBays allBays_nodup, if_pos (mem_allBays i)]

/-! ### Grants set (R29) -/

/-- Grants set change the bay's two grants and the time of the last change, and nothing else. -/
theorem bay_setGrants (s : State) (i j : BayIx) (a c : Nat) :
    (s.setGrants i a c).bay j = if j = i then { s.bay j with applied := a, commanded := c } else s.bay j := by
  unfold State.setGrants
  split
  · rename_i h
    split
    · rename_i e; subst e
      rw [← h.1, ← h.2]
    · rfl
  · exact bay_modBay s i j fun b => { b with applied := a, commanded := c }

section
variable (s : State) (i : BayIx) (a c : Nat)
@[simp] theorem setGrants_now : (s.setGrants i a c).now = s.now := by unfold State.setGrants; split <;> rfl
@[simp] theorem setGrants_pool : (s.setGrants i a c).pool = s.pool := by unfold State.setGrants; split <;> rfl
@[simp] theorem setGrants_power : (s.setGrants i a c).power = s.power := by
  unfold State.setGrants; split <;> rfl
@[simp] theorem setGrants_cust : (s.setGrants i a c).cust = s.cust := by unfold State.setGrants; split <;> rfl
@[simp] theorem setGrants_arb : (s.setGrants i a c).arb = s.arb := by unfold State.setGrants; split <;> rfl
@[simp] theorem setGrants_sess : (s.setGrants i a c).sess = s.sess := by unfold State.setGrants; split <;> rfl
@[simp] theorem setGrants_loop : (s.setGrants i a c).loop = s.loop := by unfold State.setGrants; split <;> rfl
theorem setGrants_round : (s.setGrants i a c).round =
    { s.round with lastGrantChange := (s.setGrants i a c).round.lastGrantChange } := by
  unfold State.setGrants; split <;> rfl
end

/-- Every bay's grants set, whatever to. -/
theorem foldl_setGrants (l : List BayIx) (a c : State → BayIx → Nat) (s : State) :
    let t := l.foldl (fun s i => s.setGrants i (a s i) (c s i)) s
    t.now = s.now ∧ t.pool = s.pool ∧ t.power = s.power ∧ t.cust = s.cust ∧ t.arb = s.arb ∧ t.sess = s.sess ∧
      t.loop = s.loop ∧ t.round = { s.round with lastGrantChange := t.round.lastGrantChange } := by
  induction l generalizing s with
  | nil => simp
  | cons x l ih =>
    obtain ⟨n, p, w, u, r, e, o, d⟩ := ih (s.setGrants x (a s x) (c s x))
    refine ⟨?_, ?_, ?_, ?_, ?_, ?_, ?_, ?_⟩
    · exact n.trans (setGrants_now ..)
    · exact p.trans (setGrants_pool ..)
    · exact w.trans (setGrants_power ..)
    · exact u.trans (setGrants_cust ..)
    · exact r.trans (setGrants_arb ..)
    · exact e.trans (setGrants_sess ..)
    · exact o.trans (setGrants_loop ..)
    · rw [setGrants_round] at d
      exact d

/-- Every bay's grants set to 0. -/
theorem bay_zeroGrants (l : List BayIx) (s : State) (i : BayIx) :
    (l.foldl (fun s i => s.setGrants i 0 0) s).bay i =
      if i ∈ l then { s.bay i with applied := 0, commanded := 0 } else s.bay i := by
  induction l generalizing s with
  | nil => simp
  | cons x l ih =>
    rw [List.foldl_cons, ih, bay_setGrants]
    by_cases e : i = x
    · subst e; simp
    · simp [e]

/-- Every commanded grant set to 0 (R42). -/
theorem bay_zeroCommanded (l : List BayIx) (s : State) (i : BayIx) :
    (l.foldl (fun s i => s.setGrants i (s.bay i).applied 0) s).bay i =
      if i ∈ l then { s.bay i with commanded := 0 } else s.bay i := by
  induction l generalizing s with
  | nil => simp
  | cons x l ih =>
    rw [List.foldl_cons, ih, bay_setGrants]
    by_cases e : i = x
    · subst e; simp
    · simp [e]

/-! ### The loop power switched off (R134) -/

/-- What the switching off of the loop power leaves: every link Dark, every lamp Off, no grant, no reconciliation, nothing
of the loop queued, waiting or sent, and the arbiter empty and held (R30, R76, R107, R134, R165). -/
theorem loopPowerOff_spec (s : State) :
    let t := s.loopPowerOff
    t.power = s.power ∧ t.pool.inForce = s.pool.inForce ∧ t.cust.reconActive = false ∧ t.arb.held = true ∧
      t.loop.power = false ∧ t.loop.rebuild = s.loop.rebuild ∧ t.loop.bayCount = s.loop.bayCount ∧
      t.loop.offSince = (if s.loop.power then s.now else s.loop.offSince) ∧ t.loop.scan.running = false ∧
      t.now = s.now ∧
      ∀ i, (t.bay i).link = .dark ∧ (t.bay i).applied = 0 ∧ (t.bay i).lampShown = some .off ∧
        (t.bay i).recon = .none ∧ (t.bay i).seen = ({ s.bay i with applied := 0, commanded := 0 } : Bay).darken.seen := by
  unfold State.loopPowerOff
  dsimp only
  generalize hu : (State.mk _ _ _ _ _ _ _ _ _ _ _ _ _ _ _ _ _ _) = u
  obtain ⟨n, p, w, c, a, -, l, -⟩ := foldl_setGrants allBays (fun _ _ => 0) (fun _ _ => 0) u
  have b := bay_zeroGrants allBays u
  generalize allBays.foldl (fun s i => s.setGrants i 0 0) u = v at n p w c a l b ⊢
  have g : ∀ (l : List BayIx) (x : State),
      (l.foldl (fun s i => s.leaveReady i (some .lost)) x).ground = x.ground := fun l x =>
    ground_foldl _ _ _ fun s a => by simp
  have k : ∀ (l : List BayIx) (x : State),
      (l.foldl (fun s i => s.leaveReady i (some .lost)) x).kept = x.kept := fun l x =>
    kept_foldl _ _ _ fun s a => by simp
  have g := g allBays (v.modBays fun _ b => b.darken)
  have k := k allBays (v.modBays fun _ b => b.darken)
  generalize allBays.foldl
    (fun s i => s.leaveReady i (some .lost)) (v.modBays fun _ b => b.darken) = t at g k ⊢
  have vb : ∀ i, (v.modBays fun _ b => b.darken).bay i =
      ({ s.bay i with applied := 0, commanded := 0 } : Bay).darken := fun i => by
    rw [bay_modBays, b, if_pos (mem_allBays i), ← hu]; rfl
  refine ⟨?_, ?_, ?_, ?_, ?_, ?_, ?_, ?_, ?_, ?_, fun i => ?_⟩
  · rw [power_of_ground g, modBays_power, w, ← hu]
  · rw [inForce_of_ground g, modBays_pool, p, ← hu]
  · rw [reconActive_of_ground g, modBays_cust, c, ← hu]
  · rw [held_of_ground g, modBays_arb, a, ← hu]
  · rw [loopPower_of_ground g, modBays_loop, l, ← hu]
  · rw [rebuild_of_ground g, modBays_loop, l, ← hu]
  · rw [bayCount_of_ground g, modBays_loop, l, ← hu]
  · rw [offSince_of_ground g, modBays_loop, l, ← hu]
  · rw [scan_of_ground g, modBays_loop, l, ← hu]
  · rw [now_of_kept k, modBays_now, n, ← hu]
  · have e := seen_of_ground g i
    rw [vb i] at e
    exact ⟨link_of_seen e, applied_of_seen e, lampShown_of_seen e, recon_of_seen e, e⟩

end Sys2Proof.Machine
end

