-- ==== Sys2Proof/WellFormed.lean ====
section
/-! DEFINITION. Which commands are well formed: the ranges the spec gives the values a command carries. The meanings
are total and do not rest on it. -/

namespace Sys2Proof

/-- A response frame has at most address, op, result, length, ten payload bytes and the CRC (R136). -/
def respFits (resp : List Byte) : Bool := resp.length ≤ 15

/-- A session identifier is from 1 to 255 (R116). -/
def sessionIdFits (n : Nat) : Bool := 1 ≤ n && n ≤ 255

/-- The holdup charge is from 0 to 100 % (R192). -/
def chargeFits (n : Nat) : Bool := n ≤ 100

/-- A reply frame is at most 253 bytes long, so at most that many are begun (chapter 12). -/
def begunFits (n : Nat) : Bool := n ≤ 253

namespace Instr

/-- The values of a command lie within the ranges the spec gives them. A response found not valid may be of any
length: a bad length is one way not to be valid (R136). -/
def wf : Instr → Bool
  | .status r _ | .grant r | .tag r | .lock r | .lamp r | .identify r | .assign r | .pass r
  | .nodereset r | .overdrawFault r _ => respFits r
  | .linkTimerExpiry n | .idleTimerExpiry n | .drainSettleExpiry n => sessionIdFits n
  | .holdupSense c => chargeFits c
  | .clearLineChange _ n => begunFits n
  | .voltageSample _ _ | .inletRestored _ _ | .strike _ _ | .strikeAgeOut | .strikeHoldoffExpiry
  | .temperatureReading _ | .poolRecompute | .trimAudit | .rideThroughExpiry | .drainLimitExpiry
  | .settleExpiry | .roundBegin | .loopTransactionBegin | .placementAppended
  | .responseWaitExpiry | .linkLost | .shed | .scanPassStart | .scanStatusPlace
  | .rebuildPowerOffEnd | .rebuildBootEnd | .autoRebuildCheck | .travelWaitExpiry _
  | .busyRetryExpiry _ | .cooldownExpiry _ | .seatSettleExpiry _ | .tagRetryDelayExpiry _
  | .refusedDisplayEnd _ | .releaseWindowExpiry _ | .frameArrival _ _ | .replySent _
  | .hostSilenceExpiry | .secondsTick | .powerOn _ _ | .resetPinAssert | .resetPinRelease _
  | .unknownKind | .identifyRequest | .cartStatus _ | .bayStatus | .baySummary | .poolStatus
  | .setSetting | .getSetting | .saveSettings _ | .setQuiet | .rosterPut | .rosterDrop
  | .rosterGet | .rosterList | .releaseBay | .releaseAsset | .releaseBest | .cancelRelease
  | .admitBay | .prepareReadySet | .clearReadySet | .readySetStatus | .openSession | .linkUp
  | .progress | .finishSession | .abortSession | .sessionStatus | .setBayCharge | .clearFault
  | .rebuildLoop | .restart | .fetchNotices | .setNoticeLevel | .byteReceived _ _ | .lineError
  | .responseNotValid _ => true

end Instr

end Sys2Proof
end

