-- ==== Sys2Proof/Tests/Slice0.lean ====
section
/-! SUPPORT. Checks of the model's own work: ill-formed commands that the checks refuse, worked examples of the spec, and,
for every statement that has hypotheses, a state and operands that meet them, clause by clause. -/

open Sys2Proof Sys2Proof.Machine

set_option Elab.async false

namespace Sys2Proof.Tests

/-! ### Well-formedness -/

theorem test_wf_refuses_long_response : (Instr.grant (List.replicate 16 0)).wf = false := by decide
theorem test_wf_refuses_session_zero : (Instr.linkTimerExpiry 0).wf = false := by decide
theorem test_wf_refuses_session_256 : (Instr.idleTimerExpiry 256).wf = false := by decide
theorem test_wf_refuses_charge_over_100 : (Instr.holdupSense 101).wf = false := by decide
theorem test_wf_refuses_more_bytes_than_a_reply : (Instr.clearLineChange true 254).wf = false := by decide
theorem test_wf_takes_the_boundaries : (Instr.grant (List.replicate 15 0)).wf && (Instr.linkTimerExpiry 255).wf &&
    (Instr.drainSettleExpiry 1).wf && (Instr.holdupSense 100).wf && (Instr.clearLineChange false 253).wf := by
  decide

/-! ### Frames (chapter 12) -/

theorem test_status_to_bay_1 : (Txn.scan 0).frame = [0x01, 0x04, 0x00, 0x8E] := by decide +kernel
theorem test_checksum_of_cart_status : byteSum [0x02, 0x12, 0x02, 0xEA] = 0 := by decide
theorem test_refusal_bytes : replyBytes 0x12 0x30 .noBay [1] = [0x5E, 3, 0x12, 0xB0, 0x20, 0x1B] := by decide

/-! ### A small cart -/

/-- A bay with a locked tablet, linked. -/
def bayOn : Bay :=
  { Bay.start with
    link := .linked, presence := some true, bolt := some .engaged, custody := .locked
    standing := some .docked, assetId := some 7, soc := some 60, pneg := 20 }

/-- A cart in Serving with every bay as `bayOn`. -/
def run : State :=
  { State.reset with
    power := { Power.start with state := .serving }
    round := { Round.start with suspended := false }
    bays := .replicate 36 bayOn
    arb := { Arbiter.start with held := false }
    loop := { Loop.start with power := true }
    inlet := { Inlet.start with cond := .normal }
    cust := { CustodyUnit.start with roster := [⟨7, none, .docked 0, none, none⟩], grace := false } }

/-- A cart in a power state. -/
def inPower (p : PowerState) : State := { run with power := { run.power with state := p } }

/-- A cart with one bay changed. -/
def withBay (i : BayIx) (f : Bay → Bay) (s : State := run) : State := s.modBay i f

/-- A frame of a request. -/
def frame (kind : Byte) (p : List Byte) : RxFrame := ⟨1, kind, p, false, 0⟩

/-- A cart with a request to be taken. -/
def ask (s : State) (kind : Byte) (p : List Byte) : State :=
  { s with link := { s.link with buffer := [frame kind p], tx := none } }

/-- A request to be taken meets `Asks`. -/
theorem asks (s : State) (kind : Byte) (p : List Byte) (h : s.resetHeld = false) :
    (ask s kind p).Asks kind.toNat p.length (frame kind p) := ⟨h, rfl, rfl, rfl, rfl⟩

/-- A transaction on the loop, in an attempt. -/
def on (t : Txn) (attempt : Nat := 1) (s : State := run) : State :=
  { s with loop := { s.loop with onLoop := some ⟨t, attempt, 3, false⟩ } }

/-- A response frame to a transaction. -/
def resp (t : Txn) (result : Byte) (p : List Byte) : List Byte :=
  let f := byte t.answerAddress :: byte (t.opCode + 0x80) :: result :: byte p.length :: p
  f ++ [crc8 f]

/-- A status block: its flags, SoC 60, Pneg 20, limit 10, then the measured power given. -/
def block (flags measured : Byte) : List Byte := [flags, 60, 20, 10, measured]

/-- A pulse in slot A in a phase. -/
def pulsing (ph : Phase) (attempt : Nat := 1) (busy : Nat := 0) (s : State := run) : State :=
  { s with arb := { s.arb with slotA := some ⟨0, .engage, attempt, 300, busy, ph⟩ } }

/-- A session of bay 1 in a state on channel 1. -/
def session (st : SessState) (result : Option Bool := none) : Session :=
  ⟨1, 0, .image, 40, 60, st, some 0, 0, none, none, result, some 500⟩

/-- A cart with that session running. -/
def running (st : SessState) (result : Option Bool := none) : State :=
  { run with
    sess :=
      { queue := [session st result], nextId := 2
        channels := ⟨#[{ Channel.idle (ChanCfg.dflt 0) with
            state := chanStateOf st, session := some 1, join := joinOf (session st result) },
          .idle (ChanCfg.dflt 1), .idle (ChanCfg.dflt 2), .idle (ChanCfg.dflt 3)], rfl⟩ } }

/-- A cart with a Queued session of bay 1. -/
def waiting : State :=
  { run with
    sess := { Sessions.start with
      queue := [{ session .queued with channel := none, due := none }], nextId := 2 } }

theorem test_running_sound (st : SessState) (r : Option Bool) (h : st ≠ .queued) : (running st r).sess.Sound where
  room := by simp [running]
  ids := by simp [running]
  bays := by simp [running]
  range := by intro y hy; simp only [running, List.mem_singleton] at hy; subst hy; exact ⟨Nat.le_refl _, by simp [session]⟩
  next := by simp [running]
  chans := by
    intro c
    fin_cases c
    · exact ⟨session st r, by simp [running], rfl, rfl, h, rfl, rfl, Nat.le_refl _, Nat.lt_of_sub_eq_succ rfl⟩
    all_goals rfl
  holds := by intro y hy; simp only [running, List.mem_singleton] at hy; subst hy; rfl

theorem test_waiting_sound : waiting.sess.Sound where
  room := by decide
  ids := by decide
  bays := by decide
  range := by decide
  next := by decide
  chans := by intro c; fin_cases c <;> rfl
  holds := by intro y hy; simp only [waiting, List.mem_singleton] at hy; subst hy; rfl

theorem test_run_sessions_sound : run.sess.Sound where
  room := by decide
  ids := by decide
  bays := by decide
  range := by decide
  next := by decide
  chans := by intro c; fin_cases c <;> rfl
  holds := by intro y hy; simp [run, State.reset, Sessions.start] at hy

/-! ### The worked examples of chapters 1, 2 and 4 -/

/-- The inlet of the pool example: Irate 12.0 A, Vin 120, Tc 38, trim +12. -/
def supplied (trim : Int) (d : Nat) : State :=
  { run with
    inlet := { run.inlet with voltRing := [120], trim, derate := d }
    settings := run.settings.set .irate 120 }

theorem test_pool_921 : (supplied 12 15).poolNow = 921 := by decide +kernel
theorem test_pool_522 : (supplied 12 50).poolNow = 522 := by decide +kernel
theorem test_pool_0 : (supplied 12 100).poolNow = 0 := by decide +kernel
theorem test_pool_973 : (supplied (-40) 15).poolNow = 973 := by decide +kernel
theorem test_pool_quiet : State.poolNow
    { supplied 12 15 with pool := { Pool.start with quiet := true } } = 400 := by decide +kernel
theorem test_derating : deratingOf 38 = 15 ∧ deratingOf 35 = 0 ∧ deratingOf 54 = 95 ∧ deratingOf 55 = 100 := by decide

/-- An eligible bay of the division example. -/
def fed (soc pneg commanded : Nat) (tier cap floor : Nat) (b : Bay) : Bay :=
  { b with soc := some soc, pneg, commanded, applied := commanded, share := ⟨cap, floor, tier⟩ }

/-- The cart of the division example: a pool of 127 W, bay 20 Lost, eight bays eligible. -/
def divided : State :=
  let s : State := { run with
    pool := { Pool.start with inForce := 127 }
    bays := .replicate 36 { bayOn with presence := some false } }
  let at' := fun (i : BayIx) (b : Bay) (s : State) => s.setBay i b
  at' 2 (fed 45 30 1 0 30 15 bayOn) <| at' 4 (fed 62 45 1 1 30 5 bayOn) <|
  at' 5 (fed 85 30 1 1 22 5 bayOn) <| at' 8 (fed 20 18 1 2 18 5 bayOn) <|
  at' 9 (fed 50 30 1 2 30 5 bayOn) <| at' 10 (fed 35 10 1 2 10 5 bayOn) <|
  at' 11 (fed 99 30 1 3 2 2 bayOn) <| at' 13 (fed 71 30 0 2 30 5 bayOn) <|
  at' 19 { bayOn with link := .lost } s

theorem test_division_of_122 : divided.allocatable = 122 ∧
    ([2, 4, 5, 8, 9, 10, 11, 13].map fun i : BayIx => divided.targetsNow[i.1]) = [30, 30, 22, 10, 9, 10, 2, 9] := by
  decide +kernel

/-- A bay of the example of chapter 4. -/
def shown (soc : Option Nat) (st : Standing) (b : Bay) : Bay := { b with soc, standing := some st }

/-- The cart of the example of four calls on Release Best, the bays released so far left out. -/
def called (gone : List BayIx) (members : List BayIx) : State :=
  let s : State := { run with
    bays := .replicate 36 { bayOn with custody := .vacant }
    cust := { run.cust with readySet := members } }
  [(1, some 77, Standing.docked), (3, some 88, .foreign), (7, some 91, .docked), (14, some 96, .foreign),
    (20, some 91, .docked), (29, some 48, .docked), (32, none, .docked)].foldl
    (fun s (x : BayIx × Option Nat × Standing) =>
      if gone.contains x.1 then s else s.setBay x.1 (shown x.2.1 x.2.2 bayOn)) s

theorem test_four_calls_on_release_best :
    (called [] [14, 7, 20]).chooseBest = some 7 ∧ (called [7] [14, 20]).chooseBest = some 20 ∧
    (called [7, 20] [14]).chooseBest = some 1 ∧ (called [7, 20, 1] [14]).chooseBest = none := by
  decide +kernel

/-! ### Channels (R112, R117) -/

theorem test_channel_shapes : sizeTaken 12 = 16 ∧ sizeTaken 3 = 4 ∧ sizeTaken 65 = 64 ∧ baseTaken 20 16 = 16 ∧
    baseTaken 33 4 = 32 ∧ baseTaken 64 4 = 60 ∧ baseTaken 32 64 = 0 := by decide

/-! ### States and operands that meet the hypotheses of the statements -/

/-- The state a command answers. -/
def after (e : Out) : State := match e with | .next t => t | _ => State.reset

/-- A cart in a power state with the inlet Lost. -/
def lost (p : PowerState) (restores : Nat) : State :=
  { inPower p with inlet := { run.inlet with cond := .lost, restoreCount := restores } }

/-- A cart whose ready set holds bays 1 and 2. -/
def readied : State := { run with cust := { run.cust with readySet := [0, 1] } }

theorem test_meets_StepRunsTheFrontCommand : State.reset.pending = [] := rfl

theorem test_meets_EveryCommandAnswersANextState :
    ({ run with resetHeld := true } : State).resetHeld = true ∧ (∀ kept t, Instr.shed ≠ .powerOn kept t) ∧
      ∀ t, Instr.shed ≠ .resetPinRelease t := ⟨rfl, by simp, by simp⟩

theorem test_meets_EveryStepKeepsTheInvariant : run.Inv where
  held := by intro h; cases h
  running _ :=
    { notices := ⟨by decide, by intro k; cases k <;> decide +kernel, by intro k; cases k <;> decide +kernel, by decide⟩
      arbiter := ⟨by decide, by simp [run, Arbiter.start], by simp [run, Arbiter.start], by simp [run, Arbiter.start]⟩
      sessions := test_run_sessions_sound
      inlet := ⟨by decide, by decide, by decide, by decide, by decide, by decide⟩
      roster := ⟨by decide, by decide, by decide⟩
      settings := by intro i; cases i <;> decide +kernel
      buffer := by decide
      supply := by intro _; rfl }

theorem test_meets_EveryStepKeepsTheReadySetSound : readied.ReadySound where
  once := by decide
  members := by unfold State.ReadyBay; decide +kernel
  serving := by intro h; exact absurd rfl h

/-- A cart with a level-7 record queued. -/
def tampered : State :=
  { run with
    notices := { run.notices with queue := [⟨.tamper, 7, 0, some 0, none, none, none, some .removed⟩] } }

theorem test_meets_NoLevelSevenNoticeIsDisplaced : tampered.Inv ∧
    exec .shed tampered = .next tampered ∧ (∀ r ∈ tampered.notices.queue, r.level = 7) ∧
    tampered.notices.queue ≠ [] := by
  refine ⟨⟨fun _ => ⟨⟨by decide, fun k => (test_meets_EveryStepKeepsTheInvariant.running rfl).notices.levels k,
    fun k => (test_meets_EveryStepKeepsTheInvariant.running rfl).notices.fixed k, by decide⟩, ?_, ?_, ?_, ?_, ?_, ?_, ?_⟩,
    by intro h; cases h⟩, rfl, by decide, by decide⟩
  all_goals first
    | exact (test_meets_EveryStepKeepsTheInvariant.running rfl).arbiter
    | exact (test_meets_EveryStepKeepsTheInvariant.running rfl).sessions
    | exact (test_meets_EveryStepKeepsTheInvariant.running rfl).inlet
    | exact (test_meets_EveryStepKeepsTheInvariant.running rfl).roster
    | exact (test_meets_EveryStepKeepsTheInvariant.running rfl).settings
    | exact (test_meets_EveryStepKeepsTheInvariant.running rfl).supply
    | decide

theorem test_meets_SampleEntersTheRingsAndIsJudged :
    run.resetHeld = false ∧ (lost .transit 1).inlet.cond = .lost ∧ (lost .transit 1).inlet.restoreCount = 1 ∧
    (lost .transit 0).inlet.restoreCount = 0 ∧ run.inlet.cond ≠ .lost ∧ min 69 300 < 70 ∧ min 90 300 = 90 ∧
    run.cfg .irate * 11 < min 1101 2000 ∧ min 1100 2000 ≤ run.cfg .irate * 11 ∧ run.inlet.highCount < 2 ∧
    2 ≤ ({ run with inlet := { run.inlet with highCount := 2 } } : State).inlet.highCount := by decide +kernel

theorem test_meets_RestorationMovesThePowerState :
    (lost .transit 1).resetHeld = false ∧ (lost .transit 1).Calm ∧ (lost .riding 1).Calm ∧
    (lost .transit 1).inlet.cond = .lost ∧ (lost .riding 1).inlet.restoreCount = 1 ∧ (90 : Nat) ≤ 90 ∧
    (lost .transit 1).power.state = .transit ∧ (lost .riding 1).power.state = .riding := by
  unfold State.Calm; decide +kernel

theorem test_meets_RestorationMovesThePowerState_draining :
    let s : State := { pulsing .checking with
      power := { run.power with state := .draining, drain := some ⟨.cart, 5, 100⟩ }
      inlet := (lost .draining 1).inlet }
    s.resetHeld = false ∧ s.cust.reconActive = false ∧ s.inlet.cond = .lost ∧ s.inlet.restoreCount = 1 ∧
    s.arb.slotA.isSome = true ∧ s.power.state = .draining ∧ s.notices.queue.length ≤ 16 ∧
    s.notices.levels.get .inletBack ≠ 0 ∧ (lost .transit 1).power.drain = none := by decide +kernel

/-- A cart with a number of strikes recorded and two high samples counted. -/
def struck (n : Nat) : State :=
  { run with
    inlet := { run.inlet with
      highCount := 2, strikes := List.replicate n ⟨0, 600000⟩, holdoffDue := some 10000 } }

theorem test_meets_StrikesAreRecordedAndAgeOut :
    (struck 2).resetHeld = false ∧ (struck 2).Calm ∧ (struck 2).inlet.highCount = 2 ∧
    (struck 2).cfg .irate * 11 < min 1101 2000 ∧ (struck 2).power.state = .serving ∧
    (struck 2).inlet.latch = false ∧ 2 ≤ (struck 2).inlet.strikes.length ∧
    (struck 1).inlet.strikes = ⟨0, 600000⟩ :: [] ∧ (struck 0).inlet.holdoffDue = some 10000 := by
  unfold State.Calm; decide +kernel

theorem test_meets_TemperatureGivesTheDerating : run.resetHeld = false ∧ (-21 : Int) < -20 ∧ (100 : Int) < 101 ∧
    (-20 : Int) ≤ 35 ∧ (36 : Int) ≤ 54 ∧ (55 : Int) ≤ 100 := by decide

theorem test_meets_PoolFollowsTheTenSteps :
    (supplied 12 15).resetHeld = false ∧ (supplied 12 15).Calm ∧
    (after (exec .poolRecompute (supplied 12 15))).pool.inForce = 921 ∧
    (supplied 12 15).pool.atLast + 5 ≤ 921 := by unfold State.Calm; decide +kernel

/-- A cart in Riding in its lowering phase: the GRANT of bay 1 on the loop or not, that of bay 2 unsent. -/
def fallen (runs : Bool) : State :=
  let s := withBay 1 (fun b => { b with commanded := 5, applied := 20, outstanding := some ⟨5, 20⟩ }) (inPower .riding)
  { s with
    round := { s.round with state := .lowering, lowering := [0, 1] }
    loop := { s.loop with
      onLoop := if runs then some ⟨.grant .lower 0 5, 1, 3, false⟩ else none
      queued := [.grant .lower 1 5] } }

theorem test_meets_PoolFollowsTheTenSteps_fall :
    (fallen true).Calm ∧ (after (exec .poolRecompute (fallen true))).pool.inForce < (fallen true).countedSum ∧
    (fallen true).round.state = .lowering ∧ (Txn.grant .lower 0 5).isRoundsFor 0 = true ∧
    (0 : BayIx) ∈ (fallen true).round.lowering ∧
    (fallen true).loop.unsent.any (Txn.isRoundGrantFor 1) = true ∧
    ((fallen true).bay 1).outstanding = some ⟨5, 20⟩ ∧ (fallen false).loop.onLoop = none ∧
    (after (exec .poolRecompute (fallen true))).round.state = .lowering ∧
    (after (exec .poolRecompute (fallen false))).round.state = .idle := by unfold State.Calm; decide +kernel

/-- The cart of the audit example: means of 120 V and 8.12 A, bays reporting a total in watts. -/
def audited (total : Nat) : State :=
  let s : State := { run with now := 4000, inlet := { run.inlet with voltRing := [120], currRing := [812] } }
  s.modBay 0 fun b => { b with measured := total }

theorem test_one_audit : (after (exec .trimAudit (audited 820))).inlet.trim = 8 := by decide +kernel

theorem test_meets_AuditMovesTheTrim :
    run.resetHeld = false ∧ (audited 825).power.state = .serving ∧ (audited 825).round.state = .idle ∧
    (audited 825).arb.slotA = none ∧ (audited 825).arb.slotB = none ∧
    (audited 825).round.lastGrantChange + 1000 ≤ (audited 825).now ∧
    (after (exec .trimAudit (audited 824))).inlet.trim = 8 ∧
    (after (exec .trimAudit (audited 825))).inlet.trim = 0 ∧
    (after (exec .trimAudit (audited 850))).inlet.trim = -8 ∧
    (inPower .riding).power.state ≠ .serving := by decide +kernel

/-- A cart in Riding with its timer running and a pulse in flight. -/
def riding : State := { pulsing .checking with power := { run.power with state := .riding, rideDue := some 200 } }

theorem test_meets_RideThroughExpiryBeginsADrain :
    riding.resetHeld = false ∧ riding.sess.Sound ∧ riding.power.rideDue = some 200 ∧
    riding.arb.slotA.isSome ∧ riding.loopHeld = false :=
  ⟨rfl, test_run_sessions_sound, rfl, by decide, rfl⟩

/-- A cart in Riding with a session Linking, a Releasing bay 1 with its retract in flight, a Releasing bay 2 with it
queued, and Released bays 3 (present) and 4 (Lost). -/
def opened : State :=
  let r : WindowClock → Option Release := fun w => some ⟨30, w, none, .host, false, false⟩
  let s := withBay 0 (fun b => { b with custody := .releasing, release := r .notStarted }) <|
    withBay 1 (fun b => { b with custody := .releasing, release := r .notStarted }) <|
    withBay 2 (fun b => { b with custody := .released, release := r (.running 5000) }) <|
    withBay 3 (fun b => { b with custody := .released, release := r (.stopped 70), link := .lost }) (running .linking)
  { s with
    power := riding.power
    arb := ⟨[(1, .retract)], some ⟨0, .retract, 1, 300, 0, .checking⟩, none, false⟩ }

theorem test_meets_RideThroughExpiryBeginsADrain_stages :
    opened.resetHeld = false ∧ opened.sess.Sound ∧ opened.power.rideDue = some 200 ∧ opened.loopHeld = false ∧
    opened.arb.slotA.isSome = true ∧ opened.sess.queue = [session .linking] ∧
    (opened.bay 0).custody = .releasing ∧ opened.pulseInFlight 0 = true ∧ (opened.bay 1).custody = .releasing ∧
    opened.pulseInFlight 1 = false ∧ (1, Dir.retract) ∈ opened.arb.queue ∧ (opened.bay 2).custody = .released ∧
    (opened.bay 2).link = .linked ∧ (opened.bay 2).presence = some true ∧ (opened.bay 3).custody = .released ∧
    (opened.bay 3).link ≠ .linked :=
  ⟨rfl, test_running_sound _ _ (by decide), rfl, rfl, rfl, rfl, by decide +kernel, by decide +kernel,
    by decide +kernel, by decide +kernel, by decide, by decide +kernel, by decide +kernel, by decide +kernel,
    by decide +kernel, by decide +kernel⟩

theorem test_a_drain_deals_with_releases :
    let t := after (exec .rideThroughExpiry opened)
    [0, 1, 2, 3].map (fun i : BayIx => (t.bay i).custody) = [.releasing, .locked, .securing, .released] ∧
    t.power.drain = some ⟨.cart, 5, 15200⟩ := by decide +kernel

theorem test_meets_RideThroughExpiryBeginsADrain_end :
    let s : State := { riding with arb := run.arb }
    s.sess.Sound ∧ s.power.rideDue = some 200 ∧ s.arb.queue = [] ∧ s.arb.slotA = none ∧ s.arb.slotB = none ∧
    (∀ i, (s.bay i).custody ≠ .released) := by
  refine ⟨test_run_sessions_sound, rfl, rfl, rfl, rfl, ?_⟩
  decide +kernel

/-- A rebuild record in a phase. -/
def rebuilding (ph : RebuildPhase) : Rebuild := ⟨ph, .host, 1, 36, 0, 0, false, 100⟩

/-- A cart in a drain of a kind. -/
def draining (k : DrainKind) (c : InletCond) : State :=
  { run with
    power := { run.power with state := .draining, drain := some ⟨k, 5, 100⟩ }
    inlet := { run.inlet with cond := c }
    loop := { run.loop with rebuild := some (rebuilding .draining) } }

theorem test_meets_DrainLimitSwitchesTheLoopOff :
    (draining .cart .lost).resetHeld = false ∧ (draining .cart .lost).loop.power = true ∧
    (draining .cart .lost).round.state = .idle ∧ (draining .cart .lost).power.drain = some ⟨.cart, 5, 100⟩ ∧
    (draining .cart .lost).inlet.cond = .lost ∧ (draining .cart .normal).inlet.cond ≠ .lost ∧
    (draining .rebuild .normal).power.drain = some ⟨.rebuild, 5, 100⟩ ∧
    (draining .rebuild .normal).loop.rebuild.isSome = true := by decide +kernel

/-- A cart in a drain with the verification read of its last pulse, an engage of bay 1, on the loop. -/
def verifying : State :=
  let s := withBay 0 (fun b => { b with custody := .securing }) (draining .cart .lost)
  on (.verify .a 0) 1 (pulsing .checking 1 0 s)

theorem test_meets_DrainLimitSwitchesTheLoopOff_completion :
    verifying.resetHeld = false ∧ verifying.loop.power = true ∧ verifying.round.state = .idle ∧
    verifying.power.drain = some ⟨.cart, 5, 100⟩ ∧ verifying.loop.onLoop = some ⟨.verify .a 0, 1, 3, false⟩ ∧
    verifying.slot .a = some ⟨0, .engage, 1, 300, 0, .checking⟩ ∧ verifying.arb.queue = [] ∧
    verifying.arb.slotB = none ∧ verifying.cust.reconActive = false ∧ (verifying.bay 0).recon = .none ∧
    (verifying.bay 0).custody = .securing ∧
    answer? (.verify .a 0) (resp (.verify .a 0) 0 (block 0x03 10)) = some ⟨.ok, block 0x03 10⟩ ∧
    (Answer.block ⟨.ok, block 0x03 10⟩).presence = true ∧ (Answer.block ⟨.ok, block 0x03 10⟩).bolt = .engaged ∧
    (after (exec (.status (resp (.verify .a 0) 0 (block 0x03 10)) false) verifying)).power.state = .transit := by
  decide +kernel

/-- A cart in Settling, the loop off since a time. -/
def settling (since : Nat) : State :=
  { run with
    power := { run.power with state := .settling, settleDue := some 8000 }
    loop := { run.loop with power := false, offSince := since } }

theorem test_meets_SettleExpiryStartsTheRebuild :
    (settling 7500).resetHeld = false ∧ (settling 7500).Calm ∧ (settling 7500).loop.power = false ∧
    (settling 7500).power.settleDue = some 8000 ∧ (settling 7500).loop.offSince + 500 ≤ max 0 8000 ∧
    max 0 8000 < (settling 7501).loop.offSince + 500 := by unfold State.Calm; decide +kernel

theorem test_meets_SampleEntersTheRingsAndIsJudged_dropout :
    (69 : Nat) < 70 ∧ run.cust.reconActive = false ∧ run.power.drain = none ∧ run.power.state = .serving ∧
    (inPower .riding).power.state = .riding ∧ (inPower .transit).power.state = .transit ∧
    (draining .cart .lost).power.state = .draining ∧ (draining .cart .lost).power.drain.isSome = true ∧
    ({ draining .cart .lost with arb := riding.arb } : State).arb.slotA.isSome = true ∧
    ((withBay 0 fun b => { b with recon := .pending 0 }).bay 0).isPending = true ∧
    (settling 7500).power.state = .settling ∧ (settling 7500).power.drain = none ∧
    (settling 7500).cust.reconActive = false ∧ (inPower .settling).loop.power = true := by decide +kernel

/-- A cart with recompute pending. -/
def pend (s : State) : State := { s with round := { s.round with pending := true } }

theorem test_meets_RoundTakesItsSnapshotAndTargets :
    (pend divided).resetHeld = false ∧ (pend divided).Calm ∧ (pend divided).round.pending = true ∧
    (pend divided).round.state = .idle ∧ (pend divided).power.state = .serving ∧
    (pend divided).round.suspended = false ∧ (pend divided).round.raising = [] ∧
    (after (exec .roundBegin (pend divided))).round.raising ≠ [] ∧
    run.targetsNow[0] = 0 ∧ (run.bay 0).commanded = 0 ∧
    (withBay 0 fun b => { b with commanded := 1 }).targetsNow[0] = 0 := by unfold State.Calm; decide +kernel

theorem test_meets_TargetsFitTheAllocatablePool :
    divided.targetsNow[2] ≠ 0 ∧ (divided.bay 2).share.tier < (divided.bay 4).share.tier ∧
    (divided.bay 4).share.floor < divided.targetsNow[4] := by decide +kernel

theorem test_meets_PortLimitRefreshesEveryShare :
    run.Calm ∧ (ask run 0x10 [0x10, 0, 20]).Asks 0x10 3 (frame 0x10 [0x10, 0, 20]) ∧
    payByte (frame 0x10 [0x10, 0, 20]).payload 0 = 0x10 ∧
    settingTaken .pport (payNat (frame 0x10 [0x10, 0, 20]).payload 1 2) ≠ run.cfg .pport :=
  ⟨⟨rfl, rfl⟩, asks _ _ _ rfl, rfl, by decide +kernel⟩

/-! ### The bay loop -/

/-- A cart with a transaction queued. -/
def queued (t : Txn) (s : State := run) : State := { s with loop := { s.loop with queued := [t] } }

theorem test_meets_FrontOfTheHighestClassTakesTheLoop :
    (queued (.scan 0)).resetHeld = false ∧ (queued (.scan 0)).Calm ∧ (queued (.scan 0)).loop.onLoop = none ∧
    (queued (.scan 0)).loopHeld = false ∧ frontTxn (queued (.scan 0)).loop.queued = some (.scan 0) ∧
    (Txn.scan 0).bay? = some 0 ∧ ((queued (.scan 0)).bay 0).link = .linked ∧
    ((queued .shed).loop.power = true) := by unfold State.Calm; decide +kernel

theorem test_meets_WaitingPlacementTakesTheFreePlace :
    let s : State := { run with loop := { run.loop with waiting := [.scan 0], queued := List.replicate 63 .shed } }
    s.resetHeld = false ∧ s.loop.queued.length < 64 ∧ frontTxn s.loop.waiting = some (.scan 0) ∧
    s.loop.heldBack = [] := by decide +kernel

theorem test_meets_FailedAttemptIsSentAgain :
    (on (.scan 0) 2).resetHeld = false ∧ (on (.scan 0) 2).loop.onLoop = some ⟨.scan 0, 2, 3, false⟩ ∧
    (Txn.scan 0).address ≠ 63 ∧ answer? (.scan 0) [] = none := by decide +kernel

/-- A cart whose bay 1 has missed a number of transactions. -/
def missed (n : Nat) (link : LinkState) : State := on (.scan 0) 3 (withBay 0 fun b => { b with miss := n, link })

theorem test_meets_ThirdFailedAttemptIsAMiss :
    (missed 2 .linked).resetHeld = false ∧ (missed 2 .linked).Calm ∧
    (missed 2 .linked).loop.onLoop = some ⟨.scan 0, 3, 3, false⟩ ∧ (Txn.scan 0).bay? = some 0 ∧
    ((missed 2 .linked).bay 0).miss = 2 ∧ ((missed 2 .linked).bay 0).link = .linked ∧
    ((missed 3 .lost).bay 0).miss ≠ 2 ∧ ((missed 2 .lost).bay 0).link ≠ .linked ∧
    answer? (.scan 0) [1, 2] = none := by
  unfold State.Calm; decide +kernel

theorem test_meets_ThirdFailedAttemptIsAMiss_clients :
    let tag := on (.tag 0 false) 3 (withBay 0 fun b => { b with custody := .seating, tagTries := 1 })
    tag.Calm ∧ tag.loop.onLoop = some ⟨.tag 0 false, 3, 3, false⟩ ∧ (tag.bay 0).custody = .seating ∧
    (tag.bay 0).tagTries ≠ 0 ∧ (tag.bay 0).miss ≠ 2 ∧ (tag.bay 0).link = .linked ∧
    (on (.grant .raise 0 20) 3).loop.onLoop = some ⟨.grant .raise 0 20, 3, 3, false⟩ ∧
    (on (.grant .raise 0 20) 3).round.state = .idle := by unfold State.Calm; decide +kernel

theorem test_meets_StatusStoresTheReport :
    (on (.scan 0)).resetHeld = false ∧ (on (.scan 0)).Calm ∧
    (on (.scan 0)).loop.onLoop = some ⟨.scan 0, 1, 3, false⟩ ∧ (Txn.scan 0).opCode = 0x04 ∧
    (Txn.scan 0).bay? = some 0 ∧ answer? (.scan 0) (resp (.scan 0) 0 (block 0x33 10)) = some ⟨.ok, block 0x33 10⟩ ∧
    (Answer.block ⟨.ok, block 0x33 10⟩).overTemp = true ∧ (Answer.block ⟨.ok, block 0x33 10⟩).short = true ∧
    answer? (.scan 0) (resp (.scan 0) 1 []) = some ⟨.badOp, []⟩ ∧
    ((on (.scan 0) 1 (withBay 0 fun b => { b with link := .lost })).bay 0).link = .lost := by
  unfold State.Calm; decide +kernel

/-- A cart whose bay 1 has been over its bound twice. -/
def overBound : State := on (.scan 0) 1 (withBay 0 fun b => { b with overdrawCount := 2 })

theorem test_meets_ThirdReportOverTheBoundIsAFault :
    overBound.resetHeld = false ∧ overBound.Calm ∧ overBound.loop.onLoop = some ⟨.scan 0, 1, 3, false⟩ ∧
    (overBound.bay 0).overdraw = false ∧ (overBound.bay 0).overdrawCount = 2 ∧
    answer? (.scan 0) (resp (.scan 0) 0 (block 3 14)) = some ⟨.ok, block 3 14⟩ ∧
    (Answer.block ⟨.ok, block 3 14⟩).limit + max 3 ((Answer.block ⟨.ok, block 3 14⟩).limit / 10) <
      min (Answer.block ⟨.ok, block 3 14⟩).measured 60 ∧
    overBound.loop.power = true ∧ overBound.loopHeld = false ∧ overBound.round.state = .idle := by
  unfold State.Calm; decide +kernel

theorem test_meets_GrantAnswerSetsTheAppliedGrant :
    (on (.grant .raise 0 20)).resetHeld = false ∧ (on (.grant .raise 0 20)).Calm ∧
    (on (.grant .raise 0 20)).round.state = .idle ∧
    (on (.grant .raise 0 20)).loop.onLoop = some ⟨.grant .raise 0 20, 1, 3, false⟩ ∧
    (Txn.grant .raise 0 20).opCode = 0x06 ∧ (Txn.grant .raise 0 20).bay? = some 0 ∧
    answer? (.grant .raise 0 20) (resp (.grant .raise 0 20) 0 [20]) = some ⟨.ok, [20]⟩ := by
  unfold State.Calm; decide +kernel

/-- A cart in a phase of its round with the GRANT of bay 1 on the loop, in its last attempt or not. -/
def phased (lowering raising toRaise : List BayIx) (attempt : Nat) (cut : Bool) : State :=
  let s := on (.grant .lower 0 5) attempt { run with pool := { run.pool with inForce := 900 } }
  { s with
    round := { s.round with
      state := if lowering = [] then .raising else .lowering
      lowering, raising, toRaise, cut, targets := .replicate 36 20, backlog := 1 } }

theorem test_meets_GrantAnswerSetsTheAppliedGrant_round :
    (phased [0, 1] [] [2] 1 false).Calm ∧ (phased [0, 1] [] [2] 1 false).round.state = .lowering ∧
    (phased [0, 1] [] [2] 1 false).loop.onLoop = some ⟨.grant .lower 0 5, 1, 3, false⟩ ∧
    GrantKind.lower ≠ .fault false ∧ (phased [0, 1] [] [2] 1 false).loop.unsent = [] ∧
    (phased [0] [] [2] 1 false).round.lowering = [0] ∧ (phased [0] [] [2] 1 false).round.raising = [] ∧
    (phased [0] [] [] 1 true).round.cut = true ∧ (phased [] [0, 1] [] 1 false).round.state = .raising ∧
    (phased [] [0] [] 3 false).round.raising = [0] ∧ (phased [] [0] [] 3 false).round.backlog ≠ 0 ∧
    (phased [] [0] [] 3 false).loop.onLoop = some ⟨.grant .lower 0 5, 3, 3, false⟩ ∧
    answer? (.grant .lower 0 5) (resp (.grant .lower 0 5) 0 [5]) = some ⟨.ok, [5]⟩ ∧
    (after (exec (.grant (resp (.grant .lower 0 5) 0 [5])) (phased [0] [] [2] 1 false))).round.raising = [2] ∧
    (after (exec .responseWaitExpiry (phased [] [0] [] 3 false))).round.state = .idle := by
  unfold State.Calm; decide +kernel

/-- A cart with a tag read on the loop for bay 1 in Seating, and a roster. -/
def seated (tries : Nat) (roster : List Entry) : State :=
  let s := withBay 0 fun b => { b with custody := .seating, tagTries := tries, assetId := none, standing := none }
  on (.tag 0 false) 1 { s with cust := { s.cust with roster } }

/-- The response that carries the asset ID 9. -/
def tagOf9 : List Byte := resp (.tag 0 false) 0 [0, 0, 0, 0, 0, 0, 0, 9]

theorem test_meets_TagReadIdentifiesTheTablet :
    (seated 1 []).resetHeld = false ∧ (seated 1 []).Calm ∧
    (seated 1 []).loop.onLoop = some ⟨.tag 0 false, 1, 3, false⟩ ∧ ((seated 1 []).bay 0).custody = .seating ∧
    ((seated 1 []).bay 0).link = .linked ∧ 1 ≤ ((seated 1 []).bay 0).tagTries ∧
    ((seated 1 []).bay 0).tagTries < 2 ∧ 2 ≤ ((seated 2 []).bay 0).tagTries ∧
    answer? (.tag 0 false) (resp (.tag 0 false) 4 []) = some ⟨.noTag, []⟩ ∧
    answer? (.tag 0 false) tagOf9 = some ⟨.ok, [0, 0, 0, 0, 0, 0, 0, 9]⟩ ∧
    Answer.asset ⟨.ok, [0, 0, 0, 0, 0, 0, 0, 9]⟩ = 9 ∧
    (seated 1 []).entry? 9 = none ∧ (seated 1 []).cust.grace = false ∧ (seated 1 []).cfg .foreignPolicy = 0 ∧
    ({ (seated 1 []) with cust := { (seated 1 []).cust with grace := true } } : State).cust.grace = true ∧
    (seated 1 [⟨9, none, .docked 1, none, none⟩]).entry? 9 = some ⟨9, none, .docked 1, none, none⟩ ∧
    (seated 1 [⟨9, some 0, .out, none, none⟩]).entry? 9 = some ⟨9, some 0, .out, none, none⟩ ∧
    (seated 1 [⟨9, some 1, .out, none, none⟩]).entry? 9 = some ⟨9, some 1, .out, none, none⟩ ∧
    ({ (seated 1 []) with settings := run.settings.set .wrongHomePolicy 0 } : State).cfg .wrongHomePolicy ≠ 1 := by
  unfold State.Calm; decide +kernel

/-- A LOCK of bay 1 on the loop, sent by slot A. -/
def lockTxn : Txn := .lock .a 0 .engage 300

/-- A cart with that LOCK on the loop in an attempt of its pulse. -/
def locking (attempt busy : Nat) : State := on lockTxn 1 (pulsing (.sending none) attempt busy)

theorem test_meets_LockAnswerMovesThePulse :
    (locking 1 0).resetHeld = false ∧ (locking 1 0).Calm ∧ (locking 1 0).loop.onLoop = some ⟨lockTxn, 1, 3, false⟩ ∧
    lockTxn = .lock .a 0 .engage 300 ∧
    (locking 1 0).slot .a = some ⟨0, .engage, 1, 300, 0, .sending none⟩ ∧
    (locking 2 0).slot .a = some ⟨0, .engage, 2, 300, 0, .sending none⟩ ∧
    answer? lockTxn (resp lockTxn 0 []) = some ⟨.ok, []⟩ ∧
    answer? lockTxn (resp lockTxn 2 []) = some ⟨.badArg, []⟩ := by unfold State.Calm; decide +kernel

/-- A cart with the verification read of a pulse of bay 1 on the loop, and an entry of bay 2 queued. -/
def reading (d : Dir) (c : Custody) (r : Option Release) (attempt tries : Nat) : State :=
  let s := withBay 0 fun b => { b with custody := c, release := r }
  on (.verify .a 0) tries { s with arb := ⟨[(1, .engage)], some ⟨0, d, attempt, 300, 0, .checking⟩, none, false⟩ }

theorem test_reading_sound (d : Dir) (c : Custody) (r : Option Release) (attempt tries : Nat) :
    (reading d c r attempt tries).arb.Sound where
  once := by simp [reading, on]
  apartA := by intro p h; cases h; simp [reading, on]
  apartB := by intro p h; cases h
  apart := by intro p q _ h; cases h

/-- A release record with the cancel mark set or clear. -/
def cancelled (c : Bool) : Release := ⟨30, .notStarted, none, .host, c, false⟩

theorem test_meets_LockAnswerMovesThePulse_reads :
    let v : Txn := .verify .a 0
    (reading .engage .securing none 1 3).Calm ∧ (reading .engage .securing none 1 3).arb.Sound ∧
    (reading .engage .securing none 1 3).loop.onLoop = some ⟨v, 3, 3, false⟩ ∧
    (reading .engage .securing none 2 1).slot .a = some ⟨0, .engage, 2, 300, 0, .checking⟩ ∧
    ((reading .engage .securing none 1 3).bay 0).recon = .none ∧
    answer? v (resp v 1 []) = some ⟨.badOp, []⟩ ∧
    answer? v (resp v 0 (block 0x03 10)) = some ⟨.ok, block 0x03 10⟩ ∧
    (Answer.block ⟨.ok, block 0x03 10⟩).bolt = .engaged ∧ (Answer.block ⟨.ok, block 0x02 10⟩).presence = false ∧
    (Answer.block ⟨.ok, block 0x01 10⟩).bolt = .retracted ∧ (Answer.block ⟨.ok, block 0x00 10⟩).presence = false ∧
    ((reading .retract .releasing (some (cancelled true)) 1 1).bay 0).release = some (cancelled true) ∧
    ((reading .retract .releasing (some (cancelled false)) 1 1).bay 0).custody = .releasing ∧
    ((reading .retract .clearing none 1 1).bay 0).custody = .clearing ∧
    (reading .engage .securing none 1 1).arb.queue.find?
      (fun e => ((reading .engage .securing none 1 1).bay e.1).link = .linked) = some (1, .engage) ∧
    ((reading .engage .securing none 1 1).bay 0).link = .linked ∧
    (reading .engage .securing none 1 1).power.state = .serving ∧
    (after (exec (.status (resp v 0 (block 0x03 10)) false) (reading .engage .securing none 1 1))).slot .a =
      some ⟨1, .engage, 1, 300, 0, .sending none⟩ := by
  refine ⟨⟨rfl, rfl⟩, test_reading_sound _ _ _ _ _, ?_⟩
  decide +kernel

theorem test_meets_LockAnswerMovesThePulse_free :
    let s : State := { reading .engage .securing none 1 1 with arb := (pulsing .checking).arb }
    s.Calm ∧ s.loop.onLoop = some ⟨.verify .a 0, 1, 3, false⟩ ∧ s.slot .a = some ⟨0, .engage, 1, 300, 0, .checking⟩ ∧
    s.arb.queue = [] ∧ (s.bay 0).custody = .securing ∧
    (after (exec (.status (resp (.verify .a 0) 0 (block 0x03 10)) false) s)).slot .a = none := by
  unfold State.Calm; decide +kernel

theorem test_meets_LockAnswerMovesThePulse_grant :
    let s := fun l : LinkState => withBay 0 fun b =>
      { b with custody := .released, link := l, release := some ⟨30, .running 5000, none, .host, false, false⟩ }
    (s .linked).Calm ∧ (s .linked).power.state = .serving ∧ (s .linked).arb = ⟨[], none, none, false⟩ ∧
    (s .linked).windowDue 0 = some 5000 ∧ ((s .linked).bay 0).link = .linked ∧
    (s .lost).windowDue 0 = some 5000 ∧ ((s .lost).bay 0).link ≠ .linked := by unfold State.Calm; decide +kernel

theorem test_meets_BusyLockIsPlacedAgain :
    (locking 1 3).resetHeld = false ∧ (locking 1 3).Calm ∧
    (locking 1 3).slot .a = some ⟨0, .engage, 1, 300, 3, .sending none⟩ ∧
    (locking 1 4).slot .a = some ⟨0, .engage, 1, 300, 4, .sending none⟩ ∧
    (locking 2 4).slot .a = some ⟨0, .engage, 2, 300, 4, .sending none⟩ ∧
    answer? lockTxn (resp lockTxn 3 []) = some ⟨.busy, []⟩ := by unfold State.Calm; decide +kernel

theorem test_meets_LampAndShedEnd :
    (on .shed).resetHeld = false ∧ (on .shed).loop.onLoop = some ⟨.shed, 1, 3, false⟩ ∧
    (on (.lamp 0 .red)).Calm ∧ (on (.lamp 0 .red)).loop.onLoop = some ⟨.lamp 0 .red, 1, 3, false⟩ ∧
    answer? (.lamp 0 .red) (resp (.lamp 0 .red) 0 []) = some ⟨.ok, []⟩ ∧
    answer? (.lamp 0 .red) (resp (.lamp 0 .red) 2 []) = some ⟨.badArg, []⟩ := by
  unfold State.Calm; decide +kernel

/-- A cart in a rebuild with a transaction of it on the loop. -/
def discovering (t : Txn) (count : Nat := 36) : State :=
  on t 1 { run with loop := { run.loop with
    rebuild := some { rebuilding .discovering with bayCount := count } } }

theorem test_meets_DiscoveryWalksThePositions :
    (discovering (.discIdentify 0)).resetHeld = false ∧ (discovering (.discIdentify 0)).Calm ∧
    (discovering (.discIdentify 0)).loop.onLoop = some ⟨.discIdentify 0, 1, 3, false⟩ ∧
    (discovering (.discIdentify 0)).loop.rebuild = some (rebuilding .discovering) ∧
    (rebuilding .discovering).phase = .discovering ∧
    answer? (.discIdentify 0) (resp (.discIdentify 0) 0 [0, 0, 0, 0, 0, 5]) = some ⟨.ok, [0, 0, 0, 0, 0, 5]⟩ ∧
    answer? (.discAssign 0) (resp (.discAssign 0) 0 []) = some ⟨.ok, []⟩ ∧
    answer? (.discAssign 0) (resp (.discAssign 0) 2 []) = some ⟨.badArg, []⟩ ∧
    answer? (.discPass 34) (resp (.discPass 34) 0 []) = some ⟨.ok, []⟩ ∧ (34 : BayIx).1 + 1 < 36 ∧
    answer? (.discPass 35) (resp (.discPass 35) 0 []) = some ⟨.ok, []⟩ ∧ 36 ≤ (35 : BayIx).1 + 1 ∧
    answer? (.probeIdentify 35) (resp (.probeIdentify 35) 0 []) = some ⟨.ok, []⟩ := by
  unfold State.Calm; decide +kernel

theorem test_meets_DiscoveryWalksThePositions_timers :
    (on (.discAssign 0) 3 (discovering .shed)).Calm ∧
    (on (.discAssign 0) 3 (discovering .shed)).loop.onLoop = some ⟨.discAssign 0, 3, 3, false⟩ ∧
    (on (.probeIdentify 35) 3 (discovering .shed)).loop.onLoop = some ⟨.probeIdentify 35, 3, 3, false⟩ ∧
    (on (.discAssign 0) 3 (discovering .shed)).loop.rebuild = some (rebuilding .discovering) ∧
    (rebuilding .powerOff).phase = .powerOff ∧ (rebuilding .booting).phase = .booting ∧
    ({ run with loop := { run.loop with rebuild := some (rebuilding .booting) } } : State).resetHeld = false := by
  unfold State.Calm; decide +kernel

theorem test_meets_RebuildEndsAtThePositionReached_no_answer :
    let s := fun t : Txn => on t 3 (discovering .shed)
    (s (.discIdentify 0)).Calm ∧ (s (.discIdentify 0)).round.state = .idle ∧
    (s (.discIdentify 0)).loop.onLoop = some ⟨.discIdentify 0, 3, 3, false⟩ ∧
    (s (.discReset 5)).loop.onLoop = some ⟨.discReset 5, 3, 3, false⟩ ∧
    (s (.discPass 5)).loop.onLoop = some ⟨.discPass 5, 3, 3, false⟩ ∧
    (s (.probePass 35)).loop.onLoop = some ⟨.probePass 35, 3, 3, false⟩ ∧
    (∀ i, ((s (.discIdentify 0)).bay i).isPending = false) ∧
    (after (exec .responseWaitExpiry (s (.discPass 5)))).loop.scan.left = [1, 2, 3, 4, 5] ∧
    (after (exec .responseWaitExpiry (s (.discIdentify 0)))).cust.reconActive = false := by
  unfold State.Calm; decide +kernel

theorem test_meets_RebuildEndsAtThePositionReached :
    (discovering (.discIdentify 0)).Calm ∧ (discovering (.discIdentify 0)).round.state = .idle ∧
    answer? (.discIdentify 0) (resp (.discIdentify 0) 1 []) = some ⟨.badOp, []⟩ ∧
    answer? (.discPass 0) (resp (.discPass 0) 2 []) = some ⟨.badArg, []⟩ ∧
    answer? (.discReset 0) (resp (.discReset 0) 0 []) = some ⟨.ok, []⟩ ∧
    answer? (.probePass 35) (resp (.probePass 35) 0 []) = some ⟨.ok, []⟩ ∧
    (discovering (.probePass 35)).loop.onLoop = some ⟨.probePass 35, 1, 3, false⟩ := by
  unfold State.Calm; decide +kernel

/-- A cart whose scanner runs. -/
def scanning (active : Bool) (left : List BayIx) (s : State := run) : State :=
  { s with loop := { s.loop with scan := { Scan.stopped with running := true, passActive := active, left } } }

theorem test_meets_ScanVisitsEveryPosition :
    (scanning false []).resetHeld = false ∧ (scanning false []).loop.scan.running = true ∧
    (scanning false []).loopHeld = false ∧ (scanning false []).loop.scan.passActive = false ∧
    (allBays.filter fun i => ((scanning false []).bay i).link = .linked).head? = some 0 ∧
    (allBays.filter fun i => ((scanning false [] State.reset).bay i).link = .linked) = [] ∧
    (scanning true [3]).loop.scan.outstanding = false ∧
    (scanning true [3]).loop.scan.left.find? (fun i => ((scanning true [3]).bay i).link = .linked) = some 3 ∧
    (scanning true []).loop.scan.left = [] := by decide +kernel

/-- A cart with a bay Lost for a number of seconds. -/
def away (n : Secs) : State :=
  let s := withBay 0 fun b => { b with link := .lost, lostAt := some 0 }
  { s with retained := { s.retained with seconds := n } }

/-! ### Timers -/

theorem test_meets_BoltAndTagTimersPlaceTheirTransactions :
    (pulsing (.travel 350)).resetHeld = false ∧
    (pulsing (.travel 350)).slot .a = some ⟨0, .engage, 1, 300, 0, .travel 350⟩ ∧
    (pulsing (.sending (some 100))).slot .a = some ⟨0, .engage, 1, 300, 0, .sending (some 100)⟩ ∧
    (pulsing (.cooldown 1000)).slot .a = some ⟨0, .engage, 1, 300, 0, .cooldown 1000⟩ ∧
    ((withBay 0 fun b => { b with seatDue := some 2000 }).bay 0).seatDue = some 2000 ∧
    ((withBay 0 fun b => { b with tagRetryDue := some 1000 }).bay 0).tagRetryDue = some 1000 := by decide +kernel

/-- A release record with its window in a state. -/
def record (w : WindowClock) : Release := ⟨30, w, none, .host, false, false⟩

/-- A cart with bay 1 in a custody state of a release. -/
def released (c : Custody) (w : WindowClock) : State :=
  withBay 0 fun b => { b with custody := c, release := some (record w) }

/-! ### Custody and reconciliation -/

/-- The scan's STATUS on the loop for bay 1, in a custody state with a release record. -/
def scanned (c : Custody) (r : Option Release := none) (s : State := run) : State :=
  on (.scan 0) 1 (withBay 0 (fun b => { b with custody := c, release := r }) s)

/-- Flags of a STATUS: 1 present, 2 engaged, 8 latch. -/
def flags (f : Byte) : List Byte := resp (.scan 0) 0 (block f 10)

theorem test_run_arbiter_sound : run.arb.Sound :=
  ⟨by decide, (by intro p h; cases h), (by intro p h; cases h), (by intro p q h; cases h)⟩

theorem test_meets_StatusIsJudgedByCustody :
    (scanned .locked).resetHeld = false ∧ (scanned .locked).Calm ∧ (scanned .locked).sess.Sound ∧
    (scanned .locked).arb.Sound ∧ (scanned .locked).loop.onLoop = some ⟨.scan 0, 1, 3, false⟩ ∧
    ((scanned .locked).bay 0).recon = .none ∧ ((scanned .locked).bay 0).link = .linked ∧
    answer? (.scan 0) (flags 3) = some ⟨.ok, block 3 10⟩ ∧ answer? (.scan 0) (flags 9) = some ⟨.ok, block 9 10⟩ ∧
    (Answer.block ⟨.ok, block 3 10⟩).latch = false ∧ (Answer.block ⟨.ok, block 9 10⟩).latch = true ∧
    (Answer.block ⟨.ok, block 9 10⟩).presence = true ∧ (Answer.block ⟨.ok, block 2 10⟩).presence = false ∧
    (Answer.block ⟨.ok, block 2 10⟩).bolt = .engaged ∧ (Answer.block ⟨.ok, block 0 10⟩).bolt = .retracted ∧
    (scanned .locked).standing 0 = .none ∧ (scanned .locked).notices.queue.length ≤ 16 ∧
    (scanned .locked).notices.levels.get .tamper ≠ 0 ∧ (running .active).sess.Sound ∧
    ((scanned (.held .unknown)).bay 0).isHeld = true ∧
    ((scanned (.jammed .engage .securing)).bay 0).isJammed = true ∧
    ((scanned .seating).bay 0).seatDue = none ∧ ((scanned .seating).bay 0).tagTries = 0 ∧
    ((scanned .securing).bay 0).gone = false ∧
    (scanned .securing none (pulsing .checking)).pulseInFlight 0 = true ∧
    (scanned .locked).power.state = .serving ∧ (scanned .locked).sess.queue = [] ∧
    (scanned .locked none (inPower .riding)).power.state ≠ .serving := by
  refine ⟨rfl, ⟨rfl, rfl⟩, test_run_sessions_sound, test_run_arbiter_sound, ?_⟩
  refine ⟨?_, ?_, ?_, ?_, ?_, ?_, ?_, ?_, ?_, ?_, ?_, ?_, ?_, ?_, test_running_sound _ _ (by decide), ?_⟩
  all_goals decide +kernel

/-- A Lost bay 1 whose engage waits in the queue, with its scan's STATUS on the loop. -/
def returning : State :=
  let s := scanned .securing
  { s with arb := { s.arb with queue := [(0, .engage)] }, bays := s.bays.set 0 { s.bay 0 with link := .lost } }

theorem test_returning_arbiter_sound : returning.arb.Sound :=
  ⟨by decide, (by intro p h; cases h), (by intro p h; cases h), (by intro p q h; cases h)⟩

theorem test_meets_StatusIsJudgedByCustody_granted :
    returning.Calm ∧ returning.loop.onLoop = some ⟨.scan 0, 1, 3, false⟩ ∧ (returning.bay 0).link = .lost ∧
    returning.pulseInFlight 0 = false ∧ returning.slotLimit - returning.busySlots = 2 ∧
    ((after (exec (.status (flags 0) false) returning)).bay 0).custody = .securing ∧
    (after (exec (.status (flags 0) false) returning)).slot .a =
      some ⟨0, .engage, 1, 300, 0, .sending none⟩ := by unfold State.Calm; decide +kernel

/-- The custody state of bay 1 after a STATUS of these flags. -/
def judged (f : Byte) (s : State) (key : Bool := false) : Custody :=
  ((after (exec (.status (flags f) key) s)).bay 0).custody

theorem test_status_moves_custody :
    judged 1 (scanned .vacant) = .seating ∧ judged 3 (scanned .vacant) = .clearing ∧
    judged 0 (scanned .securing) = .vacant ∧ judged 0 (scanned .securing none (pulsing .checking)) = .securing ∧
    judged 2 (scanned .locked) = .clearing ∧ judged 1 (scanned .locked) = .securing ∧
    judged 0 (scanned .releasing) = .clearing ∧ judged 0 (scanned .released) = .vacant ∧
    judged 11 (scanned .locked) true = .releasing ∧ judged 11 (scanned .locked) = .locked := by decide +kernel

/-- A tablet taken from a Held bay leaves no notice (R67). -/
theorem test_a_removal_from_held_is_silent :
    judged 0 (scanned (.held .unknown)) = .vacant ∧
    (after (exec (.status (flags 0) false) (scanned (.held .unknown)))).notices.queue =
      (scanned (.held .unknown)).notices.queue := by decide +kernel

theorem test_a_held_no_tag_tablet_is_taken_late :
    let s := scanned .securing (some ⟨30, .stopped 0, none, .host, false, true⟩)
      (withBay 0 fun b => { b with assetId := none, standing := none })
    (after (exec (.status (flags 0) false) s)).notices.queue.getLast?.map (fun n => (n.kind, n.reason)) =
      some (.taken, some .late) := by decide +kernel

/-- A cart in reconciliation, of a case, with a transaction of bay 1 on the loop; bay 2 waits too or not. -/
def reconciling (k : ReconCase) (others : Bool) (t : Txn) (c : Custody) (m : ReconMark) (tries : Nat)
    (attempt : Nat := 1) : State :=
  let s := withBay 0 (fun b => { b with custody := c, recon := m, tagTries := tries, lampShown := some .off }) <|
    withBay 1 (fun b => { b with recon := if others then .pending 0 else .none }) (inPower .settling)
  on t attempt { s with
    cust := { s.cust with reconActive := true, reconCase := k, reconCause := .settle }
    arb := { s.arb with held := true }
    round := { s.round with suspended := true } }

theorem test_meets_ReconciliationDecidesEveryBay :
    let s := reconciling .warm true (.recon 0) .locked (.pending 2) 0
    s.resetHeld = false ∧ s.power.drain = none ∧ s.sess.Sound ∧ s.arb.Sound ∧
    s.loop.onLoop = some ⟨.recon 0, 1, 3, false⟩ ∧ (s.bay 0).recon = .pending 2 ∧ (s.bay 0).link = .linked ∧
    (s.bay 1).isPending = true ∧ s.cust.reconActive = true ∧ s.cust.reconCase = .warm ∧
    answer? (.recon 0) (resp (.recon 0) 0 (block 3 10)) = some ⟨.ok, block 3 10⟩ ∧
    answer? (.recon 0) (resp (.recon 0) 1 []) = some ⟨.badOp, []⟩ ∧
    (reconciling .cold true (.scan 0) .vacant (.pending 0) 0).cust.reconCase = .cold ∧
    ({ s with cust := { s.cust with reconActive := false } } : State).cust.reconActive = false ∧
    ((reconciling .warm true (.recon 0) .released (.pending 0) 0).bay 0).custody = .released ∧
    ((reconciling .warm true (.recon 0) (.held .noTag) .deferred 0).bay 0).isHeld = true ∧
    (∀ j, j ≠ 0 → ((reconciling .warm false (.recon 0) .vacant (.pending 0) 0).bay j).isPending = false) ∧
    (∀ j, ((reconciling .warm false (.recon 0) .vacant (.pending 0) 0).bay j).link ≠ .lost) ∧
    ((reconciling .warm false (.recon 0) .vacant (.pending 0) 0).bay 1).recon = .none ∧
    ((reconciling .warm false (.recon 0) .vacant (.pending 0) 0).bay 0).lampShown = some .off ∧
    ((reconciling .warm true (.recon 0) .locked (.pending 2) 0).bay 0).isPending = true ∧
    (reconciling .warm true (.tag 0 true) .locked (.pending 0) 1).loop.onLoop = some ⟨.tag 0 true, 1, 3, false⟩ ∧
    ((reconciling .warm true (.tag 0 true) .locked (.pending 0) 1).bay 0).bolt = some .engaged ∧
    ((reconciling .warm true (.tag 0 true) .locked (.pending 0) 1).bay 0).presence = some true ∧
    answer? (.tag 0 true) tagOf9 = some ⟨.ok, [0, 0, 0, 0, 0, 0, 0, 9]⟩ ∧
    answer? (.tag 0 true) (resp (.tag 0 true) 4 []) = some ⟨.noTag, []⟩ ∧
    (reconciling .warm true (.recon 0) .locked (.pending 0) 0 3).loop.onLoop = some ⟨.recon 0, 3, 3, false⟩ ∧
    (s.bay 0).miss ≠ 2 := by
  refine ⟨rfl, rfl, test_run_sessions_sound,
    ⟨by decide, (by intro p h; cases h), (by intro p h; cases h), (by intro p q h; cases h)⟩, ?_⟩
  decide +kernel

theorem test_reconciliation_decides :
    judged 1 (reconciling .cold true (.scan 0) .vacant (.pending 0) 0) = .seating ∧
    judged 2 (reconciling .cold true (.scan 0) .vacant (.pending 0) 0) = .clearing ∧
    judged 0 (reconciling .warm true (.scan 0) .locked (.pending 0) 0) = .vacant ∧
    judged 3 (reconciling .warm true (.scan 0) .releasing (.pending 0) 0) = .securing ∧
    (((after (exec (.tag tagOf9) (reconciling .warm true (.tag 0 true) .locked (.pending 0) 1))).bay 0).custody =
      .held .swapped) ∧
    (after (exec (.status (flags 0) false) (reconciling .warm false (.scan 0) .vacant (.pending 0) 0))).power.state =
      .serving := by decide +kernel

theorem test_meets_DisplayAndWindowEnd :
    (withBay 0 fun b => { b with displayDue := some 2000 }).resetHeld = false ∧
    (withBay 0 fun b => { b with displayDue := some 2000 }).Calm ∧
    ((withBay 0 fun b => { b with displayDue := some 2000 }).bay 0).displayDue = some 2000 ∧
    (released .released (.running 5000)).Calm ∧
    ((released .released (.running 5000)).bay 0).release = some (record (.running 5000)) ∧
    (record (.running 5000)).window.runsTo = some 5000 ∧
    ((released .released (.running 5000)).bay 0).custody = .released ∧
    (released .released (.running 5000)).standing 0 = .none := by unfold State.Calm; decide +kernel

theorem test_meets_SessionTimersEndTheSession :
    (running .linking).resetHeld = false ∧ (running .linking).Calm ∧ (running .linking).sess.Sound ∧
    (running .linking).sess.queue = [session .linking] ∧ (session .linking).due = some 500 ∧
    (running .active).sess.Sound ∧ (running .draining (some true)).sess.Sound ∧
    (running .draining (some false)).sess.Sound ∧ (session .linking).channel = some 0 :=
  ⟨rfl, ⟨rfl, rfl⟩, test_running_sound _ _ (by decide), rfl, rfl, test_running_sound _ _ (by decide),
    test_running_sound _ _ (by decide), test_running_sound _ _ (by decide), rfl⟩

theorem test_meets_HostSilenceWithdrawsTheQueuedSessions :
    waiting.resetHeld = false ∧ waiting.sess.Sound ∧ waiting.link.silenceDue = some 300000 ∧
    (∀ x ∈ waiting.sess.queue, x.state = .queued) := ⟨rfl, test_waiting_sound, rfl, by decide⟩

theorem test_meets_HoldupEpisodesAndSeconds :
    run.resetHeld = false ∧ (19 : Nat) < 20 ∧ (20 : Nat) ≤ 20 ∧ run.retained.lowEpisode = false ∧
    run.notices.levels.get .holdupLow ≠ 0 ∧ run.notices.queue.length < 32 := by decide +kernel

/-- A cart with its frame receiver in a state and a number of frames in its buffer. -/
def receiving (r : RxState) (n : Nat) : State :=
  { run with link := { run.link with rx := r, buffer := List.replicate n (frame 1 []) } }

theorem test_meets_FrameReceiverTakesEachByte :
    (receiving .hunting 0).resetHeld = false ∧ (receiving .hunting 0).link.rx = .hunting ∧
    (receiving .length 0).link.rx = .length ∧ (receiving (.body 2 []) 0).link.rx = .body 2 [] ∧
    (receiving (.checksum [0x12, 2]) 1).link.rx = .checksum [0x12, 2] ∧
    byteSum [0x12, 2] + byte [(0x12 : Byte), 2].length + 0xEA = 0 ∧
    byteSum [0x12, 2] + byte [(0x12 : Byte), 2].length + 0xEB ≠ 0 ∧
    (receiving .hunting 1).link.buffer.length < 2 ∧ 2 ≤ (receiving .hunting 2).link.buffer.length ∧
    (20000 : Nat) < 20001 := by decide +kernel

/-- A cart with a reply in hand. -/
def replying (clear : Bool) (begun : Nat) (next : AfterReply) : State :=
  { run with link := { run.link with tx := some ⟨[1, 2], begun, next⟩, clear, buffer := [frame 1 []] } }

theorem test_meets_ReplyIsSentUnderTheClearLine :
    (replying true 1 .fetch).resetHeld = false ∧ true = (replying true 1 .fetch).link.clear ∧
    false ≠ (replying true 1 .fetch).link.clear ∧
    (replying false 1 .nothing).link.tx = some ⟨[1, 2], 1, .nothing⟩ ∧ (1 : Nat) ≠ [(1 : Byte), 2].length ∧
    (2 : Nat) = [(1 : Byte), 2].length ∧ (replying false 2 .fetch).link.clear = false ∧
    AfterReply.fetch ≠ .restart := by decide +kernel

theorem test_meets_StartsTakeTheStartValues :
    ({ run with resetHeld := true } : State).resetHeld = true ∧ run.resetHeld = false ∧
    (replying true 1 .restart).link.tx = some ⟨[1, 2], 1, .restart⟩ ∧
    (replying true 1 .restart).link.clear = true ∧ run.retained.valid = true ∧ run.image = none := by decide +kernel

/-- A cart with a Restart answered, a session Linking, and bay 1 Released with its window running. -/
def restarting : State :=
  let s := withBay 0 (fun b => { b with custody := .released, release := some ⟨30, .running 5000, none, .host, false, false⟩ })
    (running .linking)
  { s with
    link := (replying true 1 .restart).link
    image := some ⟨.defaults, .replicate 4 (ChanCfg.dflt 0), .defaults⟩ }

theorem test_meets_StartsTakeTheStartValues_kept :
    restarting.resetHeld = false ∧ restarting.sess.Sound ∧ restarting.link.tx = some ⟨[1, 2], 1, .restart⟩ ∧
    restarting.link.clear = true ∧ restarting.retained.valid = true ∧ restarting.image.isSome = true ∧
    (restarting.bay 0).custody = .released ∧ restarting.sess.queue = [session .linking] :=
  ⟨rfl, test_running_sound _ _ (by decide), rfl, rfl, rfl, rfl, by decide +kernel, rfl⟩

theorem test_a_restart_says_what_it_ended :
    let t := after (exec (.replySent 20) restarting)
    t.notices.queue.map (fun n => (n.kind, n.reason)) =
      [(.started, some .storeLoaded), (.sessionEnded, some (.outcome .reset))] ∧
    ((t.bay 0).release.map (·.window)) = some (.stopped 5000) := by decide +kernel

theorem test_reset_stops_a_window :
    ((after (exec .resetPinAssert { restarting with now := 2000 })).bay 0).release.map (·.window) =
      some (.stopped 3000) := by decide +kernel

/-! ### Requests -/

/-- The payload byte of a request's frame. -/
def pay (p : List Byte) (k : Nat) : Nat := payByte (frame 1 p).payload k

theorem test_meets_RefusalsOnlyAnswer :
    let s := ask run 0x13 [2]
    s.resetHeld = false ∧ s.link.tx = none ∧ s.link.buffer.head? = some (frame 0x13 [2]) ∧
    requestKind? .setQuiet = some 0x13 ∧ (frame 0x13 []).kind.toNat = 0x13 ∧ payloadLength? 0x13 ≠ some 0 ∧
    (frame 0x12 []).kind.toNat ≠ 0x13 ∧ payloadLength? (frame 0x7F []).kind.toNat = none ∧
    exec .setQuiet s = .next (s.reply (frame 0x13 [2]) .badValue []) ∧
    0x11 ≤ (((replyBytes 1 0x13 .badValue []).getD 4 0).toNat) :=
  ⟨rfl, rfl, rfl, rfl, rfl, by decide, by decide, rfl, rfl, by decide⟩

theorem test_meets_EveryReplyIsAFrame :
    (ask run 0x13 [2]).link.tx = none ∧
    (after (exec .setQuiet (ask run 0x13 [2]))).link.tx = some ⟨replyBytes 1 0x13 .badValue [], 1, .nothing⟩ := by
  decide +kernel

theorem test_meets_CartReportsChangeNothing :
    (ask run 0x01 []).Asks 0x01 0 (frame 0x01 []) ∧ (ask run 0x02 []).Asks 0x02 0 (frame 0x02 []) ∧
    (ask run 0x05 []).Asks 0x05 0 (frame 0x05 []) ∧ (ask run 0x11 [1]).Asks 0x11 1 (frame 0x11 [1]) ∧
    pay [1] 0 = (Config.settingRow .irate).number ∧ pay [0x31] 0 = (Config.settingRow .attention).number ∧
    pay [0x28] 0 = 0x28 ∧ pay [0x40] 0 = 0x40 + 4 * (0 : ChanIx).1 + 0 ∧
    pay [0x4F] 0 = 0x40 + 4 * (3 : ChanIx).1 + 3 ∧ (∀ i, pay [0x07] 0 ≠ (Config.settingRow i).number) ∧
    pay [0x07] 0 < 0x40 ∧ (∀ i, pay [0x50] 0 ≠ (Config.settingRow i).number) ∧ 0x4F < pay [0x50] 0 :=
  ⟨asks _ _ _ rfl, asks _ _ _ rfl, asks _ _ _ rfl, asks _ _ _ rfl, rfl, rfl, rfl, rfl, rfl,
    by intro i; cases i <;> decide, by decide, by intro i; cases i <;> decide, by decide⟩

/-- The presence bytes of a pulse standing, of a Jammed direction and of a window not started (R195). -/
theorem test_absent_fields_carry_a_presence_byte :
    pulseBytes .none = [0, 0, 0, 0, 0, 0, 0, 0, 0] ∧
    pulseBytes (.queued .engage 1) = [1, 1, 0, 1, 0, 0, 0, 0, 0] ∧
    pulseBytes (.inFlight .a ⟨0, .retract, 2, 300, 0, .checking⟩) = [2, 1, 1, 0, 1, 0, 2, 1, 2] ∧
    ((withBay 0 fun b => { b with custody := .jammed .engage .securing }).summaryBytes 0).take 5 = [0, 8, 0, 1, 0] ∧
    (run.summaryBytes 0).take 5 = [0, 3, 0, 0, 0] ∧
    run.releaseBytes (record .notStarted) = [30, 0, 0, 0, 0, 0, 0, 0, 0, 0, 0, 0] ∧
    run.releaseBytes (record (.stopped 7000)) = [30, 2, 1, 0, 7, 0, 0, 0, 0, 0, 0, 0] := by decide +kernel

theorem test_meets_BayReportsChangeNothing :
    (ask run 0x03 [0]).Asks 0x03 1 (frame 0x03 [0]) ∧ (ask run 0x04 [37]).Asks 0x04 1 (frame 0x04 [37]) ∧
    pay [0] 0 = 0 ∧ 36 < pay [37] 0 ∧ pay [36] 0 = bayNumber 35 ∧
    (ask run 0x23 [0]).Asks 0x23 1 (frame 0x23 [0]) ∧
    (ask run 0x22 [0, 0, 0, 0, 0, 0, 0, 7]).Asks 0x22 8 (frame 0x22 [0, 0, 0, 0, 0, 0, 0, 7]) ∧
    run.entry? (BitVec.ofNat 64 (payNat [0, 0, 0, 0, 0, 0, 0, 7] 0 8)) = some ⟨7, none, .docked 0, none, none⟩ ∧
    (ask run 0x37 [0]).Asks 0x37 1 (frame 0x37 [0]) ∧ (ask run 0x45 [0]).Asks 0x45 1 (frame 0x45 [0]) ∧
    (running .active).session? 1 = some (session .active) ∧ run.session? 1 = none :=
  ⟨asks _ _ _ rfl, asks _ _ _ rfl, rfl, by decide, rfl, asks _ _ _ rfl, asks _ _ _ rfl, by decide +kernel,
    asks _ _ _ rfl, asks _ _ _ rfl, rfl, rfl⟩

/-- A bay above the bay count in force is reported Absent, its presence and bolt unknown (R177). -/
theorem test_a_bay_above_the_count_is_reported_absent :
    let s : State := { run with loop := { run.loop with bayCount := 20 } }
    s.linkReported 20 = .absent ∧ s.linkReported 19 = .linked ∧
    (s.custodyBytes 20).drop 16 = 0 :: 0 :: 0 :: 0 :: (s.custodyBytes 20).drop 20 ∧
    (s.bayPayload 20).getLast? = some 0 := by decide +kernel

theorem test_meets_SettingsTakeTheirValues :
    (ask run 0x10 [0x19, 0, 2]).Calm ∧
    (ask run 0x10 [0x19, 0, 2]).Asks 0x10 3 (frame 0x10 [0x19, 0, 2]) ∧
    pay [0x19, 0, 2] 0 = (Config.settingRow .foreignPolicy).number ∧ Config.enumerated .foreignPolicy = true ∧
    1 < payNat [0x19, 0, 2] 1 2 ∧ payNat [0x19, 0, 1] 1 2 ≤ 1 ∧ Config.enumerated .settle = false ∧
    payNat [0x0A, 0, 32] 1 2 ≤ 32 ∧ 32 < payNat [0x0A, 0, 33] 1 2 ∧ run.cfg .silence ≠ silenceTaken 0 ∧
    (∀ i, pay [0x3F, 0, 1] 0 ≠ (Config.settingRow i).number) ∧ pay [0x3F, 0, 1] 0 < 0x40 ∧
    (∀ i, pay [0x50, 0, 1] 0 ≠ (Config.settingRow i).number) ∧ 0x4F < pay [0x50, 0, 1] 0 ∧
    pay [0x4F, 0, 1] 0 = 0x40 + 4 * (3 : ChanIx).1 + (3 : Fin 4).1 ∧
    pay [0x43, 0, 2] 0 = 0x40 + 4 * (0 : ChanIx).1 + (3 : Fin 4).1 ∧ 1 < payNat [0x43, 0, 2] 1 2 ∧
    payNat [0x40, 0, 0] 1 2 ≤ 1 ∧ (run.chan 0).wanted.enabled = true ∧ (run.chan 0).state = .free ∧
    ((running .active).chan 0).state = .busy ∧
    (ask run 0x13 [1]).Asks 0x13 1 (frame 0x13 [1]) ∧ payByte [1] 0 ≤ 1 :=
  ⟨⟨rfl, rfl⟩, asks _ _ _ rfl, rfl, rfl, by decide, by decide, rfl, by decide, by decide, by decide +kernel,
    by intro i; cases i <;> decide, by decide, by intro i; cases i <;> decide, by decide, rfl, rfl, by decide,
    by decide, rfl, rfl, rfl, asks _ _ _ rfl, by decide⟩

/-- A size of 12 for channel 2 is taken as 16, and a base of 20 as 16 (R112). -/
theorem test_channel_fields_are_brought_into_shape :
    let sized := after (exec .setSetting (ask run 0x10 [0x46, 0, 12]))
    let based := after (exec .setSetting (ask run 0x10 [0x45, 0, 20]))
    (sized.chan 1).cfg = ⟨true, 16, 16, false⟩ ∧ (based.chan 1).cfg = ⟨true, 16, 16, false⟩ ∧
    based.link.tx.map (·.bytes) = some (replyBytes 1 0x10 .clamped [0x45, 0, 16]) := by decide +kernel

theorem test_meets_ImageAndLevelsAreWritten :
    (ask run 0x12 []).Asks 0x12 0 (frame 0x12 []) ∧
    (ask run 0x61 [0x20, 6]).Asks 0x61 2 (frame 0x61 [0x20, 6]) ∧ (∀ k, pay [0, 0] 0 ≠ (Config.kindRow k).1) ∧
    pay [0x20, 6] 0 = (Config.kindRow .tamper).1 ∧ Config.fixedLevel .tamper = true ∧ payByte [0x20, 6] 1 < 7 ∧
    7 ≤ payByte [0x20, 7] 1 ∧ Config.fixedLevel .started = false :=
  ⟨asks _ _ _ rfl, asks _ _ _ rfl, by intro k; cases k <;> decide, rfl, rfl, by decide, by decide, rfl⟩

theorem test_meets_FetchRemovesTheOldestNotices :
    (ask run 0x60 [0]).Asks 0x60 1 (frame 0x60 [0]) ∧ (ask run 0x60 [9]).Asks 0x60 1 (frame 0x60 [9]) :=
  ⟨asks _ _ _ rfl, asks _ _ _ rfl⟩

/-- A payload that is the asset ID 9, and one that is the asset ID 7. -/
def id9 : List Byte := [0, 0, 0, 0, 0, 0, 0, 9]
/-- The asset ID 7. -/
def id7 : List Byte := [0, 0, 0, 0, 0, 0, 0, 7]

theorem test_meets_RosterRequestsCheckTheirValues :
    (ask run 0x20 (id9 ++ [37])).Asks 0x20 9 (frame 0x20 (id9 ++ [37])) ∧ 36 < pay (id9 ++ [37]) 8 ∧
    BitVec.ofNat 64 (payNat (List.replicate 8 (0 : Byte)) 0 8) = 0 ∧
    (ask run 0x21 id9).Asks 0x21 8 (frame 0x21 id9) ∧ (ask run 0x22 id9).Asks 0x22 8 (frame 0x22 id9) ∧
    BitVec.ofNat 64 (payNat id9 0 8) ≠ 0 ∧ ∀ e ∈ run.cust.roster, e.asset ≠ BitVec.ofNat 64 (payNat id9 0 8) :=
  ⟨asks _ _ _ rfl, by decide, by decide, asks _ _ _ rfl, asks _ _ _ rfl, by decide, by decide⟩

/-- A cart that holds the asset 9 as Foreign in bay 3, with an empty roster. -/
def foreign : State :=
  let s := withBay 2 fun b => { b with assetId := some 9, standing := some .foreign }
  { s with cust := { s.cust with roster := [] } }

theorem test_meets_RosterPutAdoptsAndDropLeavesForeign :
    (ask foreign 0x20 (id9 ++ [36])).Asks 0x20 9 (frame 0x20 (id9 ++ [36])) ∧ pay (id9 ++ [36]) 8 ≤ 36 ∧
    BitVec.ofNat 64 (payNat (id9 ++ [36]) 0 8) = 9 ∧ foreign.entry? 9 = none ∧ foreign.cust.roster.length < 64 ∧
    (foreign.bay 2).assetId = some 9 ∧ (foreign.bay 2).standing = some .foreign ∧
    (foreign.bay 2).custody = .locked ∧ (∀ j, j < (2 : BayIx) → (foreign.bay j).assetId ≠ some 9) ∧
    (run.entry? 7).isSome ∧ run.entry? 9 = none ∧ (∀ i, (run.bay i).assetId ≠ some 9) ∧
    64 ≤ ((List.range 64).map fun n => (⟨BitVec.ofNat 64 (n + 10), none, .out, none, none⟩ : Entry)).length :=
  ⟨asks _ _ _ rfl, by decide, by decide, by decide, by decide, by decide +kernel, by decide +kernel,
    by decide +kernel, by decide +kernel, by decide, by decide, by decide +kernel, by decide⟩

theorem test_meets_ReleasesAreRefusedInOrder :
    (ask run 0x30 [1, 0, 0, 0, 0, 0, 2]).Asks 0x30 7 (frame 0x30 [1, 0, 0, 0, 0, 0, 2]) ∧
    1 < pay [1, 0, 0, 0, 0, 0, 2] 6 ∧ pay [1, 0, 0, 0, 0, 0, 1] 6 ≤ 1 ∧ pay [37] 0 = 37 ∧
    ¬ bayNumber 35 ≤ 35 ∧ bayNumber 35 ≤ run.loop.bayCount ∧ (run.bay 35).link ≠ .absent ∧
    (inPower .riding).power.state ≠ .serving ∧
    ((withBay 0 fun b => { b with link := .lost }).bay 0).link ≠ .linked ∧
    ((withBay 0 fun b => { b with custody := .jammed .engage .securing }).bay 0).isJammed = true ∧
    ((withBay 0 fun b => { b with custody := .vacant }).bay 0).custody = .vacant ∧
    ((running .active).bay 0).releasable = true ∧ (running .active).sess.Sound ∧
    (∃ x ∈ (running .active).sess.queue, x.bay = 0 ∧ x.state ≠ .queued) ∧
    (ask run 0x31 (id7 ++ [0, 0, 0, 0, 0, 0])).Asks 0x31 14 (frame 0x31 (id7 ++ [0, 0, 0, 0, 0, 0])) ∧
    run.entry? 9 = none ∧ run.entry? 7 = some ⟨7, none, .docked 0, none, none⟩ ∧
    (seated 1 [⟨9, some 0, .out, none, none⟩]).entry? 9 = some ⟨9, some 0, .out, none, none⟩ ∧
    (ask run 0x32 [0, 0, 0, 0, 0, 0]).Asks 0x32 6 (frame 0x32 [0, 0, 0, 0, 0, 0]) ∧
    (∀ i, (foreign.bay i).custody = .locked → (foreign.bay i).standing = some .docked → i ≠ 2) :=
  ⟨asks _ _ _ rfl, by decide, by decide, rfl, by decide, by decide, by decide +kernel, by decide, by decide +kernel,
    by decide +kernel, by decide +kernel, by decide +kernel, test_running_sound _ _ (by decide),
    ⟨session .active, by simp [running], rfl, by decide⟩, asks _ _ _ rfl, by decide, by decide, by decide,
    asks _ _ _ rfl, by decide +kernel⟩

theorem test_release_best_finds_none :
    (∀ i, ((withBay 0 id { run with bays := .replicate 36 Bay.start }).bay i).custody ≠ .locked) ∧
    run.sess.Sound := ⟨by decide +kernel, test_run_sessions_sound⟩

theorem test_meets_AcceptedReleaseOpensTheBay :
    (ask run 0x30 [36, 121, 0, 0, 0, 0, 0]).Calm ∧ (ask run 0x30 [36, 121, 0, 0, 0, 0, 0]).sess.Sound ∧
    (ask run 0x30 [36, 121, 0, 0, 0, 0, 0]).power.state = .serving ∧
    (ask run 0x30 [36, 121, 0, 0, 0, 0, 0]).Asks 0x30 7 (frame 0x30 [36, 121, 0, 0, 0, 0, 0]) ∧
    pay [36, 121, 0, 0, 0, 0, 0] 0 = bayNumber 35 ∧ bayNumber 35 ≤ run.loop.bayCount ∧
    (run.bay 35).link = .linked ∧ (run.bay 35).releasable = true ∧ run.standing 35 = .none ∧
    run.sess.queue = [] ∧ waiting.sess.Sound ∧
    ((withBay 0 fun b => { b with custody := .held .unknown }).bay 0).releasable = true ∧
    (ask run 0x31 (id7 ++ [4, 1, 2, 3, 4, 1])).Asks 0x31 14 (frame 0x31 (id7 ++ [4, 1, 2, 3, 4, 1])) ∧
    (ask readied 0x32 [0, 0, 0, 0, 0, 1]).Asks 0x32 6 (frame 0x32 [0, 0, 0, 0, 0, 1]) ∧
    (0 : BayIx) ∈ readied.cust.readySet ∧ (∀ j, readied.readyKey 0 ≤ readied.readyKey j) ∧
    run.cfg .bestMin ≤ (run.bay 0).soc.getD 0 ∧ run.cust.readySet = [] ∧
    (run.bay 0).standing = some .docked ∧ (run.bay 0).overdraw = false ∧ (run.bay 0).hot = false :=
  ⟨⟨rfl, rfl⟩, test_run_sessions_sound, rfl, asks _ _ _ rfl, rfl, by decide, by decide +kernel, by decide +kernel,
    by decide +kernel, rfl, test_waiting_sound, by decide +kernel, asks _ _ _ rfl, asks _ _ _ rfl, by decide,
    by decide +kernel, by decide +kernel, rfl, by decide +kernel, by decide +kernel, by decide +kernel⟩

/-- A cart with a retract of bay 1 queued. -/
def retracting : State :=
  let s := released .releasing .notStarted
  { s with arb := { s.arb with queue := [(0, .retract)] } }

theorem test_meets_CancelAndAdmitMoveTheBay :
    (ask retracting 0x33 [1]).Calm ∧ (ask retracting 0x33 [1]).Asks 0x33 1 (frame 0x33 [1]) ∧
    pay [1] 0 = bayNumber 0 ∧ retracting.power.state = .serving ∧ (retracting.bay 0).custody = .releasing ∧
    ((0 : BayIx), Dir.retract) ∈ retracting.arb.queue ∧
    ((released .releasing .notStarted).bay 0).custody = .releasing ∧
    (pulsing .checking).pulseInFlight 0 = true ∧
    ((released .released (.running 5000)).bay 0).custody = .released ∧ (run.bay 0).custody ≠ .releasing ∧
    (ask run 0x34 [1]).Asks 0x34 1 (frame 0x34 [1]) ∧ (run.bay 0).isHeld = false ∧
    ((withBay 0 fun b => { b with custody := .held .noTag }).bay 0).isHeld = true ∧
    ((withBay 1 fun b => { b with custody := .held .duplicate }).bay 1).assetId = some 7 ∧
    run.entry? 7 = some ⟨7, none, .docked 0, none, none⟩ ∧ (0 : BayIx) ≠ 1 ∧
    ((withBay 0 fun b => { b with assetId := none }).bay 0).assetId = none :=
  ⟨⟨rfl, rfl⟩, asks _ _ _ rfl, rfl, rfl, by decide +kernel, by decide, by decide +kernel, by decide +kernel,
    by decide +kernel, by decide +kernel, asks _ _ _ rfl, by decide +kernel, by decide +kernel, by decide +kernel,
    by decide, by decide, by decide +kernel⟩

theorem test_retracting_arbiter_sound : retracting.arb.Sound :=
  ⟨by decide, (by intro p h; cases h), (by intro p h; cases h), (by intro p q h; cases h)⟩

theorem test_meets_ReadySetIsChosenAndCleared :
    (ask run 0x35 [0]).Calm ∧ (ask run 0x35 [0]).Asks 0x35 1 (frame 0x35 [0]) ∧
    (ask run 0x35 [37]).Asks 0x35 1 (frame 0x35 [37]) ∧ (inPower .riding).power.state ≠ .serving ∧
    run.power.state = .serving ∧ (ask readied 0x36 []).Asks 0x36 0 (frame 0x36 []) ∧ run.cust.readySet = [] :=
  ⟨⟨rfl, rfl⟩, asks _ _ _ rfl, asks _ _ _ rfl, by decide, rfl, asks _ _ _ rfl, rfl⟩

/-- A member chosen again is not told to the allocator as one that left: its tier stands as it was kept, and no recompute
is marked (R28, R91). -/
theorem test_a_member_chosen_again_marks_nothing :
    let s := withBay 0 (fun b => { b with share := ⟨20, 5, 1⟩, kept := some ⟨20, 5, 1⟩ })
      { run with cust := { run.cust with readySet := [0] }, round := { run.round with pending := false } }
    (s.prepareReady 1).cust.readySet = [0] ∧ (s.prepareReady 1).round.pending = false ∧
    (s.emptyReady .host).round.pending = true ∧
    (s.prepareReady 1).notices.queue.getLast?.map (·.kind) = some .readySetChanged := by decide +kernel

/-- Open Session of bay 36, class Update, the class default of the charge, idle limit 601. -/
def opening : List Byte := [36, 1, 255, 2, 0x59]

theorem test_meets_OpenSessionAdmitsOrRefuses :
    (ask run 0x40 opening).Calm ∧ (ask run 0x40 opening).sess.Sound ∧
    (ask run 0x40 opening).Asks 0x40 5 (frame 0x40 opening) ∧ classOf? (pay opening 1) = some .update ∧
    pay opening 0 = bayNumber 35 ∧ 2 < pay [1, 3] 1 ∧ bayNumber 35 ≤ run.loop.bayCount ∧
    (run.bay 35).link ≠ .absent ∧ run.power.state = .serving ∧ (run.bay 35).custody = .locked ∧
    (35 : BayIx) ∉ run.cust.readySet ∧ (0 : BayIx) ∈ readied.cust.readySet ∧ run.sessionOf? 35 = none ∧
    (waiting.sessionOf? 0).isSome ∧ (run.chan 2).cfg.enabled = true ∧ (run.chan 2).cfg.base ≤ (35 : BayIx).1 ∧
    (35 : BayIx).1 < (run.chan 2).cfg.base + (run.chan 2).cfg.size ∧ (run.chan 2).cfg.restricted = false ∧
    run.sess.queue.length < 24 ∧ run.session? run.sess.nextId = none ∧ (run.bay 35).soc.getD 0 = 60 ∧
    (run.chan 2).state = .free ∧ ¬ (35 : BayIx).1 < (run.chan 1).cfg.base + (run.chan 1).cfg.size ∧
    run.sess.queue = [] ∧ (run.bay 35).link = .linked ∧ 25 ≤ (run.bay 35).soc.getD 0 ∧
    (after (exec .openSession (ask run 0x40 opening))).sess.queue.map (fun x => (x.id, x.channel)) =
      [(1, some 2)] :=
  ⟨⟨rfl, rfl⟩, test_run_sessions_sound, asks _ _ _ rfl, rfl, rfl, by decide, by decide, by decide +kernel, rfl,
    by decide +kernel, by decide, by decide, rfl, rfl, rfl, by decide, by decide, rfl, by decide, rfl,
    by decide +kernel, rfl, by decide, rfl, by decide +kernel, by decide +kernel, by decide +kernel⟩

theorem test_meets_SessionRequestsFollowTheState :
    (running .active).sess.Sound ∧ (ask (running .active) 0x42 [1, 101]).Asks 0x42 2 (frame 0x42 [1, 101]) ∧
    (running .active).session? 1 = some (session .active) ∧ run.session? 1 = none ∧ pay [0] 0 = 0 ∧
    (ask (running .linking) 0x41 [1]).Asks 0x41 1 (frame 0x41 [1]) ∧ (session .linking).state = .linking ∧
    (ask (running .active) 0x43 [1, 1]).Asks 0x43 2 (frame 0x43 [1, 1]) ∧ pay [1, 1] 1 ≤ 1 ∧ 1 < pay [1, 2] 1 ∧
    (ask (running .active) 0x43 [1, 2]).Asks 0x43 2 (frame 0x43 [1, 2]) ∧
    (ask run 0x43 [9, 2]).Asks 0x43 2 (frame 0x43 [9, 2]) ∧ run.session? (pay [9, 2] 0) = none ∧
    (ask (running .active) 0x44 [1]).Asks 0x44 1 (frame 0x44 [1]) ∧
    (ask (running .active) 0x45 [1]).Asks 0x45 1 (frame 0x45 [1]) ∧ (session .draining).state = .draining :=
  ⟨test_running_sound _ _ (by decide), asks _ _ _ rfl, rfl, rfl, rfl, asks _ _ _ rfl, rfl, asks _ _ _ rfl,
    by decide, by decide, asks _ _ _ rfl, asks _ _ _ rfl, rfl, asks _ _ _ rfl, asks _ _ _ rfl, rfl⟩

/-- An unknown identifier with a bad result is refused Unknown (R121: checked before any other; L11); a bad result comes
before the session's state (R174). -/
theorem test_finish_checks_identifier_and_result_before_state :
    (after (exec .finishSession (ask run 0x43 [9, 2]))).link.tx.map (·.bytes) =
      some (replyBytes 1 0x43 .unknown []) ∧
    (after (exec .finishSession (ask (running .linking) 0x43 [1, 2]))).link.tx.map (·.bytes) =
      some (replyBytes 1 0x43 .badValue []) := by decide +kernel

theorem test_meets_AbortEndsTheSession :
    (running .linking).sess.Sound ∧
    (ask (running .linking) 0x44 [1]).Asks 0x44 1 (frame 0x44 [1]) ∧
    (ask (running .linking) 0x44 [1]).session? (pay [1] 0) = some (session .linking) ∧
    (ask (running .draining) 0x44 [1]).session? (pay [1] 0) = some (session .draining) ∧
    (session .linking).due = some 500 ∧ (session .active).state = .active :=
  ⟨test_running_sound _ _ (by decide), asks _ _ _ rfl, rfl, rfl, rfl, rfl⟩

theorem test_meets_ChargeFaultRebuildAndRestart_auto :
    (away 10).resetHeld = false ∧ (away 10).Calm ∧ (away 10).cfg .autoRebuild = 1 ∧
    (away 10).power.state = .serving ∧ (away 10).loop.rebuild = none ∧ ((away 10).bay 0).link = .lost ∧
    ((away 10).bay 0).lostAt = some 0 ∧
    (away 10).cfg .rebuildHoldoff ≤ ((away 10).retained.seconds - 0).toNat ∧
    ((away 9).retained.seconds - 0).toNat < (away 9).cfg .rebuildHoldoff ∧ (away 10).loop.power = true ∧
    (away 10).arb.queue = [] ∧ (away 10).arb.slotA = none ∧ (away 10).arb.slotB = none ∧
    (∀ i, ((away 10).bay i).custody ≠ .released) ∧ riding.arb.slotA.isSome = true ∧
    (after (exec .autoRebuildCheck (away 10))).loop.rebuild.map (fun r => (r.cause, r.phase)) =
      some (.auto, .powerOff) ∧
    (after (exec .autoRebuildCheck { away 10 with arb := riding.arb })).loop.rebuild.map
      (fun r => (r.cause, r.phase)) = some (.auto, .draining) := by unfold State.Calm; decide +kernel

theorem test_meets_ChargeFaultRebuildAndRestart :
    run.power.drain = none ∧ run.Calm ∧ (ask run 0x50 [36, 2]).Asks 0x50 2 (frame 0x50 [36, 2]) ∧
    1 < pay [36, 2] 1 ∧ pay [36, 1] 1 ≤ 1 ∧ pay [36, 1] 0 = bayNumber 35 ∧ pay [36, 1] 0 ≤ run.loop.bayCount ∧
    36 < pay [37, 0] 0 ∧ run.round.state ≠ .lowering ∧ run.round.state ≠ .raising ∧ (ask run 0x51 [0]).Asks 0x51 1 (frame 0x51 [0]) ∧ pay [0] 0 = 0 ∧
    (run.bay 0).overdraw = false ∧ (run.bay 0).isJammed = false ∧
    ((withBay 0 fun b => { b with overdraw := true }).bay 0).overdraw = true ∧
    ((withBay 0 fun b => { b with custody := .jammed .retract .releasing }).bay 0).custody =
      .jammed .retract .releasing ∧
    (ask run 0x52 []).Asks 0x52 0 (frame 0x52 []) ∧ (discovering .shed).loop.rebuild.isSome = true ∧
    run.loop.rebuild = none ∧ run.cust.reconActive = false ∧ (inPower .riding).power.state ≠ .serving ∧
    (ask run 0x53 []).Asks 0x53 0 (frame 0x53 []) :=
  ⟨rfl, ⟨rfl, rfl⟩, asks _ _ _ rfl, by decide, by decide, rfl, by decide, by decide, by decide, by decide,
    asks _ _ _ rfl, rfl, by decide +kernel, by decide +kernel, by decide +kernel, by decide +kernel, asks _ _ _ rfl, rfl, rfl, rfl,
    by decide, asks _ _ _ rfl⟩

/-- Bay 1 Jammed so, with a release record whose window is this one. -/
def jammedWith (d : Dir) (o : JamOrigin) (w : WindowClock) : State := withBay 0 fun b =>
  { b with custody := .jammed d o, release := some ⟨30, w, some 5, .host, false, false⟩ }

/-- A bay that an engage jammed while Releasing becomes Securing with its record kept and the late-take mark set (R69,
R78, L71); one returned to Released has its window running from its time remaining (R69, L70), in Transit stopped (R90). -/
theorem test_a_release_leaves_jammed_with_its_record :
    let out := fun s : State => ((after (exec .clearFault (ask s 0x51 [1]))).bay 0)
    ((jammedWith .engage .releasing .notStarted).bay 0).custody = .jammed .engage .releasing ∧
    ((jammedWith .retract .released (.stopped 4000)).bay 0).custody = .jammed .retract .released ∧
    (out (jammedWith .engage .releasing .notStarted)).custody = .securing ∧
    (out (jammedWith .engage .releasing .notStarted)).release =
      some ⟨30, .notStarted, some 5, .host, false, true⟩ ∧
    (out (jammedWith .retract .released (.stopped 4000))).release =
      some ⟨30, .running (run.now + 4000), some 5, .host, false, false⟩ ∧
    (out { jammedWith .retract .released (.stopped 4000) with power := (inPower .transit).power }).release =
      some ⟨30, .stopped 4000, some 5, .host, false, false⟩ := by decide +kernel

/-- A retract that jammed a Securing bay brings it back to Securing, with its asset field and roster entry (L19). -/
theorem test_a_securing_bay_leaves_jammed_as_it_was :
    let s := withBay 0 fun b => { b with custody := .jammed .retract .securing }
    let t := after (exec .clearFault (ask s 0x51 [1]))
    (t.bay 0).custody = .securing ∧ (t.bay 0).assetId = some 7 ∧ (t.bay 0).standing = some .docked ∧
    t.cust.roster = run.cust.roster ∧ t.pulseInFlight 0 = true := by decide +kernel

theorem test_meets_EachBlockIsWrittenByItsOwnCommands_clauses :
    run.Calm ∧ run.arb.Sound ∧ onlyServes .secondsTick = true ∧ leavesRound .scanPassStart = true ∧
    mayMoveRoster .poolRecompute = false ∧ mayMovePower .poolRecompute = false ∧
    mayMoveRebuild .poolRecompute = false ∧ mayMoveLine .poolRecompute = false ∧
    mayMoveSessions .poolRecompute = false ∧ mayMoveCustody .poolRecompute = false ∧
    mayMovePower .resetPinAssert = false ∧ mayMoveRoster .resetPinAssert = false :=
  ⟨⟨rfl, rfl⟩, test_run_arbiter_sound, rfl, rfl, rfl, rfl, rfl, rfl, rfl, rfl, rfl, rfl⟩

theorem test_meets_EachBlockIsWrittenByItsOwnCommands :
    exec .poolRecompute run = .next (after (exec .poolRecompute run)) ∧ Instr.poolRecompute ≠ .setSetting ∧
    (∀ k x, Instr.poolRecompute ≠ .powerOn k x) ∧ (∀ x, Instr.poolRecompute ≠ .replySent x) ∧
    (∀ y, (replying true 1 .fetch).link.tx = some y → y.after ≠ .restart) :=
  ⟨rfl, by decide, by simp, by simp, by intro y h; cases h; decide⟩

end Sys2Proof.Tests
end

/-! What every command keeps sound (O4): one lemma for each thing a command does to a part that runs, the starts and the
assertion of the reset pin apart, and then one case for each command. -/

namespace Sys2Proof.Machine

/-! ### A part that runs -/

/-- The part runs soundly: the reset pin is high and the invariant of a running part holds. -/
structure State.Runs (s : State) : Prop where
  awake : s.resetHeld = false
  sound : s.RunSound

theorem State.Inv.runs {s : State} (h : s.Inv) (awake : s.resetHeld = false) : s.Runs := ⟨awake, h.running awake⟩

theorem State.Runs.inv {s : State} (h : s.Runs) : s.Inv :=
  ⟨fun _ => h.sound, fun held => absurd (h.awake.symm.trans held) (by simp)⟩

theorem State.RunSound.good {s : State} (h : s.RunSound) : Good s.notices s :=
  ⟨Raised.refl _, h.arbiter, h.sessions⟩

/-- An operation that keeps what events keep, and keeps notices, arbiter, sessions and supply sound. -/
theorem State.Runs.of_kept {s t : State} (h : s.Runs) (kept : t.kept = s.kept)
    (good : Good s.notices s → Good s.notices t) (supply : s.SupplySound → t.SupplySound) : t.Runs := by
  obtain ⟨raised, arb, sess⟩ := good h.sound.good
  have assets : t.cust.roster.map (·.asset) = s.cust.roster.map (·.asset) := congrArg Kept.assets kept
  exact ⟨(resetHeld_of_kept kept).trans h.awake,
    { notices := raised.sound h.sound.notices
      arbiter := arb
      sessions := sess
      inlet := inlet_of_kept kept ▸ h.sound.inlet
      roster := assets ▸ h.sound.roster
      settings := settings_of_kept kept ▸ h.sound.settings
      buffer := buffer_of_kept kept ▸ h.sound.buffer
      supply := supply h.sound.supply }⟩

/-- An update of parts of which the invariant says nothing. -/
theorem State.Runs.same {s t : State} (h : s.Runs) (awake : t.resetHeld = s.resetHeld := by rfl)
    (notices : t.notices = s.notices := by rfl) (arb : t.arb = s.arb := by rfl)
    (sess : t.sess = s.sess := by rfl) (inlet : t.inlet = s.inlet := by rfl)
    (assets : t.cust.roster.map (·.asset) = s.cust.roster.map (·.asset) := by rfl)
    (settings : t.settings = s.settings := by rfl) (buffer : t.link.buffer = s.link.buffer := by rfl)
    (power : t.power.state = s.power.state := by rfl) (pool : t.pool.inForce = s.pool.inForce := by rfl) :
    t.Runs := by
  refine ⟨awake.trans h.awake, notices ▸ h.sound.notices, arb ▸ h.sound.arbiter, sess ▸ h.sound.sessions,
    inlet ▸ h.sound.inlet, assets ▸ h.sound.roster, settings ▸ h.sound.settings, buffer ▸ h.sound.buffer, ?_⟩
  unfold State.SupplySound
  rw [power, inlet, pool]
  exact h.sound.supply

theorem State.Runs.reach {s : State} (h : s.Runs) (due : Nat) : (s.reach due).Runs := h.same

theorem State.Runs.settle {s : State} (h : s.Runs) : s.settle.Runs :=
  h.of_kept (kept_settle s) good_settle supply_settle

theorem State.Runs.lines {s : State} (h : s.Runs) : s.lines.Runs :=
  h.of_kept (kept_lines s) good_lines supply_lines

theorem State.Runs.reply {s : State} (h : s.Runs) (f : RxFrame) (r : Result) (p : List Byte)
    (a : AfterReply) : (s.reply f r p a).Runs := h.same

theorem State.Runs.raise {s : State} (h : s.Runs) (k : NoticeKind) (bay : Option BayIx) (asset : Option AssetId)
    (session : Option Nat) (value : Option Nat) (reason : Option Reason) :
    (s.raise k bay asset session value reason).Runs :=
  h.of_kept (kept_raise ..) (good_raise _ _ _ _ _ _) (supply_raise _ _ _ _ _ _)

theorem State.Runs.recomputePool {s : State} (h : s.Runs) : s.recomputePool.Runs :=
  h.of_kept (kept_recomputePool s) good_recomputePool fun _ => supply_recomputePool s

/-- The end of a timer or of a period, taken at its moment. -/
theorem State.Runs.atDue {s : State} (h : s.Runs) (due : Option Nat) {f : State → State}
    (hf : ∀ d, (s.reach d).Runs → (f (s.reach d)).Runs) : (s.atDue due f).Runs := by
  unfold State.atDue
  split
  · exact hf _ (h.reach _)
  · exact h

/-- What an event of a part that is not held in reset does, it does to a running part. -/
theorem inv_live {s t u : State} (h : s.Inv) (e : live s u = .next t) (run : s.Runs → u.Inv) : t.Inv := by
  cases held : s.resetHeld with
  | true =>
    rw [live, held, if_pos rfl] at e
    exact (Host.Outcome.next.inj e) ▸ h
  | false =>
    rw [live, held, if_neg (by simp)] at e
    exact (Host.Outcome.next.inj e) ▸ run (h.runs held)

theorem inv_run {s t u : State} (h : s.Inv) (e : live s u = .next t) (run : s.Runs → u.Runs) : t.Inv :=
  inv_live h e fun r => (run r).inv

/-! ### The inlet -/

theorem pushRing_length (l : List Nat) (v : Nat) (h : l.length ≤ 8) : (pushRing l v).length ≤ 8 := by
  unfold pushRing; split <;> simp <;> omega

theorem pushRing_bound (l : List Nat) (v b : Nat) (h : ∀ x ∈ l, x ≤ b) (hv : v ≤ b) :
    ∀ x ∈ pushRing l v, x ≤ b := by
  intro x hx
  rcases List.mem_append.1 hx with hx | hx
  · split at hx
    · exact h x hx
    · exact h x (List.mem_of_mem_tail hx)
  · exact List.mem_singleton.1 hx ▸ hv

/-- A voltage sample within its range keeps the inlet sound (R1, R2). -/
theorem Inlet.Sound.afterVoltage {x : Inlet} (h : x.Sound) {v : Nat} (hv : v ≤ 300) : (x.afterVoltage v).Sound := by
  have len := pushRing_length x.voltRing v h.volts.1
  have bound := pushRing_bound x.voltRing v 300 h.volts.2 hv
  have count := h.restore
  refine ⟨?_, h.amps, ?_, h.high, h.trim, h.derate⟩
  · unfold Inlet.afterVoltage
    dsimp only
    split
    · exact ⟨(List.length_drop ..).trans_le (by omega), fun y hy => bound y (List.mem_of_mem_drop hy)⟩
    · exact ⟨len, bound⟩
  · show (if v < 90 then 0 else if x.cond = .lost then
      (if (decide (x.cond = .lost) && decide (90 ≤ v) && decide (1 ≤ x.restoreCount)) = true then 0
        else x.restoreCount + 1) else x.restoreCount) ≤ 1
    split
    · omega
    · split
      · rename_i high lost
        simp only [lost, decide_true, Bool.true_and, Bool.and_eq_true, decide_eq_true_eq]
        split <;> omega
      · exact count

/-- A current sample within its range keeps the inlet sound (R4, R14). -/
theorem Inlet.Sound.afterCurrent {x : Inlet} (h : x.Sound) (threshold : Nat) {a : Nat} (ha : a ≤ 2000) (now : Nat)
    (time : Secs) : (x.afterCurrent threshold a now time).Sound := by
  refine ⟨h.volts, ⟨pushRing_length _ _ h.amps.1, pushRing_bound _ _ _ h.amps.2 ha⟩, h.restore, ?_, h.trim, h.derate⟩
  show (if threshold < a ∧ x.highCount < 2 then x.highCount + 1 else 0) ≤ 2
  split <;> omega

theorem Inlet.Sound.afterTemperature {x : Inlet} (h : x.Sound) (t : Int) : (x.afterTemperature t).Sound :=
  ⟨h.volts, h.amps, h.restore, h.high, h.trim, rfl⟩

/-- The trim stays within −40 and +80 at an audit (R13). -/
theorem trimAfter_range (trim delta : Int) (h : -40 ≤ trim ∧ trim ≤ 80) :
    -40 ≤ trimAfter trim delta ∧ trimAfter trim delta ≤ 80 := by
  unfold trimAfter; split <;> [skip; split] <;> omega

/-- An operation that changes the inlet alone of what events keep. -/
theorem State.Runs.of_inlet {s t : State} (h : s.Runs) (x : Inlet) (kept : t.kept = { s.kept with inlet := x })
    (sound : x.Sound) (good : Good s.notices s → Good s.notices t) (supply : s.SupplySound → t.SupplySound) :
    t.Runs := by
  obtain ⟨raised, arb, sess⟩ := good h.sound.good
  have inlet : t.inlet = x := congrArg Kept.inlet kept
  have assets : t.cust.roster.map (·.asset) = s.cust.roster.map (·.asset) := congrArg Kept.assets kept
  have awake : t.resetHeld = s.resetHeld := congrArg Kept.resetHeld kept
  have settings : t.settings = s.settings := congrArg Kept.settings kept
  have buffer : t.link.buffer = s.link.buffer := congrArg Kept.buffer kept
  exact ⟨awake.trans h.awake,
    { notices := raised.sound h.sound.notices
      arbiter := arb
      sessions := sess
      inlet := inlet ▸ sound
      roster := assets ▸ h.sound.roster
      settings := settings ▸ h.sound.settings
      buffer := buffer ▸ h.sound.buffer
      supply := supply h.sound.supply }⟩

theorem State.Runs.takeVoltage {s : State} (h : s.Runs) (volts : Nat) : (s.takeVoltage volts).Runs :=
  h.of_inlet _ (kept_takeVoltage s volts) (h.sound.inlet.afterVoltage (Nat.min_le_right _ _))
    (good_takeVoltage volts) (supply_takeVoltage volts)

theorem State.Runs.takeCurrent {s : State} (h : s.Runs) (amps : Nat) : (s.takeCurrent amps).Runs :=
  h.of_inlet _ (kept_takeCurrent s amps) (h.sound.inlet.afterCurrent _ (Nat.min_le_right _ _) _ _)
    (good_takeCurrent amps) (supply_takeCurrent amps)

theorem State.Runs.takeTemperature {s : State} (h : s.Runs) (t : Int) : (s.takeTemperature t).Runs :=
  h.of_inlet _ (kept_takeTemperature s t) (h.sound.inlet.afterTemperature t)
    (good_takeTemperature t) (supply_takeTemperature t)

theorem State.Runs.audit {s : State} (h : s.Runs) : s.audit.Runs := by
  obtain ⟨volts, amps, restore, high, trim, derate⟩ := h.sound.inlet
  exact h.of_inlet _ (kept_audit s) ⟨volts, amps, restore, high, trimAfter_range _ _ trim, derate⟩ good_audit
    supply_audit

/-- A change of the inlet that leaves the condition and the latch. -/
theorem State.Runs.setInlet {s : State} (h : s.Runs) (x : Inlet) (sound : x.Sound) (cond : x.cond = s.inlet.cond)
    (latch : x.latch = s.inlet.latch) : State.Runs { s with inlet := x } :=
  h.of_inlet x rfl sound (good_inlet x) (supply_inlet x cond latch)

theorem State.Runs.sample {s : State} (h : s.Runs) (volts amps : Nat) : (s.sample volts amps).Runs := by
  have due := (h.reach s.inlet.sampleDue).setInlet { s.inlet with sampleDue := s.inlet.sampleDue + 100 }
    ⟨h.sound.inlet.1, h.sound.inlet.2, h.sound.inlet.3, h.sound.inlet.4, h.sound.inlet.5, h.sound.inlet.6⟩ rfl rfl
  exact ((due.takeVoltage volts).takeCurrent amps).settle

/-! ### The loop -/

@[simp] theorem kept_beginNext (n : Nat) (s : State) : (s.beginNext n).kept = s.kept := by
  induction n generalizing s with
  | zero => rfl
  | succ n ih =>
    unfold State.beginNext
    split
    · rfl
    · dsimp only
      split
      · rfl
      · split
        · rfl
        · rw [ih, kept_ended]; rfl

theorem State.Runs.beginNext {s : State} (h : s.Runs) (n : Nat) : (s.beginNext n).Runs := by
  induction n generalizing s with
  | zero => exact h
  | succ n ih =>
    unfold State.beginNext
    split
    · exact h
    · next t _ =>
      dsimp only
      have dropped : State.Runs { s with loop := { s.loop with queued := s.loop.queued.erase t } } := h.same
      split
      · exact h
      · split
        · exact dropped.of_kept (kept_send ..) (good_send t) (supply_send t)
        · exact ih (dropped.of_kept (kept_ended ..) (good_ended _ _ _) (supply_ended _ _ _))

theorem State.Runs.failedAttempt {s : State} (h : s.Runs) (o : OnLoop) : (s.failedAttempt o).Runs :=
  h.of_kept (kept_failedAttempt s o) (good_failedAttempt o) (supply_failedAttempt o)

theorem State.Runs.onAnswer {s : State} (h : s.Runs) (op : Nat) (resp : List Byte) : (s.onAnswer op resp).Runs := by
  unfold State.onAnswer
  split
  · split
    · split
      · exact h.of_kept (kept_answered ..) (good_answered _ _) (supply_answered _ _)
      · exact h
    · exact h
  · exact h

theorem State.Runs.startRebuild {s : State} (h : s.Runs) (c : RebuildCause) : (s.startRebuild c).Runs :=
  h.of_kept (kept_startRebuild s c) (good_startRebuild c) (supply_startRebuild c)

theorem State.Runs.autoCheck {s : State} (h : s.Runs) : s.autoCheck.Runs :=
  h.of_kept (kept_autoCheck s) good_autoCheck supply_autoCheck

/-! ### The timers -/

theorem State.Runs.modBay {s : State} (h : s.Runs) (i : BayIx) (f : Bay → Bay) : (s.modBay i f).Runs :=
  h.of_kept (kept_modBay ..) (good_modBay i f) (supply_modBay i f)

theorem State.Runs.place {s : State} (h : s.Runs) (t : Txn) : (s.place t).Runs :=
  h.of_kept (kept_place s t) (good_place t) (supply_place t)

/-- The pulse of a slot taken to another phase. -/
theorem State.Runs.setSlot {s : State} (h : s.Runs) (k : PulseSlot) (p q : Pulse) (e : s.slot k = some q)
    (bay : p.bay = q.bay) : (s.setSlot k (some p)).Runs :=
  h.of_kept (kept_setSlot ..) (good_setSlot k p q e bay) (supply_setSlot k _)

theorem State.Runs.startAttempt {s : State} (h : s.Runs) (k : PulseSlot) (p q : Pulse) (e : s.slot k = some q)
    (bay : p.bay = q.bay) : (s.startAttempt k p).Runs :=
  (h.setSlot k { p with ms := s.cfg .pulseLength, busy := 0, phase := .sending none } q e bay).place _

theorem State.Runs.pulseTimer {s : State} (h : s.Runs) (k : PulseSlot) (due : Pulse → Option Nat)
    {f : State → Pulse → State} (hf : ∀ u p, u.Runs → u.slot k = some p → (f u p).Runs) :
    (s.pulseTimer k due f).Runs := by
  unfold State.pulseTimer
  split
  · next p e =>
    exact h.atDue _ fun d r => hf _ p r (by cases k <;> exact e)
  · exact h

theorem State.Runs.endSession {s : State} (h : s.Runs) (id : Nat) (o : SessOutcome) : (s.endSession id o).Runs :=
  h.of_kept (kept_endSession s id o) (good_endSession id o) (supply_endSession id o)

theorem State.Runs.endSessionsIn {s : State} (h : s.Runs) (p : SessState → Bool) (o : SessOutcome) :
    (s.endSessionsIn p o).Runs :=
  h.of_kept (kept_endSessionsIn s p o) (good_endSessionsIn p o) (supply_endSessionsIn p o)

theorem State.Runs.goStandalone {s : State} (h : s.Runs) : s.goStandalone.Runs := by
  have alone : State.Runs { s with link := { s.link with silenceDue := none, standalone := true } } := h.same
  unfold State.goStandalone
  exact (State.Runs.raise alone _ _ _ _ _ _).endSessionsIn _ _

theorem State.Runs.senseHoldup {s : State} (h : s.Runs) (charge : Nat) : (s.senseHoldup charge).Runs := by
  unfold State.senseHoldup
  split
  · have low : State.Runs { s with retained := { s.retained with lowEpisode := true } } := h.same
    exact low.raise ..
  · split
    · exact h.same
    · exact h

/-! ### The host line -/

theorem State.Runs.arrive {s : State} (h : s.Runs) (body : List Byte) : (s.arrive body).Runs := by
  unfold State.arrive
  split
  · refine ⟨h.awake, h.sound.notices, h.sound.arbiter, h.sound.sessions, h.sound.inlet, h.sound.roster,
      h.sound.settings, ?_, h.sound.supply⟩
    simp only [List.length_append, List.length_singleton]
    omega
  · exact h

theorem State.Runs.receive {s : State} (h : s.Runs) (b : Byte) (gap : Nat) : (s.receive b gap).Runs := by
  unfold State.receive
  dsimp only
  have taken : State.Runs { s with link := { s.link with rx := (s.link.rx.gapped gap).next b } } := h.same
  split
  · exact (taken.arrive _).lines
  · exact taken

/-! ### Starts -/

/-- What a start finds in Retained Memory is sound: the roster and the trim (R192). -/
structure State.Remembers (s : State) : Prop where
  roster : RosterSound (s.cust.roster.map (·.asset))
  trim : -40 ≤ s.inlet.trim ∧ s.inlet.trim ≤ 80

theorem State.Inv.remembers {s : State} (h : s.Inv) : s.Remembers := by
  cases held : s.resetHeld with
  | true => exact ⟨(h.held held).roster, (h.held held).trim⟩
  | false => exact ⟨(h.running held).roster, (h.running held).inlet.trim⟩

theorem RosterSound.nil : RosterSound [] := ⟨by simp, List.nodup_nil, by simp⟩

theorem State.Remembers.recall {s : State} (h : s.Remembers) (c : StartCause) : (s.recall c).Remembers := by
  cases c with
  | cold => exact ⟨RosterSound.nil, by simp [State.recall]⟩
  | warmPin => exact ⟨h.roster, h.trim⟩
  | warmRestart => exact ⟨h.roster, h.trim⟩

/-- The value taken for a setting is taken as it is (R174, R189). -/
theorem settingTaken_idem (i : SettingId) (v : Nat) : settingTaken i (settingTaken i v) = settingTaken i v := by
  have clamp : ∀ lo hi : Nat, min (max (min (max v lo) hi) lo) hi = min (max v lo) hi := by omega
  cases i with
  | settle => simp only [settingTaken, settleTaken]; split_ifs <;> omega
  | silence => simp only [settingTaken, silenceTaken]; split_ifs <;> omega
  | _ => exact clamp _ _

theorem settingIx_inj (i j : SettingId) (h : Config.settingIx i = Config.settingIx j) : i = j := by
  revert h; cases i <;> cases j <;> decide

@[simp] theorem get_set_self (c : Settings) (i : SettingId) (v : Nat) : (c.set i v).get i = v := by
  simp [Settings.get, Settings.set]

theorem get_set_ne (c : Settings) {i j : SettingId} (v : Nat) (h : j ≠ i) : (c.set i v).get j = c.get j := by
  simp only [Settings.get, Settings.set]
  exact Vector.getElem_set_ne _ _ fun e => h (settingIx_inj j i (Fin.ext e.symm))

/-- A fold of settings replaced leaves each with the value given for it. -/
theorem get_foldl_set (f : SettingId → Nat) (l : List SettingId) (c : Settings) (j : SettingId) :
    (l.foldl (fun d i => d.set i (f i)) c).get j = if j ∈ l then f j else c.get j := by
  induction l generalizing c with
  | nil => rfl
  | cons a l ih =>
    rw [List.foldl_cons, ih]
    by_cases e : j = a
    · subst e; simp
    · simp [e, get_set_ne c (f a) e]

theorem mem_allSettings (i : SettingId) : i ∈ Config.allSettings := by cases i <;> decide

/-- Every setting of an image is loaded as Set Setting would take it (L27). -/
theorem loadSettings_get (c : Settings) (i : SettingId) : (loadSettings c).get i = settingTaken i (c.get i) := by
  rw [loadSettings, get_foldl_set, if_pos (mem_allSettings i)]

theorem defaults_get (i : SettingId) : Settings.defaults.get i = (Config.settingRow i).dflt := by
  rw [Settings.defaults, get_foldl_set (fun i => (Config.settingRow i).dflt), if_pos (mem_allSettings i)]

theorem SettingsSound.defaults : SettingsSound Settings.defaults := by
  intro i; rw [defaults_get]; cases i <;> decide

theorem SettingsSound.set {c : Settings} (h : SettingsSound c) (i : SettingId) (v : Nat) :
    SettingsSound (c.set i (settingTaken i v)) := by
  intro j
  by_cases e : j = i
  · subst e; rw [get_set_self, settingTaken_idem]
  · rw [get_set_ne c _ e, h j]

theorem kindIx_inj (i j : NoticeKind) (h : Config.kindIx i = Config.kindIx j) : i = j := by
  revert h; cases i <;> cases j <;> decide

@[simp] theorem level_set_self (l : Levels) (k : NoticeKind) (v : Nat) : (l.set k v).get k = v := by
  simp [Levels.get, Levels.set]

theorem level_set_ne (l : Levels) {k j : NoticeKind} (v : Nat) (h : j ≠ k) : (l.set k v).get j = l.get j := by
  simp only [Levels.get, Levels.set]
  exact Vector.getElem_set_ne _ _ fun e => h (kindIx_inj j k (Fin.ext e.symm))

theorem level_foldl_set (f : NoticeKind → Nat) (l : List NoticeKind) (c : Levels) (j : NoticeKind) :
    (l.foldl (fun d i => d.set i (f i)) c).get j = if j ∈ l then f j else c.get j := by
  induction l generalizing c with
  | nil => rfl
  | cons a l ih =>
    rw [List.foldl_cons, ih]
    by_cases e : j = a
    · subst e; simp
    · simp [e, level_set_ne c (f a) e]

theorem mem_allKinds (k : NoticeKind) : k ∈ Config.allKinds := by cases k <;> decide

theorem loadLevels_get (l : Levels) (k : NoticeKind) :
    (loadLevels l).get k = if Config.fixedLevel k then 7 else min (l.get k) 7 := by
  rw [loadLevels, level_foldl_set, if_pos (mem_allKinds k)]

theorem defaultLevel_get (k : NoticeKind) : Levels.defaults.get k = (Config.kindRow k).2 := by
  rw [Levels.defaults, level_foldl_set (fun k => (Config.kindRow k).2), if_pos (mem_allKinds k)]

/-- Levels fit the Notice Queue: from 0 to 7, the fixed kinds at 7 (R183). -/
def LevelsFit (l : Levels) : Prop := ∀ k, l.get k ≤ 7 ∧ (Config.fixedLevel k = true → l.get k = 7)

theorem LevelsFit.set {l : Levels} (h : LevelsFit l) (k : NoticeKind) (v : Nat) (hv : v ≤ 7)
    (fixed : Config.fixedLevel k = true → v = 7) : LevelsFit (l.set k v) := by
  intro j
  by_cases e : j = k
  · subst e; rw [level_set_self]; exact ⟨hv, fixed⟩
  · rw [level_set_ne l v e]; exact h j

/-- What a start loads is in its ranges (R183, R189, R191, L27). -/
theorem loaded_settings (image : Option SettingsImage) : SettingsSound (loaded image).settings := by
  cases image with
  | none => exact SettingsSound.defaults
  | some m =>
    intro i
    show settingTaken i ((loadSettings m.settings).get i) = (loadSettings m.settings).get i
    rw [loadSettings_get, settingTaken_idem]

theorem loaded_levels (image : Option SettingsImage) : LevelsFit (loaded image).levels := by
  intro k
  cases image with
  | none =>
    show Levels.defaults.get k ≤ 7 ∧ (_ → Levels.defaults.get k = 7)
    rw [defaultLevel_get]; cases k <;> decide
  | some m =>
    show (loadLevels m.levels).get k ≤ 7 ∧ (_ → (loadLevels m.levels).get k = 7)
    rw [loadLevels_get]
    split
    · exact ⟨Nat.le_refl 7, fun _ => rfl⟩
    · next h => exact ⟨Nat.min_le_right _ _, fun g => absurd g h⟩

/-- Channels without a session agree with an empty queue (R132). -/
theorem Sessions.Sound.fresh (cfgs : Vector ChanCfg 4) :
    Sessions.Sound { queue := [], channels := cfgs.map Channel.idle, nextId := 1 } where
  room := by simp
  ids := List.nodup_nil
  bays := List.nodup_nil
  range := by simp
  next := ⟨Nat.le_refl 1, by simp⟩
  chans c := by simp [Sessions.ChanSound, Channel.idle]
  holds := by simp

/-- A part whose blocks stand at their start values runs soundly (R193 step 4). -/
theorem State.Remembers.loadBlocks {s : State} (h : s.Remembers) (c : StartCause) : (s.loadBlocks c).Runs where
  awake := rfl
  sound :=
    { notices := ⟨by simp [State.loadBlocks, State.blocksAtStart], fun k => (loaded_levels s.image k).1,
        fun k => (loaded_levels s.image k).2, by simp [State.loadBlocks, State.blocksAtStart]⟩
      arbiter := ⟨List.nodup_nil, fun _ e => (nomatch e), fun _ e => (nomatch e), fun _ _ e => (nomatch e)⟩
      sessions := Sessions.Sound.fresh _
      inlet := ⟨by simp [State.loadBlocks, State.blocksAtStart, Inlet.start],
        by simp [State.loadBlocks, State.blocksAtStart, Inlet.start], Nat.zero_le 1, Nat.zero_le 2, h.trim, rfl⟩
      roster := h.roster
      settings := loaded_settings s.image
      buffer := Nat.zero_le 2
      supply := fun _ => rfl }

theorem State.Runs.sayReset {s : State} (h : s.Runs) (x : Session) : (s.sayReset x).Runs :=
  (h.modBay _ _).raise ..

theorem State.Runs.sayResets {s : State} (h : s.Runs) (c : StartCause) (recorded : List Session) :
    (s.sayResets c recorded).Runs := by
  unfold State.sayResets
  split
  · induction recorded generalizing s with
    | nil => exact h
    | cons x rest ih => exact ih (h.sayReset x)
  · exact h

/-- A start leaves a part that runs soundly (R193). -/
theorem State.Remembers.start {s : State} (h : s.Remembers) (restart : Bool) (t : Int) : (s.start restart t).Runs := by
  have off : s.outputsOff.Remembers := ⟨h.roster, h.trim⟩
  have loaded := (off.recall (causeOf s.retained.valid restart)).loadBlocks (causeOf s.retained.valid restart)
  have told := (loaded.raise .started none none none (some (startCode (causeOf s.retained.valid restart)))
    (some (if s.image.isSome then .storeLoaded else .storeDefaults))).sayResets
      (causeOf s.retained.valid restart) s.sess.queue
  have said : ∀ u : State, u.Runs → u.openLink.Runs := fun u h => h.same
  unfold State.start
  dsimp only
  refine ((said _ ?_).takeTemperature t).lines
  refine State.Runs.sayResets ?_ _ _
  exact loaded.raise ..

/-- The assertion of the reset pin leaves the outputs at their start values (R193 step 1, R194). -/
theorem State.Remembers.held {s : State} (h : s.Remembers) (bays : Vector Bay 36) :
    State.Inv { s.outputsOff with resetHeld := true, bays := bays } where
  running e := nomatch e
  held _ :=
    { loop := rfl
      joins := fun c => by simp [State.chan, State.outputsOff]
      ready := rfl
      attention := rfl
      reply := rfl
      roster := h.roster
      trim := h.trim }

theorem State.Runs.replyGone {s : State} (h : s.Runs) (x : Tx) (t : Int) : (s.replyGone x t).Runs := by
  have freed : State.Runs { s with link := { s.link with tx := none, buffer := s.link.buffer.tail } } :=
    ⟨h.awake, h.sound.notices, h.sound.arbiter, h.sound.sessions, h.sound.inlet, h.sound.roster, h.sound.settings,
      (List.length_tail ..).trans_le (by have := h.sound.buffer; omega), h.sound.supply⟩
  unfold State.replyGone
  dsimp only
  split
  · exact freed.lines
  · refine State.Runs.lines ⟨freed.awake, ?_, freed.sound.arbiter, freed.sound.sessions, freed.sound.inlet,
      freed.sound.roster, freed.sound.settings, freed.sound.buffer, freed.sound.supply⟩
    exact ⟨h.sound.notices.room, h.sound.notices.levels, h.sound.notices.fixed, h.sound.notices.ranked⟩
  · exact State.Remembers.start ⟨freed.sound.roster, freed.sound.inlet.trim⟩ true t

end Sys2Proof.Machine


/-! What every request keeps sound, and the invariant over every command (O4). -/

namespace Sys2Proof.Machine

/-! ### Requests -/

/-- What a request does to a running part that takes it. -/
theorem inv_request {s t : State} {kind : Nat} {act : State → RxFrame → State} (h : s.Inv)
    (e : s.request kind act = .next t) (run : ∀ f, s.Runs → (act s f).Runs) : t.Inv := by
  refine inv_run h e fun r => ?_
  split
  · split
    · exact run _ r
    · exact r.reply ..
  · exact r

/-- A request that ends with its reply and the end of the event. -/
theorem State.Runs.answer {s : State} (h : s.Runs) (f : RxFrame) (r : Result) (p : List Byte) :
    (s.reply f r p).settle.Runs := (h.reply f r p .nothing).settle

/-! ### The Settings Store and the Notice Queue -/

theorem State.Runs.settingActs {s : State} (h : s.Runs) (i : SettingId) : (s.settingActs i).Runs := by
  cases i with
  | irate | headroom | efficiency | pfix | ppulse | qcap => exact h.recomputePool
  | pport | fsess => exact h.of_kept (kept_refreshShares s) good_refreshShares supply_refreshShares
  | silence => exact h.same
  | autoRebuild | rebuildHoldoff => exact h.autoCheck
  | rideThrough | drainLimit | settle | batch | spacing | seatSettle | foreignPolicy | wrongHomePolicy | window
  | bestMin | readyThreshold | pulseLength | linkTimer | drainSettle | bayCount | scanPeriod | attention => exact h

theorem State.Runs.putSetting {s : State} (h : s.Runs) (i : SettingId) (v : Nat) :
    (s.putSetting i (settingTaken i v)).Runs := by
  unfold State.putSetting
  split
  · exact h
  · have put : State.Runs { s with settings := s.settings.set i (settingTaken i v) } :=
      ⟨h.awake, h.sound.notices, h.sound.arbiter, h.sound.sessions, h.sound.inlet, h.sound.roster,
        h.sound.settings.set i v, h.sound.buffer, h.sound.supply⟩
    exact put.settingActs i

theorem State.Runs.setNumbered {s : State} (h : s.Runs) (f : RxFrame) (i : SettingId) (v : Nat) :
    (s.setNumbered f i v).Runs := by
  unfold State.setNumbered
  split
  · exact h.reply ..
  · exact (h.putSetting i v).answer ..

theorem State.Runs.setChannel {s : State} (h : s.Runs) (f : RxFrame) (c : ChanIx) (field v : Nat) :
    (s.setChannel f c field v).Runs := by
  unfold State.setChannel
  dsimp only
  split
  · exact h.reply ..
  · exact (h.of_kept (kept_configure ..) (good_configure _ _) (supply_configure _ _)).answer ..

/-- Records taken from the Notice Queue (R186). -/
theorem Notices.Sound.fetch {n : Notices} (h : n.Sound) (k : Nat) : (n.fetch k).Sound :=
  ⟨(List.length_drop ..).trans_le (by have := h.room; omega), h.levels, h.fixed,
    fun r m => h.ranked r (List.mem_of_mem_drop m)⟩

/-- The Notice Queue put in the place of another sound one. -/
theorem State.Runs.setNotices {s : State} (h : s.Runs) (n : Notices) (sound : n.Sound) :
    State.Runs { s with notices := n } :=
  ⟨h.awake, sound, h.sound.arbiter, h.sound.sessions, h.sound.inlet, h.sound.roster, h.sound.settings,
    h.sound.buffer, h.sound.supply⟩

theorem State.Runs.setLevel {s : State} (h : s.Runs) (k : NoticeKind) (v : Nat) (hv : v ≤ 7)
    (fixed : Config.fixedLevel k = true → v = 7) :
    State.Runs { s with notices := { s.notices with levels := s.notices.levels.set k v } } := by
  have fit : LevelsFit (s.notices.levels.set k v) :=
    LevelsFit.set (fun j => ⟨h.sound.notices.levels j, h.sound.notices.fixed j⟩) k v hv fixed
  exact h.setNotices _ ⟨h.sound.notices.room, fun j => (fit j).1, fun j => (fit j).2, h.sound.notices.ranked⟩

/-! ### The roster -/

/-- The roster put in the place of another sound one, with bay records and the grace flag. -/
theorem State.Runs.setRoster {s t : State} (h : s.Runs) (roster : RosterSound (t.cust.roster.map (·.asset)))
    (awake : t.resetHeld = s.resetHeld := by rfl)
    (notices : t.notices = s.notices := by rfl) (arb : t.arb = s.arb := by rfl)
    (sess : t.sess = s.sess := by rfl) (inlet : t.inlet = s.inlet := by rfl)
    (settings : t.settings = s.settings := by rfl) (link : t.link = s.link := by rfl)
    (power : t.power = s.power := by rfl) (pool : t.pool = s.pool := by rfl) : t.Runs := by
  refine ⟨awake.trans h.awake, notices ▸ h.sound.notices, arb ▸ h.sound.arbiter, sess ▸ h.sound.sessions,
    inlet ▸ h.sound.inlet, roster, settings ▸ h.sound.settings, link ▸ h.sound.buffer, ?_⟩
  unfold State.SupplySound
  rw [power, inlet, pool]
  exact h.sound.supply

/-- The assets after an entry has been added (R72). -/
theorem addEntry_assets (s : State) (a : AssetId) (home bay : Option BayIx) :
    (s.addEntry a home bay).cust.roster.map (·.asset) = s.cust.roster.map (·.asset) ++ [a] := by
  unfold State.addEntry
  dsimp only
  split <;> simp

theorem entry?_isNone {s : State} {a : AssetId} (h : ¬ (s.entry? a).isSome = true) :
    a ∉ s.cust.roster.map (·.asset) := by
  intro m
  obtain ⟨e, he, rfl⟩ := List.mem_map.1 m
  exact h (List.find?_isSome.2 ⟨e, he, by simp⟩)

theorem State.Runs.addEntry {s : State} (h : s.Runs) (a : AssetId) (home bay : Option BayIx) (nonzero : a ≠ 0)
    (absent : ¬ (s.entry? a).isSome = true) (room : s.cust.roster.length < 64) : (s.addEntry a home bay).Runs := by
  have sound : RosterSound (s.cust.roster.map (·.asset) ++ [a]) := by
    obtain ⟨-, unique, zero⟩ := h.sound.roster
    refine ⟨by simp; omega, List.nodup_append.2 ⟨unique, List.nodup_singleton a, ?_⟩, ?_⟩
    · intro x hx y hy e
      exact entry?_isNone absent (List.mem_singleton.1 hy ▸ e ▸ hx)
    · simp only [List.mem_append, List.mem_singleton, not_or]
      exact ⟨zero, fun e => nonzero e.symm⟩
  have assets := addEntry_assets s a home bay
  refine h.setRoster (assets ▸ sound) ?_ ?_ ?_ ?_ ?_ ?_ ?_ ?_ ?_
  all_goals (unfold State.addEntry; dsimp only; split <;> rfl)

theorem State.Runs.rehome {s : State} (h : s.Runs) (a : AssetId) (home : Option BayIx) : (s.rehome a home).Runs := by
  refine h.setRoster ?_
  have : (s.rehome a home).cust.roster.map (·.asset) = s.cust.roster.map (·.asset) := by
    simp only [State.rehome, State.mapRoster, List.map_map]
    exact List.map_congr_left fun e _ => by dsimp only [Function.comp]; split <;> rfl
  exact this ▸ h.sound.roster

/-- What dropping an entry leaves: the roster without it, and the bay records apart all else (R73). -/
theorem dropEntry_eq (s : State) (a : AssetId) :
    s.dropEntry a =
      { s with
        cust := { s.cust with roster := s.cust.roster.filter (·.asset ≠ a) }
        bays := (s.dropEntry a).bays } :=
  modBays_eq _ _

theorem State.Runs.dropEntry {s : State} (h : s.Runs) (a : AssetId) : (s.dropEntry a).Runs := by
  rw [dropEntry_eq]
  refine h.setRoster ?_
  obtain ⟨room, unique, zero⟩ := h.sound.roster
  have sub : ((s.cust.roster.filter (·.asset ≠ a)).map (·.asset)).Sublist (s.cust.roster.map (·.asset)) :=
    List.filter_sublist.map _
  exact ⟨sub.length_le.trans room, unique.sublist sub, fun m => zero (sub.subset m)⟩

/-! ### Releases, Admit Bay and the ready set -/

theorem State.Runs.drainMind {s : State} (h : s.Runs) (i : BayIx) : (s.drainMind i).Runs :=
  h.of_kept (kept_drainMind s i) (good_drainMind i) (supply_drainMind i)

theorem State.Runs.grantRelease {s : State} (h : s.Runs) (f : RxFrame) (i : BayIx) (w : Nat)
    (holder : Option Badge) : (s.grantRelease f i w holder).Runs := by
  have accepted : (s.acceptRelease i (s.windowTaken w) holder .host).Runs :=
    h.of_kept (kept_acceptRelease ..) (good_acceptRelease _ _ _ _) (supply_acceptRelease _ _ _ _)
  exact ((accepted.reply ..).drainMind i).settle

theorem State.Runs.releaseNumber {s : State} (h : s.Runs) (f : RxFrame) (n w : Nat) (holder : Option Badge)
    (force : Bool) : (s.releaseNumber f n w holder force).Runs := by
  unfold State.releaseNumber
  split
  · exact h.reply ..
  · split
    · exact h.reply ..
    · exact h.grantRelease ..

theorem State.Runs.askBolt {s : State} (h : s.Runs) (i : BayIx) (d : Dir) : (s.askBolt i d).Runs :=
  h.of_kept (kept_askBolt s i d) (good_askBolt i d) (supply_askBolt i d)

theorem State.Runs.become {s : State} (h : s.Runs) (i : BayIx) (c : Custody) : (s.become i c).Runs :=
  h.of_kept (kept_become s i c) (good_become i c) (supply_become i c)

theorem State.Runs.secureBay {s : State} (h : s.Runs) (i : BayIx) : (s.secureBay i).Runs :=
  h.of_kept (kept_secureBay s i) (good_secureBay i) (supply_secureBay i)

theorem State.Runs.cancelRelease {s : State} (h : s.Runs) (i : BayIx) : (s.cancelRelease i).Runs := by
  unfold State.cancelRelease
  split
  · split
    · exact (h.askBolt i .engage).become i .locked
    · exact h.modBay ..
    · exact h.modBay ..
  · exact State.Runs.secureBay (h.modBay ..) i

theorem State.Runs.admitBay {s : State} (h : s.Runs) (i : BayIx) : (s.admitBay i).Runs := by
  have set : ∀ a st, (s.setAsset i a st).Runs := fun a st => h.modBay ..
  unfold State.admitBay
  dsimp only
  refine State.Runs.modBay (State.Runs.secureBay ?_ i) ..
  split
  · exact (set _ _).of_kept (kept_dockEntry ..) (good_dockEntry _ _) (supply_dockEntry _ _)
  · exact set _ _

/-! ### Sessions -/

theorem session?_mem {s : State} {n : Nat} {x : Session} (h : s.session? n = some x) : x ∈ s.sess.queue :=
  List.mem_of_find?_eq_some h

/-- A session request, whose session stands in the queue (R121). -/
theorem State.Runs.onSession {s : State} (h : s.Runs) (f : RxFrame) (act : Session → State)
    (run : ∀ x ∈ s.sess.queue, (act x).Runs) : (s.onSession f act).Runs := by
  unfold State.onSession
  split
  · next x e => exact run x (session?_mem e)
  · exact h.reply ..

theorem State.Runs.linkUpSession {s : State} (h : s.Runs) (x : Session) (hx : x ∈ s.sess.queue)
    (st : x.state = .linking) : (s.linkUpSession x).Runs :=
  h.of_kept (kept_linkUpSession s x) (fun g => good_linkUpSession x g hx st) (supply_linkUpSession x)

theorem State.Runs.progressSession {s : State} (h : s.Runs) (x : Session) (v : Nat) (hx : x ∈ s.sess.queue)
    (st : x.state = .active) : (s.progressSession x v).Runs :=
  h.of_kept (kept_progressSession s x v) (fun g => good_progressSession x v g hx st) (supply_progressSession x v)

theorem State.Runs.finishActive {s : State} (h : s.Runs) (x : Session) (ok : Bool) (hx : x ∈ s.sess.queue)
    (st : x.state = .active) : (s.finishActive x ok).Runs :=
  h.of_kept (kept_finishActive s x ok) (fun g => good_finishActive x ok g hx st) (supply_finishActive x ok)

/-- The checks of Open Session passed: the bay has no session, and the queue has room (R118). -/
theorem openRefusal?_none {s : State} {i : BayIx} {k : SessClass} (h : s.openRefusal? i k = none) :
    s.sessionOf? i = none ∧ s.sess.queue.length < 24 := by
  unfold State.openRefusal? at h
  iterate 3 (split at h; · exact nomatch h)
  split at h
  · exact nomatch h
  · next alone =>
    split at h
    · exact nomatch h
    · split at h
      · exact nomatch h
      · next room => exact ⟨by simpa using alone, by omega⟩

theorem kept_admitSession (s : State) (i : BayIx) (k : SessClass) (m d : Nat) :
    (s.admitSession i k m d).kept = s.kept := by
  unfold State.admitSession; rw [kept_dispatch]; rfl

theorem State.Runs.openSession {s : State} (h : s.Runs) (f : RxFrame) (i : BayIx) (k : SessClass)
    (charge idle : Nat) (free : s.openRefusal? i k = none) : (s.openSession f i k charge idle).Runs := by
  obtain ⟨alone, room⟩ := openRefusal?_none free
  have admitted : (s.admitSession i k (minimumTaken k charge) (idleTaken idle)).Runs :=
    h.of_kept (kept_admitSession ..) (fun g => good_admitSession _ _ _ _ g room alone) (supply_admitSession _ _ _ _)
  exact admitted.answer ..

/-! ### Charge and fault requests -/

theorem State.Runs.markPending {s : State} (h : s.Runs) : s.markPending.Runs := h.same

/-- Clear Fault with bay 0 keeps the part sound (R16). -/
theorem State.Runs.clearLatch {s : State} (h : s.Runs) : s.clearLatch.Runs := by
  obtain ⟨volts, amps, restore, high, trim, derate⟩ := h.sound.inlet
  refine State.Runs.recomputePool (h.of_inlet _ rfl ⟨volts, amps, restore, high, trim, derate⟩ (good_inlet _) ?_)
  intro p g
  refine p ?_
  rcases g with g | g | g
  · exact Or.inl g
  · exact Or.inr (Or.inl g)
  · exact absurd g (by simp)

theorem State.Runs.clearBayFault {s : State} (h : s.Runs) (i : BayIx) : (s.clearBayFault i).Runs := by
  have unjammed : ∀ u : State, u.Runs → (u.unjam i).Runs := fun u r =>
    r.of_kept (kept_unjam u i) (good_unjam i) (supply_unjam i)
  have cleared : (s.modBay i fun b => { b with overdraw := false }).markPending.Runs := (h.modBay ..).markPending
  unfold State.clearBayFault
  dsimp only
  split <;> split
  · exact unjammed _ cleared
  · exact cleared
  · exact unjammed _ h
  · exact h

end Sys2Proof.Machine


namespace Sys2Proof.Machine

/-! ### Every command -/

/-- The commands of the inlet, the pool and the power states (chapters 1 and 2). -/
theorem inv_inletCommands {c : Instr} {s t : State} (h : s.Inv) (e : exec c s = .next t)
    (m : c ∈ [.strikeAgeOut, .strikeHoldoffExpiry, .poolRecompute, .trimAudit, .rideThroughExpiry,
      .drainLimitExpiry, .settleExpiry, .roundBegin]) : t.Inv := by
  simp only [List.mem_cons, List.not_mem_nil, or_false] at m
  obtain rfl | rfl | rfl | rfl | rfl | rfl | rfl | rfl := m
  · refine inv_run h e fun r => r.atDue _ fun d r => ?_
    obtain ⟨volts, amps, restore, high, trim, derate⟩ := r.sound.inlet
    exact r.setInlet _ ⟨volts, amps, restore, high, trim, derate⟩ rfl rfl
  · refine inv_run h e fun r => r.atDue _ fun d r => ?_
    obtain ⟨volts, amps, restore, high, trim, derate⟩ := r.sound.inlet
    exact State.Runs.same (r.setInlet { s.inlet with holdoffDue := none }
      ⟨volts, amps, restore, high, trim, derate⟩ rfl rfl)
  · refine inv_run h e fun r => r.atDue _ fun d r => State.Runs.settle ?_
    exact State.Runs.recomputePool r.same
  · refine inv_run h e fun r => r.atDue _ fun d r => ?_
    obtain ⟨volts, amps, restore, high, trim, derate⟩ := r.sound.inlet
    have due := r.setInlet { s.inlet with auditDue := s.inlet.auditDue + 4000 }
      ⟨volts, amps, restore, high, trim, derate⟩ rfl rfl
    dsimp only
    split
    · exact due.audit.settle
    · exact due
  · exact inv_run h e fun r => r.atDue _ fun d r => State.Runs.settle
      (r.of_kept (kept_rideOut _) good_rideOut supply_rideOut)
  · exact inv_run h e fun r => r.atDue _ fun d r => State.Runs.settle
      (r.of_kept (kept_endDrain _) good_endDrain supply_endDrain)
  · refine inv_run h e fun r => r.atDue _ fun d r => State.Runs.settle ?_
    exact State.Runs.startRebuild r.same _
  · exact inv_run h e fun r => r.atDue _ fun d r => State.Runs.settle
      (r.of_kept (kept_beginRound _) good_beginRound supply_beginRound)

/-- The commands of the loop that carry no answer (chapter 7). -/
theorem inv_loopCommands {c : Instr} {s t : State} (h : s.Inv) (e : exec c s = .next t)
    (m : c ∈ [.loopTransactionBegin, .placementAppended, .responseWaitExpiry, .linkLost, .shed, .scanPassStart,
      .scanStatusPlace, .rebuildPowerOffEnd, .rebuildBootEnd, .autoRebuildCheck]) : t.Inv := by
  simp only [List.mem_cons, List.not_mem_nil, or_false] at m
  obtain rfl | rfl | rfl | rfl | rfl | rfl | rfl | rfl | rfl | rfl := m
  · refine inv_run h e fun r => ?_
    split
    · exact (r.beginNext _).settle
    · exact r
  · exact inv_run h e fun r => r.same
  · refine inv_run h e fun r => ?_
    split
    · exact (r.reach _).failedAttempt _
    · exact r
  · refine inv_run h e fun r => ?_
    split
    · split
      · exact (r.reach _).failedAttempt _
      · exact r
    · exact r
  · refine inv_run h e fun r => ?_
    split
    · split
      · exact r.same
      · exact r
    · exact r
  · refine inv_run h e fun r => ?_
    split
    · exact r.atDue _ fun d r => r.of_kept (kept_startPass _) good_startPass supply_startPass
    · exact r
  · refine inv_run h e fun r => ?_
    split
    · refine r.atDue _ fun d r => ?_
      unfold State.scanNext
      split
      · exact r.same
      · exact r.of_kept (kept_scanPlace ..) (good_scanPlace _ _) (supply_scanPlace _ _)
    · exact r
  · refine inv_run h e fun r => ?_
    split
    · exact (r.reach _).of_kept (kept_powerUp ..) (good_powerUp _) (supply_powerUp _)
    · exact r
  · refine inv_run h e fun r => ?_
    split
    · exact (r.reach _).of_kept (kept_discover ..) (good_discover _) (supply_discover _)
    · exact r
  · refine inv_run h e fun r => r.atDue _ fun d r => State.Runs.settle ?_
    exact State.Runs.autoCheck r.same

/-- The timers of sessions, of the host line and of Retained Memory (chapters 6, 9 and 11). -/
theorem inv_periodCommands {c : Instr} {s t : State} (h : s.Inv) (e : exec c s = .next t)
    (m : (∃ id, c = .linkTimerExpiry id ∨ c = .idleTimerExpiry id ∨ c = .drainSettleExpiry id ∨
      c = .holdupSense id) ∨ c = .hostSilenceExpiry ∨ c = .secondsTick) : t.Inv := by
  obtain ⟨id, rfl | rfl | rfl | rfl⟩ | rfl | rfl := m
  · exact inv_run h e fun r => r.atDue _ fun d r => State.Runs.settle (r.endSession ..)
  · exact inv_run h e fun r => r.atDue _ fun d r => State.Runs.settle (r.endSession ..)
  · exact inv_run h e fun r => r.atDue _ fun d r => State.Runs.settle (r.endSession ..)
  · refine inv_run h e fun r => r.atDue _ fun d r => State.Runs.lines ?_
    exact State.Runs.senseHoldup r.same _
  · exact inv_run h e fun r => r.atDue _ fun d r => r.goStandalone.lines
  · exact inv_run h e fun r => r.atDue _ fun d r => State.Runs.same r

/-- The timers of pulses and bays (chapters 3 to 5). -/
theorem inv_bayTimers {c : Instr} {s t : State} (h : s.Inv) (e : exec c s = .next t)
    (m : (∃ k, c = .travelWaitExpiry k ∨ c = .busyRetryExpiry k ∨ c = .cooldownExpiry k) ∨
      ∃ i, c = .seatSettleExpiry i ∨ c = .tagRetryDelayExpiry i ∨ c = .refusedDisplayEnd i ∨
        c = .releaseWindowExpiry i) : t.Inv := by
  obtain ⟨k, rfl | rfl | rfl⟩ | ⟨i, rfl | rfl | rfl | rfl⟩ := m
  · exact inv_run h e fun r => r.pulseTimer k _ fun u p r e =>
      State.Runs.place (r.setSlot k { p with phase := .checking } p e rfl) _
  · exact inv_run h e fun r => r.pulseTimer k _ fun u p r e =>
      State.Runs.place (r.setSlot k { p with phase := .sending none } p e rfl) _
  · exact inv_run h e fun r => r.pulseTimer k _ fun u p r e => r.startAttempt k _ p e rfl
  · exact inv_run h e fun r => r.atDue _ fun d r => State.Runs.place (r.modBay ..) _
  · exact inv_run h e fun r => r.atDue _ fun d r => State.Runs.place (r.modBay ..) _
  · exact inv_run h e fun r => r.atDue _ fun d r => State.Runs.settle (r.modBay ..)
  · exact inv_run h e fun r => r.atDue _ fun d r => State.Runs.settle
      (r.of_kept (kept_windowEnds ..) (good_windowEnds _) (supply_windowEnds _))

/-- The requests that only report, and Restart. -/
theorem inv_reports {c : Instr} {s t : State} (h : s.Inv) (e : exec c s = .next t)
    (m : c ∈ [.identifyRequest, .bayStatus, .baySummary, .poolStatus, .getSetting, .rosterGet, .rosterList,
      .readySetStatus, .sessionStatus, .restart, .unknownKind] ∨ ∃ key, c = .cartStatus key) : t.Inv := by
  simp only [List.mem_cons, List.not_mem_nil, or_false] at m
  obtain (rfl | rfl | rfl | rfl | rfl | rfl | rfl | rfl | rfl | rfl | rfl) | ⟨key, rfl⟩ := m <;> simp only [exec] at e
  · exact inv_request h e fun f r => r.reply ..
  · refine inv_request h e fun f r => ?_
    split <;> exact r.reply ..
  · refine inv_request h e fun f r => ?_
    split <;> exact r.reply ..
  · exact inv_request h e fun f r => r.reply ..
  · refine inv_request h e fun f r => ?_
    dsimp only
    split <;> exact r.reply ..
  · refine inv_request h e fun f r => ?_
    dsimp only
    split
    · exact r.reply ..
    · split <;> exact r.reply ..
  · exact inv_request h e fun f r => r.reply ..
  · exact inv_request h e fun f r => r.reply ..
  · refine inv_request h e fun f r => ?_
    split
    · exact r.reply ..
    · exact r.onSession _ _ fun x _ => r.reply ..
  · exact inv_request h e fun f r => r.reply ..
  · refine inv_run h e fun r => ?_
    split
    · split
      · exact r.reply ..
      · exact r
    · exact r
  · exact inv_request h e fun f r => State.Runs.reply r.same ..

/-- The requests of the Settings Store and of the Notice Queue (chapters 10 and 11). -/
theorem inv_settingRequests {c : Instr} {s t : State} (h : s.Inv) (e : exec c s = .next t)
    (m : c ∈ [.setSetting, .setQuiet, .fetchNotices, .setNoticeLevel] ∨ ∃ w, c = .saveSettings w) : t.Inv := by
  simp only [List.mem_cons, List.not_mem_nil, or_false] at m
  obtain (rfl | rfl | rfl | rfl) | ⟨w, rfl⟩ := m <;> simp only [exec] at e
  · refine inv_request h e fun f r => ?_
    dsimp only
    split
    · exact r.setNumbered ..
    · exact r.setChannel ..
    · exact r.reply ..
  · refine inv_request h e fun f r => ?_
    split
    · exact r.reply ..
    · next on _ =>
      have quiet : State.Runs { s with pool := { s.pool with quiet := on } } := r.same
      exact quiet.recomputePool.answer ..
  · refine inv_request h e fun f r => ?_
    exact State.Runs.lines (State.Runs.reply (r.setNotices _ (r.sound.notices.fetch _)) ..)
  · refine inv_request h e fun f r => ?_
    split
    · exact r.reply ..
    · next k _ =>
      dsimp only
      split
      · exact r.reply ..
      · next fit =>
        refine (r.setLevel k _ (Nat.min_le_right _ _) fun fixed => ?_).reply ..
        simpa [fixed] using fit
  · refine inv_request h e fun f r => ?_
    cases w with
    | taken => exact State.Runs.reply r.same ..
    | failed left => exact State.Runs.reply r.same ..

/-- The requests of the Custody Unit (chapters 3 and 4). -/
theorem inv_custodyRequests {c : Instr} {s t : State} (h : s.Inv) (e : exec c s = .next t)
    (m : c ∈ [.rosterPut, .rosterDrop, .releaseBay, .releaseAsset, .releaseBest, .cancelRelease, .admitBay,
      .prepareReadySet, .clearReadySet]) : t.Inv := by
  simp only [List.mem_cons, List.not_mem_nil, or_false] at m
  obtain rfl | rfl | rfl | rfl | rfl | rfl | rfl | rfl | rfl := m <;> simp only [exec] at e
  · refine inv_request h e fun f r => ?_
    dsimp only
    split
    · exact r.reply ..
    · next ok =>
      split
      · exact (r.rehome ..).reply ..
      · next absent =>
        split
        · exact r.reply ..
        · exact (r.addEntry _ _ _ (fun z => ok (Or.inl z)) absent (by omega)).reply ..
  · refine inv_request h e fun f r => ?_
    dsimp only
    split
    · exact r.reply ..
    · split
      · exact r.reply ..
      · exact (r.dropEntry _).reply ..
  · refine inv_request h e fun f r => ?_
    dsimp only
    split
    · exact r.reply ..
    · exact r.releaseNumber ..
  · refine inv_request h e fun f r => ?_
    dsimp only
    split
    · exact r.reply ..
    · split
      · exact r.reply ..
      · split
        · exact r.reply ..
        · split
          · exact r.reply ..
          · exact r.releaseNumber ..
  · refine inv_request h e fun f r => ?_
    dsimp only
    split
    · exact r.reply ..
    · split
      · exact r.reply ..
      · split
        · exact r.reply ..
        · exact r.grantRelease ..
  · refine inv_request h e fun f r => ?_
    split
    · exact r.reply ..
    · split
      · exact r.reply ..
      · exact (r.cancelRelease _).answer ..
  · refine inv_request h e fun f r => ?_
    split
    · exact r.reply ..
    · split
      · exact r.reply ..
      · exact (r.admitBay _).answer ..
  · refine inv_request h e fun f r => ?_
    dsimp only
    split
    · exact r.reply ..
    · exact (r.of_kept (kept_prepareReady ..) (good_prepareReady _) (supply_prepareReady _)).answer ..
  · refine inv_request h e fun f r => ?_
    exact (r.of_kept (kept_emptyReady ..) (good_emptyReady _) (supply_emptyReady _)).answer ..

/-- The requests of the Session Scheduler, the Charge Allocator and the Loop Master (chapters 2, 6 and 7). -/
theorem inv_sessionRequests {c : Instr} {s t : State} (h : s.Inv) (e : exec c s = .next t)
    (m : c ∈ [.openSession, .linkUp, .progress, .finishSession, .abortSession, .setBayCharge, .clearFault,
      .rebuildLoop]) : t.Inv := by
  simp only [List.mem_cons, List.not_mem_nil, or_false] at m
  obtain rfl | rfl | rfl | rfl | rfl | rfl | rfl | rfl := m <;> simp only [exec] at e
  · refine inv_request h e fun f r => ?_
    dsimp only
    split
    · exact r.reply ..
    · split
      · exact r.reply ..
      · split
        · exact r.reply ..
        · next free => exact r.openSession _ _ _ _ _ free
  · refine inv_request h e fun f r => r.onSession _ _ fun x hx => ?_
    split
    · next st => exact ((r.linkUpSession x hx st).reply ..).lines
    · exact r.reply ..
  · refine inv_request h e fun f r => r.onSession _ _ fun x hx => ?_
    dsimp only
    split
    · next st => exact (r.progressSession x _ hx st).reply ..
    · exact r.reply ..
  · refine inv_request h e fun f r => r.onSession _ _ fun x hx => ?_
    dsimp only
    split
    · exact r.reply ..
    · split
      · next st => exact (r.finishActive x _ hx st).reply ..
      · exact r.reply ..
  · refine inv_request h e fun f r => r.onSession _ _ fun x hx => ?_
    split
    · exact r.reply ..
    · exact (r.endSession ..).answer ..
  · refine inv_request h e fun f r => ?_
    split
    · exact r.reply ..
    · split
      · exact r.reply ..
      · exact State.Runs.answer (State.Runs.markPending (r.modBay ..)) ..
  · refine inv_request h e fun f r => ?_
    split
    · exact r.clearLatch.answer ..
    · split
      · exact r.reply ..
      · split
        · exact (r.clearBayFault _).answer ..
        · exact r.reply ..
  · refine inv_request h e fun f r => ?_
    split
    · exact r.reply ..
    · split
      · exact r.reply ..
      · exact (r.startRebuild _).answer ..

/-- Every command keeps the invariant. -/
theorem exec_keeps_inv (c : Instr) (s t : State) (h : s.Inv) (e : exec c s = .next t) : t.Inv := by
  cases c with
  | voltageSample volts amps => exact inv_run h e fun r => r.sample volts amps
  | inletRestored volts amps =>
    refine inv_run h e fun r => ?_
    split
    · exact r.sample volts amps
    · exact r
  | strike volts amps =>
    refine inv_run h e fun r => ?_
    split
    · exact r.sample volts amps
    · exact r
  | temperatureReading x =>
    refine inv_run h e fun r => r.atDue _ fun d r => State.Runs.settle (State.Runs.takeTemperature ?_ x)
    obtain ⟨volts, amps, restore, high, trim, derate⟩ := r.sound.inlet
    exact r.setInlet _ ⟨volts, amps, restore, high, trim, derate⟩ rfl rfl
  | strikeAgeOut | strikeHoldoffExpiry | poolRecompute | trimAudit | rideThroughExpiry | drainLimitExpiry
  | settleExpiry | roundBegin => exact inv_inletCommands h e (by simp)
  | loopTransactionBegin | placementAppended | responseWaitExpiry | linkLost | shed | scanPassStart | scanStatusPlace
  | rebuildPowerOffEnd | rebuildBootEnd | autoRebuildCheck => exact inv_loopCommands h e (by simp)
  | status resp key =>
    exact inv_run h e fun r => (State.Runs.onAnswer (s := { s with keyswitch := key }) r.same _ _)
  | overdrawFault resp key =>
    refine inv_run h e fun r => ?_
    split
    · exact State.Runs.onAnswer r.same ..
    · exact r
  | grant resp | tag resp | lock resp | lamp resp | identify resp | assign resp | pass resp | nodereset resp =>
    exact inv_run h e fun r => r.onAnswer _ resp
  | responseNotValid resp =>
    refine inv_run h e fun r => ?_
    split
    · split
      · exact r.failedAttempt _
      · exact r
    · exact r
  | travelWaitExpiry k | busyRetryExpiry k | cooldownExpiry k => exact inv_bayTimers h e (by simp)
  | seatSettleExpiry i | tagRetryDelayExpiry i | refusedDisplayEnd i | releaseWindowExpiry i =>
    exact inv_bayTimers h e (by simp)
  | linkTimerExpiry id | idleTimerExpiry id | drainSettleExpiry id | holdupSense id =>
    exact inv_periodCommands h e (by simp)
  | hostSilenceExpiry | secondsTick => exact inv_periodCommands h e (by simp)
  | byteReceived b gap => exact inv_run h e fun r => r.receive b gap
  | frameArrival b gap =>
    refine inv_run h e fun r => ?_
    split
    · exact r.receive b gap
    · exact r
  | lineError => exact inv_run h e fun r => r.same
  | clearLineChange level begun =>
    refine inv_run h e fun r => ?_
    split
    · exact r
    · exact r.same
  | replySent x =>
    refine inv_run h e fun r => ?_
    split
    · exact r.replyGone _ x
    · exact r
  | powerOn kept x =>
    have memory : State.Remembers { s with retained := { s.retained with valid := s.retained.valid && kept } } :=
      ⟨h.remembers.roster, h.remembers.trim⟩
    exact (Host.Outcome.next.inj e) ▸ (memory.start false x).inv
  | resetPinAssert => exact inv_live h e fun r => h.remembers.held _
  | resetPinRelease x =>
    refine (Host.Outcome.next.inj e) ▸ ?_
    split
    · exact (h.remembers.start false x).inv
    · exact h
  | identifyRequest | bayStatus | baySummary | poolStatus | getSetting | rosterGet | rosterList | readySetStatus
  | sessionStatus | restart | unknownKind => exact inv_reports h e (by simp)
  | cartStatus key => exact inv_reports h e (by simp)
  | setSetting | setQuiet | fetchNotices | setNoticeLevel => exact inv_settingRequests h e (by simp)
  | saveSettings w => exact inv_settingRequests h e (by simp)
  | rosterPut | rosterDrop | releaseBay | releaseAsset | releaseBest | cancelRelease | admitBay | prepareReadySet
  | clearReadySet => exact inv_custodyRequests h e (by simp)
  | openSession | linkUp | progress | finishSession | abortSession | setBayCharge | clearFault | rebuildLoop =>
    exact inv_sessionRequests h e (by simp)

/-- The invariant says nothing of the clock and of the commands that wait. -/
theorem State.Inv.same {s : State} (h : s.Inv) (now : Nat) (pending : List Instr) :
    State.Inv { s with now := now, pending := pending } where
  running e :=
    let ⟨notices, arbiter, sessions, inlet, roster, settings, buffer, supply⟩ := h.running e
    ⟨notices, arbiter, sessions, inlet, roster, settings, buffer, supply⟩
  held e :=
    let ⟨loop, joins, ready, attention, reply, roster, trim⟩ := h.held e
    ⟨loop, joins, ready, attention, reply, roster, trim⟩

/-- Settles O4: each command keeps the invariant, and the passing of a millisecond leaves it. -/
theorem everyStepKeepsTheInvariant : Obligations.EveryStepKeepsTheInvariant := by
  intro s t h e
  unfold step at e
  split at e
  · exact (Host.Outcome.next.inj e) ▸ h.same (s.now + 1) s.pending
  · next c rest _ => exact exec_keeps_inv c _ t (h.same s.now rest) e

end Sys2Proof.Machine


/-! The commands that report, and the temperature (O11, O45). -/

namespace Sys2Proof.Machine

/-- A command of a part whose reset pin is high. -/
theorem live_awake {s : State} (h : s.resetHeld = false) (t : State) : live s t = .next t := by
  simp [live, h]

/-! ### Requests taken (R171) -/

/-- A request of the right length, taken: its owner acts. -/
theorem request_asked {s : State} {kind len : Nat} {f : RxFrame} (h : s.Asks kind len f)
    (fits : payloadLength? kind = some len) (act : State → RxFrame → State) :
    s.request kind act = .next (act s f) := by
  have asked : s.asked kind = some f := by
    simp [State.asked, State.head?, h.free, h.head, Option.filter, h.kind]
  rw [State.request, asked, live_awake h.awake]
  simp only [fits, h.length, if_true]

theorem reply_done (s : State) (f : RxFrame) (r : Result) (p : List Byte) (a : AfterReply) :
    s.Replies (s.reply f r p a) f r p a := rfl

/-! ### Numbers of settings (R189) -/

/-- The setting of a number of the table is that of its row. -/
theorem settingOf?_number (i : SettingId) : settingOf? (Config.settingRow i).number = some i := by
  cases i <;> rfl

theorem settingOf?_none {n : Nat} (h : ∀ i, n ≠ (Config.settingRow i).number) : settingOf? n = none :=
  List.find?_eq_none.2 fun i _ => by simpa using (h i).symm

/-- The numbered settings lie outside the numbers of the channel fields. -/
theorem settingOf?_chan {n : Nat} (lo : 0x40 ≤ n) (hi : n < 0x50) : settingOf? n = none :=
  settingOf?_none fun i => by cases i <;> simp only [Config.settingRow] <;> omega

theorem chanSetting?_number (c : ChanIx) (k : Nat) (hk : k < 4) : chanSetting? (0x40 + 4 * c.1 + k) = some (c, k) := by
  have hc := c.2
  have h : 0x40 ≤ 0x40 + 4 * c.1 + k ∧ 0x40 + 4 * c.1 + k < 0x50 := by omega
  rw [chanSetting?, if_pos h]
  congr 2
  · exact Fin.ext (by show (0x40 + 4 * c.1 + k - 0x40) / 4 % 4 = c.1; omega)
  · omega

theorem chanSetting?_none {n : Nat} (h : n < 0x40 ∨ 0x4F < n) : chanSetting? n = none := if_neg (by omega)

/-! ### The reports -/

/-- A byte takes a count modulo 256. -/
theorem byte_mod (n : Nat) : byte (n % 256) = byte n := by
  apply BitVec.eq_of_toNat_eq
  simp [byte]

theorem byte_condCode (c : InletCond) :
    byte (condCode c) = match c with | .lost => 0 | .normal => 1 | .brownout => 2 := by
  cases c <;> rfl

/-- A request whose meaning is a reply alone. -/
theorem replied_alone {s : State} {f : RxFrame} {e : Out} {p q : List Byte} (h : e = .next (s.reply f .done p))
    (payload : p = q) : ∃ t, e = .next t ∧ s.Replies t f .done q ∧
      t = { s with link := { s.link with tx := t.link.tx } } :=
  ⟨_, h, payload ▸ rfl, rfl⟩

/-- Get Setting of a numbered setting (R190). -/
theorem getSetting_numbered {s : State} {f : RxFrame} (a : s.Asks 0x11 1 f) (i : SettingId)
    (hn : payByte f.payload 0 = (Config.settingRow i).number) :
    exec .getSetting s =
      .next (s.reply f .done (be2 (s.cfg i) ++ if i = .bayCount then be2 s.loop.bayCount else [])) := by
  refine (request_asked a rfl _ : execGetSetting s = _).trans ?_
  dsimp only
  rw [hn, settingOf?_number]

/-- Get Setting of a channel field (R190). -/
theorem getSetting_channel {s : State} {f : RxFrame} (a : s.Asks 0x11 1 f) (c : ChanIx) (k : Nat) (hk : k < 4)
    (hn : payByte f.payload 0 = 0x40 + 4 * c.1 + k) :
    exec .getSetting s =
      .next (s.reply f .done (be2 (chanField (s.chan c).cfg k) ++
        optField 2 ((s.chan c).pendingCfg.map fun p => be2 (chanField p k)))) := by
  refine (request_asked a rfl _ : execGetSetting s = _).trans ?_
  dsimp only
  rw [hn, settingOf?_chan (by omega) (by omega), chanSetting?_number c k hk]

/-- Settles O45: each of the four requests forms its reply and leaves the rest. -/
theorem cartReportsChangeNothing : Obligations.CartReportsChangeNothing := by
  intro key s f _
  dsimp only
  refine ⟨fun a => ?_, fun a => ?_, fun a => ?_, fun i a hn hi => ?_, fun a hn => ?_, fun c k hk a hn => ?_,
    fun a hn hout => ?_⟩
  · refine replied_alone (request_asked a rfl _ : execIdentifyRequest s = _) ?_
    cases e : s.link.fromImage <;> simp [State.identifyPayload, flag, be2, byte, Config.productCode, e]
  · exact ⟨_, (request_asked a rfl _ : execCartStatus key s = _), rfl, rfl⟩
  · refine replied_alone (request_asked a rfl _ : execPoolStatus s = _) ?_
    rw [byte_mod]
    simp only [State.poolPayload, sbyte, State.secondsLeft]
    cases s.inlet.cond <;> cases s.inlet.holdoffDue <;> rfl
  · exact replied_alone (getSetting_numbered a i hn) (by simp [hi])
  · exact replied_alone (getSetting_numbered a .bayCount hn) (by simp)
  · have lt : k < 4 := by simp at hk; omega
    refine replied_alone (getSetting_channel a c k lt hn) ?_
    cases (s.chan c).pendingCfg <;> rfl
  · refine (request_asked a rfl _ : execGetSetting s = _).trans ?_
    dsimp only
    rw [settingOf?_none hn, chanSetting?_none hout]

/-! ### The temperature (R5) -/

/-- A temperature reading taken at its moment: what events keep, but for the inlet, stays (R5). -/
theorem temperatureReading_inlet (x : Int) (s : State) (h : s.resetHeld = false) :
    ∃ t, exec (.temperatureReading x) s = .next t ∧
      t.inlet = Inlet.afterTemperature { s.inlet with tempDue := s.inlet.tempDue + 1000 } x := by
  refine ⟨_, live_awake h _, ?_⟩
  simp only [State.atDue, inlet_kept, kept_settle, kept_takeTemperature]
  rfl

/-- Settles O11: the derating of the reading taken. -/
theorem temperatureGivesTheDerating : Obligations.TemperatureGivesTheDerating := by
  intro x s h
  obtain ⟨t, e, i⟩ := temperatureReading_inlet x s h
  refine ⟨t, e, ?_⟩
  rw [i]
  dsimp only [Inlet.afterTemperature]
  have good : -20 ≤ x → x ≤ 100 → badReading x = false := fun lo hi => by
    simp only [badReading, Bool.or_eq_false_iff, decide_eq_false_iff_not]; omega
  have taken : -20 ≤ x → x ≤ 100 → tcOf x = x := fun lo hi => by simp [tcOf, good lo hi]
  refine ⟨rfl, fun out => ?_, fun lo hi => ⟨taken lo hi, good lo hi⟩, fun lo hi => ?_, fun lo hi => ?_,
    fun lo hi => ?_, rfl, rfl, rfl, rfl⟩
  · have bad : badReading x = true := by simpa [badReading] using out
    simp [tcOf, bad, deratingOf]
  · rw [taken lo (by omega), deratingOf, if_pos hi]
  · rw [taken (by omega) (by omega), deratingOf, if_neg (by omega), if_pos hi]
    push_cast
    omega
  · rw [taken (by omega) hi, deratingOf, if_neg (by omega), if_neg (by omega)]

end Sys2Proof.Machine


/-! The power timers and the samples (O7, O9, O10, O13, O16). -/

namespace Sys2Proof.Machine

/-! ### Calm states -/

/-- What the end of a calm event leaves alone holds the ground. -/
theorem ground_of_still {s t : State} (e : t.still = s.still) : t.ground = s.ground := by
  have seen : (fun i => (t.bay i).seen) = fun i => (s.bay i).seen :=
    funext fun i => seen_of_core (core_of_still e i)
  unfold State.ground
  rw [seen, power_of_still e, pool_of_still e, cust_of_still e, held_of_still e, loopPower_of_still e,
    offSince_of_still e, bayCount_of_still e, rebuild_of_still e, checkDue_of_still e, scan_of_still e,
    lastFrame_of_still e]

/-- A calm state ends its event with the ground as it was. -/
theorem ground_settle {s : State} (h : s.Calm) : s.settle.ground = s.ground := ground_of_still (still_settle s h)

/-- The end of a timer that runs is taken at its moment (L2). -/
theorem atDue_some (s : State) (due : Nat) (f : State → State) : s.atDue (some due) f = f (s.reach due) := rfl

/-! ### A rebuild started with the loop power off (R145, R146) -/

/-- The rebuild record as a rebuild of a cause begins with. -/
def Rebuild.fresh (count : Nat) (c : RebuildCause) : Rebuild :=
  ⟨.draining, c, 0, count, 0, 0, false, 0⟩

/-- A rebuild as PowerOff leaves it where the loop power is off already: Booting once it has been off for 500 ms (R146). -/
def Rebuild.powered (r : Rebuild) (offSince now : Nat) : Rebuild :=
  if offSince + 500 ≤ now then { r with phase := .booting, due := now + 50 }
  else { r with phase := .powerOff, due := offSince + 500 }

/-- PowerOff entered with the loop power off already. -/
theorem ground_enterPowerOff_off {s : State} (off : s.loop.power = false) {r : Rebuild}
    (e : s.loop.rebuild = some r) :
    s.enterPowerOff.ground =
      { s.ground with
        loopPower := decide (s.loop.offSince + 500 ≤ s.now)
        rebuild := some (r.powered s.loop.offSince s.now) } := by
  unfold State.enterPowerOff
  rw [e]
  dsimp only
  have same : (if s.loop.power = true then s.loopPowerOff else s) = s := by simp [off]
  rw [same]
  by_cases long : s.loop.offSince + 500 ≤ s.now
  · simp only [long, if_true, decide_true, Rebuild.powered]
    rfl
  · simp only [long, if_false, decide_false, Rebuild.powered]
    simp only [State.ground, off]
    rfl

/-- A rebuild started with the loop power off: the live bay count comes into force (R145, R189). -/
theorem ground_startRebuild_off {s : State} (off : s.loop.power = false) (c : RebuildCause) :
    (s.startRebuild c).ground =
      { s.ground with
        bayCount := s.cfg .bayCount
        loopPower := decide (s.loop.offSince + 500 ≤ s.now)
        rebuild := some ((Rebuild.fresh (s.cfg .bayCount) c).powered s.loop.offSince s.now) } := by
  unfold State.startRebuild
  dsimp only
  generalize hu : (State.mk _ _ _ _ _ _ _ _ _ _ _ _ _ _ _ _ _ _) = u
  have g : (if s.loop.bayCount != s.cfg .bayCount then u.dispatch else u).ground = u.ground := by
    split <;> simp
  have n : (if s.loop.bayCount != s.cfg .bayCount then u.dispatch else u).now = u.now := by
    split
    · exact now_of_kept (kept_dispatch u)
    · rfl
  generalize (if s.loop.bayCount != s.cfg .bayCount then u.dispatch else u) = v at g n ⊢
  have power : v.loop.power = false := by rw [loopPower_of_ground g, ← hu]; exact off
  have rebuild : v.loop.rebuild = some (Rebuild.fresh (s.cfg .bayCount) c) := by
    rw [rebuild_of_ground g, ← hu]; rfl
  have since : v.loop.offSince = s.loop.offSince := by rw [offSince_of_ground g, ← hu]
  rw [if_neg (by simp [power]), ground_enterPowerOff_off power rebuild, g, since, n, ← hu]
  rfl

theorem settleExpiry_eq {s : State} (awake : s.resetHeld = false) {due : Nat} (hdue : s.power.settleDue = some due) :
    exec .settleExpiry s =
      .next (State.startRebuild { s.reach due with power := { s.power with settleDue := none } }
        s.power.settleCause).settle := by
  refine (live_awake awake _).trans ?_
  rw [hdue, atDue_some]
  rfl

/-- Settles O16: the rebuild of the cause that the Settling carries begins. -/
theorem settleExpiryStartsTheRebuild : Obligations.SettleExpiryStartsTheRebuild := by
  intro s awake calm off due hdue
  refine ⟨_, settleExpiry_eq awake hdue, ?_⟩
  have hv := ground_startRebuild_off
    (s := { s.reach due with power := { s.power with settleDue := none } }) off s.power.settleCause
  generalize State.startRebuild _ _ = v at hv ⊢
  have power : v.power = { s.power with settleDue := none } := congrArg Ground.power hv
  have active : v.cust.reconActive = s.cust.reconActive := congrArg Ground.reconActive hv
  have g := (ground_settle (s := v) ⟨active.trans calm.1, by rw [power]; exact calm.2⟩).trans hv
  generalize v.settle = t at g ⊢
  refine ⟨congrArg Ground.power g, congrArg Ground.bayCount g, fun short => ?_, fun long => ?_⟩
  · have short : ¬ s.loop.offSince + 500 ≤ max s.now due := by omega
    refine ⟨(congrArg Ground.loopPower g).trans (decide_eq_false short), (congrArg Ground.rebuild g).trans ?_⟩
    exact congrArg some (if_neg short)
  · refine ⟨(congrArg Ground.loopPower g).trans (decide_eq_true long), (congrArg Ground.rebuild g).trans ?_⟩
    exact congrArg some (if_pos long)

/-! ### The trim audit (R12, R13) -/

theorem busySlots_eq_zero (s : State) : s.busySlots = 0 ↔ s.arb.slotA = none ∧ s.arb.slotB = none := by
  unfold State.busySlots
  cases s.arb.slotA <;> cases s.arb.slotB <;> simp

/-- When an audit is made (R12). -/
theorem auditMade_iff (s : State) :
    s.auditMade = true ↔ s.power.state = .serving ∧ (s.round.state = .idle ∨ s.round.state = .holdoff) ∧
      s.arb.slotA = none ∧ s.arb.slotB = none ∧ s.round.lastGrantChange + 1000 ≤ s.now := by
  simp only [State.auditMade, Bool.and_eq_true, Bool.or_eq_true, decide_eq_true_eq, busySlots_eq_zero]
  tauto

/-- The cart with the next audit due, at the moment of this one. -/
def State.auditTaken (s : State) : State :=
  { s.reach s.inlet.auditDue with inlet := { s.inlet with auditDue := s.inlet.auditDue + 4000 } }

theorem trimAudit_eq {s : State} (awake : s.resetHeld = false) :
    exec .trimAudit s = .next (if s.auditTaken.auditMade then s.auditTaken.audit.settle else s.auditTaken) :=
  live_awake awake _

/-- The trim after an audit, by its three cases (R13). -/
theorem trimAfter_cases (trim delta : Int) :
    (12 < delta → trimAfter trim delta = min (trim + 8) 80) ∧
    (delta < -12 → trimAfter trim delta = max (trim - 8) (-40)) ∧
    (-12 ≤ delta → delta ≤ 12 → trimAfter trim delta = trim) := by
  unfold trimAfter
  refine ⟨fun h => if_pos h, fun h => ?_, fun lo hi => ?_⟩
  · rw [if_neg (by omega), if_pos h]
  · rw [if_neg (by omega), if_neg (by omega)]

/-- Settles O13: an audit that is made moves the trim by the difference it finds, and one skipped moves nothing. -/
theorem auditMovesTheTrim : Obligations.AuditMovesTheTrim := by
  intro s awake
  have made := auditMade_iff s.auditTaken
  dsimp only
  refine ⟨fun skipped => ?_, fun due => ?_⟩
  · rw [trimAudit_eq awake, if_neg fun g => skipped (made.1 g)]
    rfl
  · refine ⟨_, trimAudit_eq awake, ?_⟩
    rw [if_pos (made.2 due)]
    have inlet : s.auditTaken.audit.settle.inlet =
        { s.auditTaken.inlet with trim := trimAfter s.inlet.trim s.auditTaken.auditDelta } := by
      rw [inlet_of_kept (kept_settle _)]
      exact congrArg Kept.inlet (kept_audit s.auditTaken)
    rw [inlet]
    exact ⟨rfl, trimAfter_cases s.inlet.trim s.auditTaken.auditDelta⟩

end Sys2Proof.Machine


/-! What the Charge Allocator and the Pool Calculator leave alone: everything but the round, the pool, the queues of the
loop, and each bay's commanded grant, outstanding GRANT and eligibility. One lemma for each operation. -/

namespace Sys2Proof.Machine

/-- A state without what the allocator's work may change. -/
def State.aside (s : State) : State :=
  { s with
    pool := .start, round := .start, bays := s.bays.map Bay.core
    loop := { s.loop with queued := [], waiting := [], heldBack := [] } }

section
variable {s t : State} (h : t.aside = s.aside)
include h

theorem now_of_aside : t.now = s.now :=
  congrArg (a₁ := t.aside) (a₂ := s.aside) State.now h
theorem inlet_of_aside : t.inlet = s.inlet :=
  congrArg (a₁ := t.aside) (a₂ := s.aside) State.inlet h
theorem power_of_aside : t.power = s.power :=
  congrArg (a₁ := t.aside) (a₂ := s.aside) State.power h
theorem cust_of_aside : t.cust = s.cust :=
  congrArg (a₁ := t.aside) (a₂ := s.aside) State.cust h
theorem arb_of_aside : t.arb = s.arb :=
  congrArg (a₁ := t.aside) (a₂ := s.aside) State.arb h
theorem sess_of_aside : t.sess = s.sess :=
  congrArg (a₁ := t.aside) (a₂ := s.aside) State.sess h
theorem link_of_aside : t.link = s.link :=
  congrArg (a₁ := t.aside) (a₂ := s.aside) State.link h
theorem settings_of_aside : t.settings = s.settings :=
  congrArg (a₁ := t.aside) (a₂ := s.aside) State.settings h
theorem retained_of_aside : t.retained = s.retained :=
  congrArg (a₁ := t.aside) (a₂ := s.aside) State.retained h

theorem loop_of_aside :
    { t.loop with queued := [], waiting := [], heldBack := [] } =
      { s.loop with queued := [], waiting := [], heldBack := [] } :=
  congrArg (a₁ := t.aside) (a₂ := s.aside) State.loop h

theorem loopPower_of_aside : t.loop.power = s.loop.power :=
  congrArg (a₁ := t.aside) (a₂ := s.aside) (fun u : State => u.loop.power) h
theorem rebuild_of_aside : t.loop.rebuild = s.loop.rebuild :=
  congrArg (a₁ := t.aside) (a₂ := s.aside) (fun u : State => u.loop.rebuild) h

theorem notices_of_aside : t.notices = s.notices :=
  congrArg (a₁ := t.aside) (a₂ := s.aside) State.notices h

theorem core_of_aside (i : BayIx) : (t.bay i).core = (s.bay i).core := by
  have e : (t.bays.map Bay.core)[i.1] = (s.bays.map Bay.core)[i.1] := by
    have : t.bays.map Bay.core = s.bays.map Bay.core :=
  congrArg (a₁ := t.aside) (a₂ := s.aside) State.bays h
    rw [this]
  simpa [State.bay] using e
end

@[simp] theorem aside_mk (s : State) (pool : Pool) (round : Round) (loop : Loop)
    (rest : { loop with queued := [], waiting := [], heldBack := [] } =
      { s.loop with queued := [], waiting := [], heldBack := [] }) :
    State.aside ⟨s.now, s.resetHeld, s.keyswitch, s.inlet, pool, s.power, round, s.bays, s.cust, s.arb, s.sess,
      loop, s.link, s.notices, s.settings, s.image, s.retained, s.pending⟩ = s.aside := by
  simp only [State.aside, rest]

@[simp] theorem aside_foldl {α : Type} (f : State → α → State) (l : List α) (s : State)
    (h : ∀ s a, (f s a).aside = s.aside) : (l.foldl f s).aside = s.aside := by
  induction l generalizing s with
  | nil => rfl
  | cons a l ih => rw [List.foldl_cons, ih, h]

/-- A bay changed in those fields alone. -/
@[simp] theorem aside_modBay (s : State) (i : BayIx) (f : Bay → Bay)
    (h : (f (s.bay i)).core = (s.bay i).core) : (s.modBay i f).aside = s.aside := by
  have bays : (s.modBay i f).bays.map Bay.core = s.bays.map Bay.core := by
    refine Vector.ext fun j hj => ?_
    have : ((s.modBay i f).bay ⟨j, hj⟩).core = (s.bay ⟨j, hj⟩).core := by
      rw [bay_modBay]
      split
      · next e => rw [e]; exact h
      · rfl
    simpa [State.bay] using this
  simp only [State.aside, bays]
  rfl

@[simp] theorem aside_modBays (s : State) (f : BayIx → Bay → Bay) (h : ∀ i b, (f i b).core = b.core) :
    (s.modBays f).aside = s.aside :=
  aside_foldl _ _ _ fun s i => aside_modBay s i (f i) (h i _)

theorem append_rest (l : Loop) (t : Txn) :
    { l.append t with queued := [], waiting := [], heldBack := [] } =
      { l with queued := [], waiting := [], heldBack := [] } := by
  unfold Loop.append; split <;> [rfl; (split <;> rfl)]

theorem put_rest (l : Loop) (t : Txn) :
    { l.put t with queued := [], waiting := [], heldBack := [] } =
      { l with queued := [], waiting := [], heldBack := [] } := by
  unfold Loop.put; split <;> first | rfl | exact append_rest l t

theorem reflow_rest (l : Loop) :
    { l.reflow with queued := [], waiting := [], heldBack := [] } =
      { l with queued := [], waiting := [], heldBack := [] } := by
  have go : ∀ (h : List Txn) (m : Loop),
      { h.foldl Loop.append m with queued := [], waiting := [], heldBack := [] } =
        { m with queued := [], waiting := [], heldBack := [] } := by
    intro h
    induction h with
    | nil => intro m; rfl
    | cons t h ih => intro m; rw [List.foldl_cons, ih, append_rest]
  exact go _ _

@[simp] theorem aside_place (s : State) (t : Txn) : (s.place t).aside = s.aside :=
  aside_mk s _ _ _ (put_rest s.loop t)

@[simp] theorem aside_withdraw (s : State) (p : Txn → Bool) : (s.withdraw p).aside = s.aside :=
  aside_mk s _ _ _ (reflow_rest _)

@[simp] theorem aside_markPending (s : State) : s.markPending.aside = s.aside := rfl

@[simp] theorem aside_markAtOnce (s : State) : s.markAtOnce.aside = s.aside := rfl

/-- A bay's commanded grant changed, its applied grant left. -/
@[simp] theorem aside_setGrants (s : State) (i : BayIx) (a c : Nat) (h : a = (s.bay i).applied) :
    (s.setGrants i a c).aside = s.aside := by
  unfold State.setGrants
  split
  · rfl
  · subst h
    exact aside_modBay s i (fun b => { b with applied := (s.bay i).applied, commanded := c }) rfl

@[simp] theorem aside_issueGrant (s : State) (k : GrantKind) (i : BayIx) (w : Nat) :
    (s.issueGrant k i w).aside = s.aside := by
  unfold State.issueGrant
  simp [core_eq]

@[simp] theorem aside_withdrawGrant (s : State) (i : BayIx) : (s.withdrawGrant i).aside = s.aside := by
  unfold State.withdrawGrant
  split <;> simp [core_eq]

@[simp] theorem aside_endRound (s : State) : s.endRound.aside = s.aside := rfl

@[simp] theorem aside_leaveRaise (s : State) : s.leaveRaise.aside = s.aside := rfl

@[simp] theorem aside_raiseBay (s : State) (i : BayIx) : (s.raiseBay i).aside = s.aside := by
  unfold State.raiseBay
  dsimp only
  split_ifs <;> simp

@[simp] theorem aside_beginRaising (s : State) : s.beginRaising.aside = s.aside := by
  unfold State.beginRaising
  simp

@[simp] theorem aside_roundOn (s : State) : s.roundOn.aside = s.aside := by
  unfold State.roundOn
  dsimp only
  split_ifs <;> simp

@[simp] theorem aside_lowerBay (s : State) (i : BayIx) : (s.lowerBay i).aside = s.aside := aside_issueGrant ..

@[simp] theorem aside_cutGrant (s : State) (i : BayIx) : (s.cutGrant i).aside = s.aside := by
  unfold State.cutGrant; split <;> simp

@[simp] theorem aside_cutRound (s : State) : s.cutRound.aside = s.aside := by
  unfold State.cutRound
  split <;> simp

@[simp] theorem aside_shedAll (s : State) : s.shedAll.aside = s.aside := by
  unfold State.shedAll
  dsimp only
  split <;> simp [core_eq]

@[simp] theorem aside_abandonRound (s : State) : s.abandonRound.aside = s.aside := by
  unfold State.abandonRound; split <;> rfl

@[simp] theorem aside_emergencyShed (s : State) : s.emergencyShed.aside = s.aside := by
  unfold State.emergencyShed; simp

@[simp] theorem aside_drainShed (s : State) : s.drainShed.aside = s.aside := by
  unfold State.drainShed; simp

@[simp] theorem aside_fallBelow (s : State) : s.fallBelow.aside = s.aside := by
  unfold State.fallBelow; simp

@[simp] theorem aside_recomputePool (s : State) : s.recomputePool.aside = s.aside := by
  unfold State.recomputePool
  dsimp only
  split <;> split <;> simp

@[simp] theorem aside_judgeEligible (s : State) : s.judgeEligible.aside = s.aside := by
  unfold State.judgeEligible
  dsimp only
  split <;> simp [core_eq]

@[simp] theorem aside_faultGrant (s : State) (i : BayIx) : (s.faultGrant i).aside = s.aside := by
  unfold State.faultGrant
  dsimp only
  split_ifs <;> simp

/-! ### The inlet's own steps, which raise notices -/

/-- A queue of notices has come from another by at most so many records placed, where there was room for them. -/
def Notices.Grown (k : Nat) (n m : Notices) : Prop :=
  n.queue.length + k ≤ 32 → ∃ l, l.length ≤ k ∧ m.queue = n.queue ++ l

theorem Notices.Grown.refl (k : Nat) (n : Notices) : n.Grown k n :=
  fun _ => ⟨[], by simp, by simp⟩

theorem Notices.Grown.trans {j k : Nat} {a b c : Notices} (h : a.Grown j b) (h' : b.Grown k c) : a.Grown (j + k) c := by
  intro room
  obtain ⟨l, short, e⟩ := h (by omega)
  obtain ⟨l', short', e'⟩ := h' (by rw [e, List.length_append]; omega)
  exact ⟨l ++ l', by rw [List.length_append]; omega, by rw [e', e, List.append_assoc]⟩

theorem Notices.Grown.mem {k : Nat} {n m : Notices} (h : n.Grown k m) (room : n.queue.length + k ≤ 32) {r : Notice}
    (member : r ∈ n.queue) : r ∈ m.queue := by
  obtain ⟨l, -, e⟩ := h room
  exact e ▸ List.mem_append_left _ member

/-- A record placed where there is room comes last (R184). -/
theorem put_of_room (n : Notices) (r : Notice) (room : n.queue.length < 32) :
    n.put r = { n with queue := n.queue ++ [r] } :=
  if_pos room

/-- A notice of a kind that is not discarded, where there is room for it (R182). -/
theorem mem_raise (s : State) (k : NoticeKind) (bay : Option BayIx) (asset : Option AssetId) (session : Option Nat)
    (value : Option Nat) (reason : Option Reason) (room : s.notices.queue.length < 32)
    (said : s.notices.levels.get k ≠ 0) :
    ⟨k, s.notices.levels.get k, s.retained.seconds, bay, asset, session, value, reason⟩ ∈
      (s.raise k bay asset session value reason).notices.queue := by
  simp only [State.raise, if_neg said, put_of_room _ _ room]
  simp

/-- Raising leaves all but the notices alone, and places at most one of them. -/
theorem raise_spec (s : State) (k : NoticeKind) (bay : Option BayIx) (asset : Option AssetId)
    (session : Option Nat) (value : Option Nat) (reason : Option Reason) : ∃ n,
    s.raise k bay asset session value reason = { s with notices := n } ∧ s.notices.Grown 1 n := by
  unfold State.raise
  dsimp only
  split
  · exact ⟨_, rfl, .refl 1 _⟩
  · refine ⟨_, rfl, fun room => ?_⟩
    rw [put_of_room _ _ room]
    exact ⟨[_], Nat.le_refl 1, rfl⟩

/-- A state has become another by pool work, by steps of the inlet's own and by at most so many notices raised. -/
def State.Inletwise (k : Nat) (s t : State) : Prop :=
  ∃ n, t.aside = State.aside { s with inlet := t.inlet, notices := n } ∧ s.notices.Grown k n

theorem State.Inletwise.of_aside {s t : State} (h : t.aside = s.aside) : s.Inletwise 0 t :=
  ⟨_, by rw [inlet_of_aside h]; exact h, .refl _ _⟩

theorem State.Inletwise.inlet (s : State) (x : Inlet) : s.Inletwise 0 { s with inlet := x } :=
  ⟨_, rfl, .refl _ _⟩

theorem State.Inletwise.trans {j k : Nat} {s t u : State} (h : s.Inletwise j t) (h' : t.Inletwise k u) :
    s.Inletwise (j + k) u := by
  obtain ⟨n, e, grown⟩ := h
  obtain ⟨m, e', grown'⟩ := h'
  have same : t.notices = n := (notices_of_aside e :)
  refine ⟨m, e'.trans ?_, grown.trans (same ▸ grown')⟩
  exact congrArg (a₁ := t.aside) (fun v : State => { v with inlet := u.inlet, notices := m }) e

theorem State.Inletwise.raise (s : State) (k : NoticeKind) (bay : Option BayIx) (asset : Option AssetId)
    (session : Option Nat) (value : Option Nat) (reason : Option Reason) :
    s.Inletwise 1 (s.raise k bay asset session value reason) := by
  obtain ⟨n, e, grown⟩ := raise_spec s k bay asset session value reason
  rw [e]
  exact ⟨n, rfl, grown⟩

theorem State.Inletwise.mono {j k : Nat} {s t : State} (h : s.Inletwise j t) (le : j ≤ k) : s.Inletwise k t := by
  obtain ⟨n, e, grown⟩ := h
  refine ⟨n, e, fun room => ?_⟩
  obtain ⟨l, short, e⟩ := grown (by omega)
  exact ⟨l, by omega, e⟩

theorem inletwise_latchCheck (s : State) : s.Inletwise 1 s.latchCheck := by
  unfold State.latchCheck
  split
  · refine State.Inletwise.trans (j := 0) ?_ (State.Inletwise.raise ..)
    exact State.Inletwise.trans (j := 0) (k := 0) (State.Inletwise.inlet s _) (.of_aside (aside_recomputePool _))
  · exact State.Inletwise.mono (State.Inletwise.of_aside rfl) (Nat.zero_le _)

theorem inletwise_strike (s : State) (a : Nat) : s.Inletwise 2 (s.strike a) := by
  unfold State.strike
  dsimp only
  refine State.Inletwise.trans (j := 1) (k := 1) ?_ (inletwise_latchCheck _)
  refine State.Inletwise.trans (j := 1) (k := 0) ?_ (.of_aside (aside_emergencyShed _))
  exact State.Inletwise.trans (j := 0) (k := 1) (State.Inletwise.inlet s _) (State.Inletwise.raise ..)

/-- A current sample (R4, R14, R42). -/
theorem inletwise_takeCurrent (s : State) (amps : Nat) : s.Inletwise 2 (s.takeCurrent amps) := by
  unfold State.takeCurrent
  dsimp only
  split
  · split
    · exact State.Inletwise.trans (j := 0) (State.Inletwise.inlet s _) (inletwise_strike _ _)
    · exact State.Inletwise.mono (State.Inletwise.inlet s _) (Nat.zero_le _)
  · exact State.Inletwise.mono (State.Inletwise.inlet s _) (Nat.zero_le _)

/-! ### The end of an event that finds the drain and the reconciliation waiting -/

/-- The reconciliation in progress, if any, waits for a bay, and the drain, if any, for a pulse. -/
structure State.Waits (s : State) : Prop where
  recon : s.cust.reconActive = true → ∃ i, (s.bay i).isPending = true
  drain : s.power.drain.isSome → s.arb.queue ≠ [] ∨ s.arb.slotA.isSome ∨ s.arb.slotB.isSome

theorem State.Calm.waits {s : State} (h : s.Calm) : s.Waits where
  recon e := absurd (h.1.symm.trans e) (by simp)
  drain e := absurd e (by simp [h.2])

theorem isPending_of_seen {a b : Bay} (h : b.seen = a.seen) : b.isPending = a.isPending := by
  unfold Bay.isPending; rw [recon_of_seen h]

/-- Waiting is a matter of the ground and of the arbiter. -/
theorem State.Waits.of {s t : State} (h : s.Waits) (active : t.cust.reconActive = s.cust.reconActive)
    (drain : t.power.drain = s.power.drain) (arb : t.arb = s.arb) (seen : ∀ i, (t.bay i).seen = (s.bay i).seen) :
    t.Waits where
  recon e :=
    let ⟨i, hi⟩ := h.recon (active ▸ e)
    ⟨i, (isPending_of_seen (seen i)).trans hi⟩
  drain e := arb ▸ h.drain (drain ▸ e)

/-- A grant of a slot leaves an arbiter with work with work (R100). -/
theorem grantSlot_busy (s : State) (h : s.arb.queue ≠ [] ∨ s.arb.slotA.isSome ∨ s.arb.slotB.isSome) :
    s.grantSlot.arb.queue ≠ [] ∨ s.grantSlot.arb.slotA.isSome ∨ s.grantSlot.arb.slotB.isSome := by
  unfold State.grantSlot
  split
  · split
    · exact h
    · dsimp only
      cases e : s.arb.slotA with
      | none => exact Or.inr (Or.inl rfl)
      | some p => exact Or.inr (Or.inr rfl)
  · exact h

theorem reconCheck_waits {s : State} (h : s.Waits) : s.reconCheck = s := by
  refine if_neg fun ends => ?_
  simp only [Bool.and_eq_true, List.all_eq_true, Bool.not_eq_true'] at ends
  obtain ⟨i, hi⟩ := h.recon ends.1
  exact absurd ((ends.2 i (mem_allBays i)).symm.trans hi) (by simp)

theorem drainCheck_waits {s : State} (h : s.Waits) : s.grantSlots.drainCheck = s.grantSlots := by
  have power : s.grantSlots.power = s.power := power_of_still (still_grantSlots s)
  refine if_neg fun ⟨drain, queue, a, b⟩ => ?_
  rw [power] at drain
  rcases grantSlot_busy _ (grantSlot_busy s (h.drain drain)) with e | e | e
  · exact e queue
  · exact absurd e (by rw [show s.grantSlot.grantSlot.arb.slotA = none from a]; simp)
  · exact absurd e (by rw [show s.grantSlot.grantSlot.arb.slotB = none from b]; simp)

/-- The end of such an event: what it leaves alone. -/
theorem still_settle_waits {s : State} (h : s.Waits) : s.settle.still = s.still := by
  simp only [State.settle, reconCheck_waits h, drainCheck_waits h, still_lines, still_deriveLamps,
    still_judgeEligible, still_roundOn, still_grantSlots]

theorem ground_settle_waits {s : State} (h : s.Waits) : s.settle.ground = s.ground :=
  ground_of_still (still_settle_waits h)

end Sys2Proof.Machine


/-! The samples of the inlet (O7, O9, O10). -/

namespace Sys2Proof.Machine

/-! ### What a sample does to the inlet (R1 to R4, R14) -/

/-- The cart at the moment of a sample, with the next one due. -/
def State.sampleTaken (s : State) : State :=
  { s.reach s.inlet.sampleDue with inlet := { s.inlet with sampleDue := s.inlet.sampleDue + 100 } }

theorem sample_eq (s : State) (volts amps : Nat) :
    s.sample volts amps = ((s.sampleTaken.takeVoltage volts).takeCurrent amps).settle := rfl

/-- A sample changes the clock and the inlet alone of what events keep. -/
theorem kept_sample (s : State) (volts amps : Nat) :
    (s.sample volts amps).kept =
      { s.kept with
        now := max s.now s.inlet.sampleDue
        inlet := (s.sampleTaken.inlet.afterVoltage (min volts 300)).afterCurrent (s.cfg .irate * 11)
          (min amps 2000) (max s.now s.inlet.sampleDue) s.retained.seconds } := by
  have volt := kept_takeVoltage s.sampleTaken volts
  rw [sample_eq, kept_settle, kept_takeCurrent, volt]
  generalize s.sampleTaken.takeVoltage volts = u at volt
  have settings : u.settings = s.settings := congrArg Kept.settings volt
  have now : u.now = max s.now s.inlet.sampleDue := congrArg Kept.now volt
  have retained : u.retained = s.retained := congrArg Kept.retained volt
  have inlet : u.inlet = _ := congrArg Kept.inlet volt
  simp only [State.strikeThreshold, State.cfg, settings, now, retained, inlet]
  rfl

theorem sample_inlet (s : State) (volts amps : Nat) :
    (s.sample volts amps).inlet =
      (s.sampleTaken.inlet.afterVoltage (min volts 300)).afterCurrent (s.cfg .irate * 11)
        (min amps 2000) (max s.now s.inlet.sampleDue) s.retained.seconds := by
  rw [inlet_kept, kept_sample]

theorem sample_now (s : State) (volts amps : Nat) : (s.sample volts amps).now = max s.now s.inlet.sampleDue := by
  have kept := kept_sample s volts amps
  generalize s.sample volts amps = t at kept ⊢
  exact congrArg (a₁ := t.kept) Kept.now kept

/-- The condition after a voltage sample, by the ranges of R2 and R3. -/
theorem afterVoltage_cases (x : Inlet) (v : Nat) :
    let ring := pushRing x.voltRing v
    let y := x.afterVoltage v
    let restores : Prop := x.cond = .lost ∧ 90 ≤ v ∧ 1 ≤ x.restoreCount
    (restores → y.voltRing = ring.drop (ring.length - 2) ∧ y.cond = .normal ∧ y.restoreCount = 0) ∧
    (¬ restores → y.voltRing = ring) ∧
    (v < 70 → y.cond = .lost ∧ y.restoreCount = 0) ∧
    (70 ≤ v → v < 90 → y.restoreCount = 0 ∧ (x.cond = .lost → y.cond = .lost)) ∧
    (90 ≤ v → x.cond = .lost → x.restoreCount = 0 → y.cond = .lost ∧ y.restoreCount = 1) ∧
    (70 ≤ v → x.cond ≠ .lost → y.cond = if ringMean ring < 90 then .brownout else .normal) := by
  have iff : (x.cond = .lost && 90 ≤ v && 1 ≤ x.restoreCount : Bool) = true ↔
      x.cond = .lost ∧ 90 ≤ v ∧ 1 ≤ x.restoreCount := by simp [and_assoc]
  dsimp only [Inlet.afterVoltage]
  refine ⟨fun r => ?_, fun r => ?_, fun low => ?_, fun lo hi => ?_, fun hi lost none => ?_, fun lo sound => ?_⟩
  · have := iff.2 r
    have : ¬ v < 70 := by omega
    have : ¬ v < 90 := by omega
    simp_all
  · have : ¬ (x.cond = .lost && 90 ≤ v && 1 ≤ x.restoreCount : Bool) = true := fun e => r (iff.1 e)
    exact if_neg this
  · exact ⟨if_pos low, if_pos (by omega)⟩
  · have : ¬ v < 70 := by omega
    have : ¬ 90 ≤ v := by omega
    refine ⟨if_pos hi, fun lost => ?_⟩
    simp_all
  · have : ¬ v < 70 := by omega
    have : ¬ v < 90 := by omega
    simp_all
  · have : ¬ v < 70 := by omega
    simp_all

/-! ### Riding, and Transit from Settling (R18, R21) -/

/-- Riding entered: the power state and its timer move, and the pool becomes 0 (R18, R50). -/
theorem aside_enterRiding (s : State) :
    s.enterRiding.aside =
      State.aside { s with
        power := { s.power with state := .riding, rideDue := some (s.now + s.cfg .rideThrough) } } := by
  unfold State.enterRiding
  dsimp only
  rw [aside_recomputePool, aside_cutRound]

/-- The part after the condition has become Lost, and the pool recomputed where it was Brownout (R2, R7). -/
theorem dropoutSample_eq (s : State) : ∃ u : State, s.dropoutSample = u.dropout ∧
    u.aside = State.aside { s with inlet := { s.inlet with cond := .lost, restoreCount := 0 } } := by
  unfold State.dropoutSample
  dsimp only
  split
  · exact ⟨_, rfl, aside_recomputePool _⟩
  · exact ⟨_, rfl, rfl⟩

theorem takeVoltage_low (s : State) (volts : Nat) (low : min volts 300 < 70) :
    s.takeVoltage volts =
      State.dropoutSample
        { s with inlet := { s.inlet with voltRing := pushRing s.inlet.voltRing (min volts 300) } } := by
  unfold State.takeVoltage State.judgeVoltage
  exact if_pos low

/-- What a dropout in Settling leaves: Transit, the rebuild and the reconciliation abandoned, the loop power off
(R21, R150). -/
theorem dropSettling_spec (s : State) (powered : s.cust.reconActive = true → s.loop.power = true) :
    let t := s.dropSettling
    t.power = { s.power with state := .transit, settleDue := none } ∧ t.loop.power = false ∧
      t.loop.rebuild = none ∧ t.cust.reconActive = false ∧ t.SupplySound := by
  have abandoned : ∀ u : State, (u.cust.reconActive = true → u.loop.power = true) →
      u.abandonRebuild.power = u.power ∧ u.abandonRebuild.loop.rebuild = none ∧
        (u.abandonRebuild.cust.reconActive = true → u.abandonRebuild.loop.power = true) := by
    intro u hu
    unfold State.abandonRebuild
    split
    · next e => exact ⟨rfl, e, hu⟩
    · dsimp only
      split
      · exact ⟨rfl, rfl, hu⟩
      · split
        · have off := loopPowerOff_spec { u with loop := { u.loop with rebuild := none } }
          generalize State.loopPowerOff _ = w at off ⊢
          obtain ⟨power, -, active, -, -, rebuild, -⟩ := off
          exact ⟨power, rebuild, fun e => absurd (active.symm.trans e) (by simp)⟩
        · exact ⟨rfl, rfl, hu⟩
  have off : ∀ u : State, (u.cust.reconActive = true → u.loop.power = true) → u.loop.rebuild = none →
      let w := if u.loop.power then u.loopPowerOff else u
      w.power = u.power ∧ w.loop.power = false ∧ w.loop.rebuild = none ∧ w.cust.reconActive = false := by
    intro u hu gone
    dsimp only
    split
    · have off := loopPowerOff_spec u
      generalize u.loopPowerOff = w at off ⊢
      obtain ⟨power, -, active, -, loop, rebuild, -⟩ := off
      exact ⟨power, loop, rebuild.trans gone, active⟩
    · next dark =>
      refine ⟨rfl, by simpa using dark, gone, ?_⟩
      cases e : u.cust.reconActive with
      | false => rfl
      | true => exact absurd (hu e) dark
  obtain ⟨power, gone, hu⟩ := abandoned { s with power := { s.power with settleDue := none } } powered
  obtain ⟨power', loop, rebuild, active⟩ := off _ hu gone
  unfold State.dropSettling
  dsimp only
  generalize State.abandonRebuild _ = u at power gone hu power' loop rebuild active ⊢
  generalize (if u.loop.power then u.loopPowerOff else u) = w at power' loop rebuild active ⊢
  have said := ground_raise w .inletLost none none none none none
  generalize w.raise .inletLost = w' at said ⊢
  have sound := supply_recomputePool { w' with power := { w'.power with state := .transit } }
  have rest := aside_recomputePool { w' with power := { w'.power with state := .transit } }
  generalize State.recomputePool _ = t at sound rest ⊢
  refine ⟨?_, ?_, ?_, ?_, sound⟩
  · rw [(power_of_aside rest :), power_of_ground said, power', power]
  · exact (loopPower_of_aside rest :).trans ((loopPower_of_ground said).trans loop)
  · exact (rebuild_of_aside rest :).trans ((rebuild_of_ground said).trans rebuild)
  · exact (congrArg CustodyUnit.reconActive (cust_of_aside rest :)).trans ((reconActive_of_ground said).trans active)

/-! ### The current sample and the end of the event -/

/-- What pool work and the inlet's own steps leave of a state. -/
theorem State.Inletwise.spec {k : Nat} {s t : State} (h : s.Inletwise k t) :
    t.now = s.now ∧ t.settings = s.settings ∧ t.retained = s.retained ∧ t.power = s.power ∧ t.cust = s.cust ∧
      t.arb = s.arb ∧ t.loop.power = s.loop.power ∧ t.loop.rebuild = s.loop.rebuild ∧
      (∀ i, (t.bay i).core = (s.bay i).core) ∧ s.notices.Grown k t.notices := by
  obtain ⟨n, e, grown⟩ := h
  have same : t.notices = n := (notices_of_aside e :)
  exact ⟨(now_of_aside e :), (settings_of_aside e :), (retained_of_aside e :), (power_of_aside e :),
    (cust_of_aside e :), (arb_of_aside e :), (loopPower_of_aside e :), (rebuild_of_aside e :),
    (core_of_aside e :), same ▸ grown⟩

/-- What waits still waits after such steps. -/
theorem State.Inletwise.waits {k : Nat} {s t : State} (h : s.Inletwise k t) (w : s.Waits) : t.Waits := by
  obtain ⟨-, -, -, power, cust, arb, -, -, core, -⟩ := h.spec
  exact w.of (by rw [cust]) (by rw [power]) arb fun i => seen_of_core (core i)

/-- The current sample and the end of the event leave power state, loop power, rebuild and reconciliation, where what is
in progress waits. -/
theorem takeCurrent_settle {s : State} (h : s.Waits) (amps : Nat) :
    let t := (s.takeCurrent amps).settle
    t.power = s.power ∧ t.loop.power = s.loop.power ∧ t.loop.rebuild = s.loop.rebuild ∧ t.cust = s.cust ∧
      s.notices.Grown 2 t.notices ∧ (s.SupplySound → t.SupplySound) := by
  have steps := inletwise_takeCurrent s amps
  have ends := still_settle_waits (steps.waits h)
  have sound : s.SupplySound → (s.takeCurrent amps).settle.SupplySound := fun p =>
    supply_settle (supply_takeCurrent amps p)
  generalize (s.takeCurrent amps).settle = t at ends sound ⊢
  generalize s.takeCurrent amps = u at steps ends
  obtain ⟨-, -, -, power, cust, -, loop, rebuild, -, grown⟩ := steps.spec
  refine ⟨(power_of_still ends).trans power, (loopPower_of_still ends).trans loop,
    (rebuild_of_still ends).trans rebuild, (cust_of_still ends).trans cust, fun room => ?_, sound⟩
  rw [queue_of_still ends]
  exact grown room

/-! ### A dropout sample (R18 to R21) -/

/-- What a state has of another where they differ in the clock, the inlet and what the allocator changes. -/
theorem rest_of_aside {s u : State} {n : Nat} {x : Inlet} (h : u.aside = State.aside { s with now := n, inlet := x }) :
    u.now = n ∧ u.settings = s.settings ∧ u.power = s.power ∧ u.cust = s.cust ∧ u.arb = s.arb ∧
      u.loop.power = s.loop.power ∧ ∀ i, (u.bay i).core = (s.bay i).core :=
  ⟨(now_of_aside h :), (settings_of_aside h :), (power_of_aside h :), (cust_of_aside h :), (arb_of_aside h :),
    (loopPower_of_aside h :), (core_of_aside h :)⟩

/-- What the voltage part of a dropout sample leaves before the power state moves. -/
theorem takeVoltage_dropout (s : State) (volts : Nat) (low : min volts 300 < 70) : ∃ u : State,
    s.sampleTaken.takeVoltage volts = u.dropout ∧ u.now = max s.now s.inlet.sampleDue ∧ u.settings = s.settings ∧
      u.power = s.power ∧ u.cust = s.cust ∧ u.arb = s.arb ∧ u.loop.power = s.loop.power ∧
      ∀ i, (u.bay i).core = (s.bay i).core := by
  obtain ⟨u, drop, rest⟩ := dropoutSample_eq
    { s.sampleTaken with
      inlet := { s.sampleTaken.inlet with voltRing := pushRing s.inlet.voltRing (min volts 300) } }
  exact ⟨u, (takeVoltage_low s.sampleTaken volts low).trans drop, rest_of_aside (s := s) rest⟩

/-- What Riding leaves (R18). -/
theorem enterRiding_spec (s : State) :
    let t := s.enterRiding
    t.power = { s.power with state := .riding, rideDue := some (s.now + s.cfg .rideThrough) } ∧ t.cust = s.cust ∧
      t.loop.power = s.loop.power ∧ t.SupplySound ∧ (s.Waits → t.Waits) := by
  have sound : s.enterRiding.SupplySound := by
    unfold State.enterRiding; exact supply_recomputePool _
  have rest := aside_enterRiding s
  generalize s.enterRiding = t at rest sound ⊢
  have power := power_of_aside rest
  have cust := cust_of_aside rest
  have core := core_of_aside rest
  exact ⟨power, cust, (loopPower_of_aside rest :), sound, fun h =>
    h.of (by rw [cust]) (by rw [power]) (arb_of_aside rest :) fun i => seen_of_core (core i)⟩

/-- A dropout sample where the reconciliation and the drain in progress wait: in Serving the cart becomes Riding, in
Riding, Draining and Transit the power state stays (R18 to R20). -/
theorem sample_dropout (s : State) (volts amps : Nat) (low : min volts 300 < 70) (h : s.Waits) :
    let t := s.sample volts amps
    (s.power.state = .serving →
      t.power = { s.power with
        state := .riding, rideDue := some (max s.now s.inlet.sampleDue + s.cfg .rideThrough) } ∧
      t.pool.inForce = 0 ∧ t.loop.power = s.loop.power) ∧
    (s.power.state = .riding ∨ s.power.state = .draining ∨ s.power.state = .transit →
      t.power = s.power ∧ t.loop.power = s.loop.power) := by
  obtain ⟨u, volt, now, settings, power, cust, arb, loop, core⟩ := takeVoltage_dropout s volts low
  rw [sample_eq, volt]
  have waits : u.Waits := h.of (by rw [cust]) (by rw [power]) arb fun i => seen_of_core (core i)
  refine ⟨fun serving => ?_, fun other => ?_⟩
  · have drop : u.dropout = u.enterRiding := by
      unfold State.dropout; rw [power, serving]
    rw [drop]
    obtain ⟨power', -, loop', sound, wait⟩ := enterRiding_spec u
    generalize u.enterRiding = w at power' loop' sound wait ⊢
    obtain ⟨powers, loops, -, -, -, sounds⟩ := takeCurrent_settle (wait waits) amps
    generalize (w.takeCurrent amps).settle = t at powers loops sounds ⊢
    have riding : t.power = { s.power with
        state := .riding, rideDue := some (max s.now s.inlet.sampleDue + s.cfg .rideThrough) } := by
      rw [powers, power', power, now, State.cfg, settings]; rfl
    exact ⟨riding, sounds sound (Or.inl (by rw [riding]; simp)), loops.trans (loop'.trans loop)⟩
  · have drop : u.dropout = u := by
      unfold State.dropout
      rw [power]
      rcases other with e | e | e <;> rw [e]
    rw [drop]
    obtain ⟨powers, loops, -⟩ := takeCurrent_settle waits amps
    exact ⟨powers.trans power, loops.trans loop⟩

/-- A dropout sample in Settling (R21). -/
theorem sample_dropSettling (s : State) (volts amps : Nat) (low : min volts 300 < 70)
    (settling : s.power.state = .settling) (drain : s.power.drain = none)
    (powered : s.cust.reconActive = true → s.loop.power = true) :
    let t := s.sample volts amps
    t.power = { s.power with state := .transit, settleDue := none } ∧ t.pool.inForce = 0 ∧
      t.loop.power = false ∧ t.loop.rebuild = none ∧ t.cust.reconActive = false := by
  obtain ⟨u, volt, -, -, power, cust, -, loop, -⟩ := takeVoltage_dropout s volts low
  have drops : u.dropout = u.dropSettling := by
    unfold State.dropout; rw [power, settling]
  rw [sample_eq, volt, drops]
  obtain ⟨power', loop', rebuild, active, sound⟩ := dropSettling_spec u (by rw [cust, loop]; exact powered)
  generalize u.dropSettling = w at power' loop' rebuild active sound ⊢
  have calm : w.Calm := ⟨active, by rw [power', power]; exact drain⟩
  obtain ⟨powers, loops, rebuilds, custs, -, sounds⟩ := takeCurrent_settle calm.waits amps
  generalize (w.takeCurrent amps).settle = t at powers loops rebuilds custs sounds ⊢
  have transit : t.power = { s.power with state := .transit, settleDue := none } := by rw [powers, power', power]
  exact ⟨transit, sounds sound (Or.inl (by rw [transit]; simp)), loops.trans loop', rebuilds.trans rebuild,
    by rw [custs]; exact active⟩

/-- Settles O7: the inlet by the ranges of the two samples, and the dropout by the power state. -/
theorem sampleEntersTheRingsAndIsJudged : Obligations.SampleEntersTheRingsAndIsJudged := by
  intro volts amps s awake
  refine ⟨_, live_awake awake _, ?_⟩
  have now := sample_now s volts amps
  have inlet := sample_inlet s volts amps
  have dropped := sample_dropout s volts amps
  have settled := sample_dropSettling s volts amps
  generalize s.sample volts amps = t at now inlet dropped settled ⊢
  obtain ⟨restored, kept, low, mid, first, judged⟩ :=
    afterVoltage_cases s.sampleTaken.inlet (min volts 300)
  have count : t.inlet.highCount =
      if s.cfg .irate * 11 < min amps 2000 ∧ s.inlet.highCount < 2 then s.inlet.highCount + 1 else 0 := by
    rw [inlet]; rfl
  refine ⟨now, by rw [inlet]; rfl, by rw [inlet]; rfl, fun r => ?_, fun r => ?_, fun l => ?_, fun lo hi => ?_,
    fun hi lost none => ?_, fun lo sound => ?_, fun high few => ?_, fun high many => ?_, fun fits => ?_,
    by rw [inlet]; rfl, by rw [inlet]; rfl, by rw [inlet]; rfl, fun l recon drain => dropped l ⟨recon, drain⟩,
    fun l => settled l⟩
  · rw [inlet]; exact restored r
  · rw [inlet]; exact kept r
  · rw [inlet]; exact low l
  · rw [inlet]; exact mid lo hi
  · rw [inlet]; exact first hi lost none
  · rw [inlet]; exact judged lo sound
  · rw [count, if_pos ⟨high, few⟩]
  · rw [count, if_neg (by omega)]
  · rw [count, if_neg (by omega)]

end Sys2Proof.Machine


/-! Drains and rebuilds started, as the later obligations need them, and the restoration of the inlet (O9). -/

namespace Sys2Proof.Machine

/-! ### The beginning of a drain and of a rebuild (R145, R154) -/

/-- A drain begun: of the ground, its record alone (R154, R155). -/
theorem ground_beginDrain (s : State) (k : DrainKind) :
    (s.beginDrain k).ground =
      { s.ground with power := { s.power with drain := some ⟨k, 5, s.now + s.cfg .drainLimit * 1000⟩ } } := by
  unfold State.beginDrain
  cases k <;> simp <;> rfl

/-- A rebuild started with the loop power on: the live bay count in force, Draining, and a drain (R145, R154, R189). -/
theorem ground_startRebuild_on {s : State} (on : s.loop.power = true) (c : RebuildCause) :
    (s.startRebuild c).ground =
      { s.ground with
        power := { s.power with drain := some ⟨.rebuild, 5, s.now + s.cfg .drainLimit * 1000⟩ }
        bayCount := s.cfg .bayCount
        rebuild := some (Rebuild.fresh (s.cfg .bayCount) c) } := by
  unfold State.startRebuild
  dsimp only
  generalize hu : (State.mk _ _ _ _ _ _ _ _ _ _ _ _ _ _ _ _ _ _) = u
  have g : (if s.loop.bayCount != s.cfg .bayCount then u.dispatch else u).ground = u.ground := by
    split <;> simp
  have k : (if s.loop.bayCount != s.cfg .bayCount then u.dispatch else u).kept = u.kept := by
    split <;> simp
  generalize (if s.loop.bayCount != s.cfg .bayCount then u.dispatch else u) = v at g k ⊢
  have power : v.loop.power = true := by rw [loopPower_of_ground g, ← hu]; exact on
  rw [if_pos power, ground_beginDrain, g, power_of_ground g, now_of_kept k, cfg_of_kept k, ← hu]
  rfl

/-- PowerOff moves no power state. -/
theorem power_enterPowerOff (s : State) : s.enterPowerOff.power = s.power := by
  unfold State.enterPowerOff
  split
  · rfl
  · dsimp only
    have off : (if s.loop.power = true then s.loopPowerOff else s).power = s.power := by
      split
      · exact (loopPowerOff_spec s).1
      · rfl
    generalize (if s.loop.power = true then s.loopPowerOff else s) = u at off ⊢
    split <;> exact off

/-- A rebuild started: the power state and its timers stay, and a drain that it begins is of kind Rebuild. -/
theorem power_startRebuild (s : State) (c : RebuildCause) : ∃ d,
    (s.startRebuild c).power = { s.power with drain := d } ∧
      (d = s.power.drain ∨ ∃ due, d = some ⟨.rebuild, 5, due⟩) := by
  cases on : s.loop.power
  · have g := ground_startRebuild_off on c
    generalize s.startRebuild c = t at g ⊢
    exact ⟨s.power.drain, congrArg Ground.power g, Or.inl rfl⟩
  · have g := ground_startRebuild_on on c
    generalize s.startRebuild c = t at g ⊢
    exact ⟨_, congrArg Ground.power g, Or.inr ⟨_, rfl⟩⟩

/-! ### The end of an event in which a drain of kind Rebuild may complete -/

/-- A drain of kind Rebuild that ends leaves the power state (R146, R157). -/
theorem power_endDrain_rebuild {s : State} {d : Drain} (drain : s.power.drain = some d) (kind : d.kind = .rebuild) :
    s.endDrain.power = { s.power with drain := none } := by
  unfold State.endDrain
  rw [drain]
  dsimp only
  rw [kind]
  exact power_enterPowerOff _

/-- The end of an event without a reconciliation, in the part that follows the arbiter. -/
theorem settle_eq {s : State} (idle : s.cust.reconActive = false) :
    s.settle = s.grantSlots.drainCheck.roundOn.judgeEligible.deriveLamps.lines := by
  have : s.reconCheck = s := if_neg (by simp [idle])
  unfold State.settle
  rw [this]

/-- The end of an event, with no reconciliation and no drain but one of kind Rebuild, leaves the power state and its
timers. -/
theorem power_settle {s : State} (idle : s.cust.reconActive = false)
    (kind : ∀ d, s.power.drain = some d → d.kind = .rebuild) : ∃ d, s.settle.power = { s.power with drain := d } := by
  have ends : s.settle.power = s.grantSlots.drainCheck.power := by
    rw [settle_eq idle]
    exact power_of_ground (by simp)
  have power : s.grantSlots.power = s.power := power_of_ground (ground_grantSlots s)
  generalize s.grantSlots = u at ends power
  rw [ends]
  unfold State.drainCheck
  split
  · cases drain : u.power.drain with
    | none =>
      have : u.endDrain = u := by unfold State.endDrain; rw [drain]
      exact ⟨u.power.drain, by rw [this, power]⟩
    | some d =>
      rw [power_endDrain_rebuild drain (kind d (power ▸ drain)), power]
      exact ⟨_, rfl⟩
  · exact ⟨s.power.drain, by rw [power]⟩

/-! ### Dispatch (R120) -/

/-- A state has become another in its sessions and channels, the shares of its bays and the marks of its round. -/
def State.Shared (s t : State) : Prop :=
  ∃ sess round bays, t = { s with sess := sess, round := round, bays := bays } ∧ ∀ i, ∃ n, t.bay i = { s.bay i with share := n }

theorem State.Shared.refl (s : State) : s.Shared s := ⟨s.sess, s.round, s.bays, rfl, fun i => ⟨(s.bay i).share, rfl⟩⟩

theorem State.Shared.trans {s t u : State} (h : s.Shared t) (h' : t.Shared u) : s.Shared u := by
  obtain ⟨sess, round, bays, e, share⟩ := h
  obtain ⟨sess', round', bays', e', share'⟩ := h'
  refine ⟨sess', round', bays', by rw [e', e], fun i => ?_⟩
  obtain ⟨n, en⟩ := share i
  obtain ⟨m, em⟩ := share' i
  exact ⟨m, by rw [em, en]⟩

theorem State.Shared.sess (s : State) (x : Sessions) : s.Shared { s with sess := x } :=
  ⟨x, s.round, s.bays, rfl, fun i => ⟨(s.bay i).share, rfl⟩⟩

theorem State.Shared.markPending (s : State) : s.Shared s.markPending :=
  ⟨s.sess, s.markPending.round, s.bays, rfl, fun i => ⟨(s.bay i).share, rfl⟩⟩

theorem State.Shared.share (s : State) (i : BayIx) (n : Share) :
    s.Shared (s.modBay i fun b => { b with share := n }) := by
  refine ⟨s.sess, s.round, (s.modBay i fun b => { b with share := n }).bays, rfl, fun j => ?_⟩
  rw [bay_modBay]
  split
  · next e => subst e; exact ⟨_, rfl⟩
  · exact ⟨(s.bay j).share, rfl⟩

theorem shared_refreshShare (s : State) (i : BayIx) : s.Shared (s.refreshShare i) := by
  unfold State.refreshShare
  dsimp only
  split
  · exact (State.Shared.share s i _).trans (.markPending _)
  · exact .share s i _

theorem shared_dispatchTo (s : State) (c : ChanIx) (x : Session) : s.Shared (s.dispatchTo c x) := by
  unfold State.dispatchTo
  exact (((State.Shared.sess s _).trans (State.Shared.sess _ _))).trans (shared_refreshShare _ _)

theorem shared_dispatchChan (s : State) (c : ChanIx) : s.Shared (s.dispatchChan c) := by
  unfold State.dispatchChan
  split
  · split
    · exact shared_dispatchTo ..
    · exact .refl s
  · exact .refl s

theorem State.Shared.foldl {α : Type} (f : State → α → State) (h : ∀ (s : State) a, s.Shared (f s a)) (l : List α) (s : State) :
    s.Shared (l.foldl f s) := by
  induction l generalizing s with
  | nil => exact .refl s
  | cons a l ih => exact (h s a).trans (ih _)

/-- Dispatch moves sessions, channels and shares alone. -/
theorem shared_dispatch (s : State) : s.Shared s.dispatch := State.Shared.foldl _ shared_dispatchChan _ s

theorem State.Shared.waits {s t : State} (h : s.Shared t) (w : s.Waits) : t.Waits := by
  obtain ⟨sess, round, bays, e, share⟩ := h
  subst e
  refine w.of rfl rfl rfl fun i => ?_
  obtain ⟨n, e⟩ := share i
  rw [e]
  simp only [seen_eq]

end Sys2Proof.Machine


/-! The restoration of the inlet (O9). -/

namespace Sys2Proof.Machine

/-! ### A rebuild started with the loop power off leaves the arbiter -/

theorem arb_enterPowerOff_off {s : State} (off : s.loop.power = false) : s.enterPowerOff.arb = s.arb := by
  unfold State.enterPowerOff
  split
  · rfl
  · have same : (if s.loop.power = true then s.loopPowerOff else s) = s := by simp [off]
    dsimp only
    rw [same]
    split <;> rfl

theorem arb_startRebuild_off {s : State} (off : s.loop.power = false) (c : RebuildCause) :
    (s.startRebuild c).arb = s.arb := by
  unfold State.startRebuild
  dsimp only
  generalize hu : (State.mk _ _ _ _ _ _ _ _ _ _ _ _ _ _ _ _ _ _) = u
  have shared : u.Shared (if s.loop.bayCount != s.cfg .bayCount then u.dispatch else u) := by
    split
    · exact shared_dispatch u
    · exact .refl u
  generalize (if s.loop.bayCount != s.cfg .bayCount then u.dispatch else u) = v at shared ⊢
  obtain ⟨sess, round, bays, e, -⟩ := shared
  have power : v.loop.power = false := by rw [e, ← hu]; exact off
  rw [if_neg (by simp [power]), arb_enterPowerOff_off power, e, ← hu]

theorem waits_startRebuild_off {s : State} (off : s.loop.power = false) (c : RebuildCause) (w : s.Waits) :
    (s.startRebuild c).Waits := by
  have g := ground_startRebuild_off off c
  have arb := arb_startRebuild_off off c
  generalize s.startRebuild c = t at g arb ⊢
  exact w.of (congrArg Ground.reconActive g) (congrArg (fun x => (Ground.power x).drain) g) arb
    fun i => congrFun (congrArg Ground.seen g) i

/-! ### Serving resumed (R18) -/

/-- The end of the event finds no reconciliation and, of drains, one of kind Rebuild or one that waits. -/
def State.Ends (s : State) : Prop :=
  s.cust.reconActive = false ∧ (s.Waits ∨ ∀ d, s.power.drain = some d → d.kind = .rebuild)

theorem State.Inletwise.ends {k : Nat} {s t : State} (h : s.Inletwise k t) (w : s.Ends) : t.Ends := by
  obtain ⟨-, -, -, power, cust, -⟩ := h.spec
  obtain ⟨idle, waits | kind⟩ := w
  · exact ⟨by rw [cust]; exact idle, Or.inl (h.waits waits)⟩
  · exact ⟨by rw [cust]; exact idle, Or.inr (by rw [power]; exact kind)⟩

/-- Such an end leaves the power state and its timers. -/
theorem State.Ends.power {s : State} (h : s.Ends) : ∃ d, s.settle.power = { s.power with drain := d } := by
  obtain ⟨idle, waits | kind⟩ := h
  · exact ⟨s.power.drain, power_of_still (still_settle_waits waits)⟩
  · exact power_settle idle kind

theorem ends_autoCheck {s : State} (idle : s.cust.reconActive = false) (w : s.Waits) :
    s.autoCheck.Ends ∧ ∃ d, s.autoCheck.power = { s.power with drain := d } := by
  unfold State.autoCheck
  split
  · obtain ⟨d, power, -⟩ := power_startRebuild s .auto
    refine ⟨?_, d, power⟩
    cases on : s.loop.power
    · have g := ground_startRebuild_off on .auto
      have waits := waits_startRebuild_off on .auto w
      generalize s.startRebuild .auto = t at g waits ⊢
      exact ⟨(congrArg Ground.reconActive g).trans idle, Or.inl waits⟩
    · have g := ground_startRebuild_on on .auto
      generalize s.startRebuild .auto = t at g ⊢
      refine ⟨(congrArg Ground.reconActive g).trans idle, Or.inr fun d e => ?_⟩
      have drain : t.power.drain = some _ := congrArg (fun x => (Ground.power x).drain) g
      rw [drain] at e
      cases e
      rfl
  · exact ⟨⟨idle, Or.inl w⟩, s.power.drain, rfl⟩

theorem resumeServing_spec {s : State} (idle : s.cust.reconActive = false) (w : s.Waits) :
    s.resumeServing.Ends ∧
      ∃ d, s.resumeServing.power = { s.power with state := .serving, rideDue := none, drain := d } := by
  unfold State.resumeServing
  dsimp only
  have rest := aside_recomputePool { s with power := { s.power with state := .serving, rideDue := none } }
  generalize State.recomputePool _ = u at rest ⊢
  have power := power_of_aside rest
  have cust := cust_of_aside rest
  have core := core_of_aside rest
  have waits : u.markAtOnce.Waits :=
    w.of (congrArg CustodyUnit.reconActive cust) (by rw [markAtOnce_power, power]) (arb_of_aside rest :)
      fun i => seen_of_core (core i)
  have shared := shared_dispatch u.markAtOnce
  have waits := shared.waits waits
  obtain ⟨sess, round, bays, e, -⟩ := shared
  generalize u.markAtOnce.dispatch = v at e waits ⊢
  obtain ⟨ends, d, powers⟩ := ends_autoCheck (s := v) (by rw [e]; exact (congrArg CustodyUnit.reconActive cust).trans idle) waits
  refine ⟨ends, d, powers.trans ?_⟩
  rw [e]
  exact congrArg (fun p : Power => { p with drain := d }) power


/-! ### The sample that restores the inlet (R2) -/

theorem afterVoltage_restores {x : Inlet} {v : Nat} (lost : x.cond = .lost) (count : 1 ≤ x.restoreCount)
    (high : 90 ≤ v) :
    x.afterVoltage v =
      { x with
        cond := .normal
        restoreCount := 0
        voltRing := (pushRing x.voltRing v).drop ((pushRing x.voltRing v).length - 2) } := by
  obtain ⟨restored, -⟩ := afterVoltage_cases x v
  obtain ⟨ring, cond, zero⟩ := restored ⟨lost, high, count⟩
  rw [← ring, ← cond, ← zero]
  rfl

/-- The cart as the voltage part of the restoring sample finds it, its inlet judged. -/
def State.restoredAt (s : State) (volts : Nat) : State :=
  { s.sampleTaken with inlet := s.sampleTaken.inlet.afterVoltage (min volts 300) }

theorem takeVoltage_restores {s : State} {volts : Nat} (lost : s.inlet.cond = .lost) (count : s.inlet.restoreCount = 1)
    (high : 90 ≤ volts) : s.sampleTaken.takeVoltage volts = (s.restoredAt volts).restoration := by
  have low : ¬ min volts 300 < 70 := by omega
  have mid : ¬ min volts 300 < 90 := by omega
  have one : 1 ≤ s.sampleTaken.inlet.restoreCount := Nat.le_of_eq count.symm
  have lost : s.sampleTaken.inlet.cond = .lost := lost
  unfold State.takeVoltage State.judgeVoltage State.restoredAt
  rw [afterVoltage_restores lost one (by omega)]
  dsimp only
  rw [if_neg low, if_neg mid, lost]
  dsimp only
  rw [if_pos one]
  rfl

theorem restoredAt_waits {s : State} (volts : Nat) (w : s.Waits) : (s.restoredAt volts).Waits :=
  w.of rfl rfl rfl fun _ => rfl

/-- Vin after a sample is that of the voltage sample. -/
theorem sample_vin (s : State) (volts amps : Nat) : (s.sample volts amps).vin = (s.restoredAt volts).vin := by
  unfold State.vin
  rw [sample_inlet]
  rfl

/-- Settling entered (R20): the power state and its timers, with the pool computed. -/
theorem enterSettling_spec (s : State) :
    let t := s.enterSettling
    t.power = { s.power with
      state := .settling
      settleDue := some (s.now + s.cfg .settle * 1000)
      settleCause := s.power.nextCause
      nextCause := .settle } ∧ t.notices = s.notices ∧ t.SupplySound ∧ (s.Waits → t.Waits) := by
  unfold State.enterSettling
  dsimp only
  have rest := aside_recomputePool
    { s with
      power := { s.power with
        state := .settling
        settleDue := some (s.now + s.cfg .settle * 1000)
        settleCause := s.power.nextCause
        nextCause := .settle } }
  have sound := supply_recomputePool
    { s with
      power := { s.power with
        state := .settling
        settleDue := some (s.now + s.cfg .settle * 1000)
        settleCause := s.power.nextCause
        nextCause := .settle } }
  generalize State.recomputePool _ = t at rest sound ⊢
  have power := power_of_aside rest
  have cust := cust_of_aside rest
  have core := core_of_aside rest
  exact ⟨power, (notices_of_aside rest :), sound, fun w =>
    w.of (congrArg CustodyUnit.reconActive cust) (by rw [power]) (arb_of_aside rest :) fun i => seen_of_core (core i)⟩

/-- The notice of a restoration stays in the queue to the end of the event, where there is room (R182, R184). -/
theorem mem_raise_sample {u v : State} (amps : Nat) (k : NoticeKind) (value : Option Nat)
    (same : v.notices = (u.raise k (value := value)).notices) (w : v.Waits) (room : u.notices.queue.length ≤ 16)
    (level : u.notices.levels.get k ≠ 0) :
    ⟨k, u.notices.levels.get k, u.retained.seconds, none, none, none, value, none⟩ ∈
      (v.takeCurrent amps).settle.notices.queue := by
  obtain ⟨-, -, -, -, grown, -⟩ := takeCurrent_settle w amps
  have member := mem_raise u k none none none value none (by omega) level
  obtain ⟨n, e, more⟩ := raise_spec u k none none none value none
  have notices : (u.raise k (value := value)).notices = n := by rw [e]
  rw [notices] at member same
  obtain ⟨l, short, long⟩ := more (by omega)
  refine grown.mem ?_ (by rw [same]; exact member)
  rw [same, long, List.length_append]
  omega

/-- A restoration by the power state that it meets, to the end of its sample (R18 to R20). -/
theorem restoration_spec {u : State} (idle : u.cust.reconActive = false) (w : u.Waits) (amps : Nat) :
    let t := (u.restoration.takeCurrent amps).settle
    let back := u.notices.queue.length ≤ 16 → u.notices.levels.get .inletBack ≠ 0 →
      ⟨.inletBack, u.notices.levels.get .inletBack, u.retained.seconds, none, none, none, some u.vin, none⟩ ∈
        t.notices.queue
    (u.power.state = .transit →
      t.power = { u.power with
        state := .settling
        settleDue := some (u.now + u.cfg .settle * 1000)
        settleCause := u.power.nextCause
        nextCause := .settle } ∧ t.pool.inForce = 0 ∧ back) ∧
    (u.power.state = .draining → t.power = u.power ∧ t.loop.power = u.loop.power ∧ back) ∧
    (u.power.state = .riding → t.power.state = .serving ∧ t.power.rideDue = none) := by
  obtain ⟨n, said, -⟩ := raise_spec u .inletBack none none none (some u.vin) none
  have waits : (u.raise .inletBack (value := some u.vin)).Waits := by
    rw [said]; exact w.of rfl rfl rfl fun _ => rfl
  have at_raise : (u.raise .inletBack (value := some u.vin)).power = u.power ∧
      (u.raise .inletBack (value := some u.vin)).now = u.now ∧
      (u.raise .inletBack (value := some u.vin)).cfg = u.cfg := by
    rw [said]; exact ⟨rfl, rfl, rfl⟩
  refine ⟨fun transit => ?_, fun draining => ?_, fun riding => ?_⟩
  · have e : u.restoration = (u.raise .inletBack (value := some u.vin)).enterSettling := by
      unfold State.restoration; rw [transit]
    rw [e]
    obtain ⟨power, notices, sound, keeps⟩ := enterSettling_spec (u.raise .inletBack (value := some u.vin))
    have waits := keeps waits
    have member := mem_raise_sample amps .inletBack (some u.vin) notices waits
    obtain ⟨powers, -, -, -, -, sounds⟩ := takeCurrent_settle waits amps
    rw [at_raise.1, at_raise.2.1, at_raise.2.2] at power
    generalize State.enterSettling _ = v at power sound sounds powers member ⊢
    generalize (v.takeCurrent amps).settle = t at sounds powers member ⊢
    refine ⟨powers.trans power, sounds sound (Or.inl ?_), member⟩
    rw [powers, power]
    simp
  · have e : u.restoration = u.raise .inletBack (value := some u.vin) := by
      unfold State.restoration; rw [draining]
    rw [e]
    have member := mem_raise_sample amps .inletBack (some u.vin) rfl waits
    obtain ⟨powers, loops, -⟩ := takeCurrent_settle waits amps
    refine ⟨powers.trans ?_, loops.trans ?_, member⟩ <;> rw [said]
  · have e : u.restoration = u.resumeServing := by
      unfold State.restoration; rw [riding]
    rw [e]
    obtain ⟨ends, d, power⟩ := resumeServing_spec idle w
    have steps := inletwise_takeCurrent u.resumeServing amps
    obtain ⟨d', powers⟩ := (steps.ends ends).power
    obtain ⟨-, -, -, power', -⟩ := steps.spec
    rw [powers, power', power]
    exact ⟨rfl, rfl⟩

theorem pushRing_tail_length (ring : List Nat) (v : Nat) :
    ((pushRing ring v).drop ((pushRing ring v).length - 2)).length = min 2 (ring.length + 1) := by
  have : (pushRing ring v).length = if ring.length < 8 then ring.length + 1 else ring.length := by
    unfold pushRing; split <;> simp; omega
  rw [List.length_drop, this]
  split <;> omega

/-- Settles O9: the restoration by the power state that it meets. -/
theorem restorationMovesThePowerState : Obligations.RestorationMovesThePowerState := by
  intro volts amps s awake idle lost count high drain
  have restored : exec (.inletRestored volts amps) s = .next (s.sample volts amps) := by
    have would : s.wouldRestore volts = true := by simp [State.wouldRestore, lost, count, high]
    rw [← live_awake awake]
    show live s (if s.wouldRestore volts then s.sample volts amps else s) = _
    rw [if_pos would]
  have sampled : exec (.voltageSample volts amps) s = .next (s.sample volts amps) :=
    live_awake awake (s.sample volts amps)
  refine ⟨_, restored, sampled, ?_⟩
  have waits : s.Waits := ⟨fun e => absurd (idle.symm.trans e) (by simp), drain⟩
  have inlet := sample_inlet s volts amps
  rw [afterVoltage_restores (x := s.sampleTaken.inlet) (v := min volts 300) lost
    (Nat.le_of_eq count.symm) (by omega)] at inlet
  have moved := restoration_spec (u := s.restoredAt volts) idle (restoredAt_waits volts waits) amps
  have same : s.sample volts amps = ((s.restoredAt volts).restoration.takeCurrent amps).settle := by
    rw [sample_eq, takeVoltage_restores lost count high]
  rw [← same, ← sample_vin s volts amps] at moved
  generalize s.sample volts amps = t at inlet moved ⊢
  exact ⟨by rw [inlet]; rfl, by rw [inlet]; rfl, by rw [inlet]; exact pushRing_tail_length _ _, moved⟩

end Sys2Proof.Machine


/-! The grants a state has commanded and the round they stand in: what leaves both alone. One lemma for each operation. -/

namespace Sys2Proof.Machine

/-- The grants commanded, and the round but for its mark of recompute pending. -/
structure Grants where
  round : Round
  atLast : Nat
  commanded : BayIx → Nat
  outstanding : BayIx → Option Outstanding

def State.grants (s : State) : Grants where
  round := { s.round with pending := false }
  atLast := s.pool.atLast
  commanded := fun i => (s.bay i).commanded
  outstanding := fun i => (s.bay i).outstanding

section
variable {s t : State} (h : t.grants = s.grants)
include h

theorem commanded_of_grants (i : BayIx) : (t.bay i).commanded = (s.bay i).commanded :=
  congrFun (congrArg Grants.commanded h) i
theorem outstanding_of_grants (i : BayIx) : (t.bay i).outstanding = (s.bay i).outstanding :=
  congrFun (congrArg Grants.outstanding h) i
theorem atLast_of_grants : t.pool.atLast = s.pool.atLast := congrArg Grants.atLast h
theorem round_of_grants : { t.round with pending := false } = { s.round with pending := false } :=
  congrArg Grants.round h
theorem phase_of_grants : t.round.state = s.round.state := congrArg (fun g => (Grants.round g).state) h
theorem suspended_of_grants : t.round.suspended = s.round.suspended :=
  congrArg (fun g => (Grants.round g).suspended) h
end

@[simp] theorem grants_mk (s : State) (now : Nat) (resetHeld keyswitch : Bool) (inlet : Inlet) (pool : Pool)
    (power : Power) (round : Round) (cust : CustodyUnit) (arb : Arbiter) (sess : Sessions) (loop : Loop)
    (link : HostLink) (notices : Notices) (settings : Settings) (image : Option SettingsImage) (retained : Retained)
    (pending : List Instr) (atLast : pool.atLast = s.pool.atLast)
    (rest : { round with pending := false } = { s.round with pending := false }) :
    State.grants ⟨now, resetHeld, keyswitch, inlet, pool, power, round, s.bays, cust, arb, sess, loop, link, notices,
      settings, image, retained, pending⟩ = s.grants := by
  simp only [State.grants, State.bay, atLast, rest]

@[simp] theorem grants_foldl {α : Type} (f : State → α → State) (l : List α) (s : State)
    (h : ∀ s a, (f s a).grants = s.grants) : (l.foldl f s).grants = s.grants := by
  induction l generalizing s with
  | nil => rfl
  | cons a l ih => rw [List.foldl_cons, ih, h]

/-- A bay changed in other fields. -/
@[simp] theorem grants_modBay (s : State) (i : BayIx) (f : Bay → Bay)
    (c : (f (s.bay i)).commanded = (s.bay i).commanded) (o : (f (s.bay i)).outstanding = (s.bay i).outstanding) :
    (s.modBay i f).grants = s.grants := by
  have commanded : (fun j => ((s.modBay i f).bay j).commanded) = fun j => (s.bay j).commanded := by
    funext j; rw [bay_modBay]; split <;> simp_all
  have outstanding : (fun j => ((s.modBay i f).bay j).outstanding) = fun j => (s.bay j).outstanding := by
    funext j; rw [bay_modBay]; split <;> simp_all
  show Grants.mk .. = Grants.mk ..
  simp only [modBay_round, modBay_pool, commanded, outstanding]

@[simp] theorem grants_modBays (s : State) (f : BayIx → Bay → Bay) (c : ∀ i b, (f i b).commanded = b.commanded)
    (o : ∀ i b, (f i b).outstanding = b.outstanding) : (s.modBays f).grants = s.grants :=
  grants_foldl _ _ _ fun s i => grants_modBay s i (f i) (c i _) (o i _)

@[simp] theorem grants_setSlot (s : State) (k : PulseSlot) (p : Option Pulse) : (s.setSlot k p).grants = s.grants := by
  cases k <;> rfl

@[simp] theorem grants_lines (s : State) : s.lines.grants = s.grants := rfl

@[simp] theorem grants_place (s : State) (t : Txn) : (s.place t).grants = s.grants := rfl

@[simp] theorem grants_withdraw (s : State) (p : Txn → Bool) : (s.withdraw p).grants = s.grants := rfl

@[simp] theorem grants_markPending (s : State) : s.markPending.grants = s.grants := rfl

@[simp] theorem grants_raise (s : State) (k : NoticeKind) (bay : Option BayIx) (asset : Option AssetId)
    (session : Option Nat) (value : Option Nat) (reason : Option Reason) :
    (s.raise k bay asset session value reason).grants = s.grants := by
  obtain ⟨n, e, -⟩ := raise_spec s k bay asset session value reason
  rw [e]; rfl

@[simp] theorem grants_refreshShare (s : State) (i : BayIx) : (s.refreshShare i).grants = s.grants := by
  unfold State.refreshShare
  dsimp only
  split <;> simp

@[simp] theorem grants_dispatchChan (s : State) (c : ChanIx) : (s.dispatchChan c).grants = s.grants := by
  unfold State.dispatchChan
  split
  · split
    · unfold State.dispatchTo; rw [grants_refreshShare]; rfl
    · rfl
  · rfl

@[simp] theorem grants_dispatch (s : State) : s.dispatch.grants = s.grants := by
  unfold State.dispatch; simp

/-! ### The end of an event -/

@[simp] theorem grants_grantSlot (s : State) : s.grantSlot.grants = s.grants := by
  unfold State.grantSlot
  split
  · split
    · rfl
    · unfold State.startAttempt; simp
  · rfl

@[simp] theorem grants_grantSlots (s : State) : s.grantSlots.grants = s.grants := by
  simp [State.grantSlots]

@[simp] theorem grants_judgeEligible (s : State) : s.judgeEligible.grants = s.grants := by
  unfold State.judgeEligible
  dsimp only
  split <;> simp

@[simp] theorem grants_compareLamp (s : State) (i : BayIx) : (s.compareLamp i).grants = s.grants := by
  unfold State.compareLamp
  dsimp only
  split_ifs <;> simp

@[simp] theorem grants_deriveLamp (s : State) (i : BayIx) : (s.deriveLamp i).grants = s.grants := by
  unfold State.deriveLamp
  dsimp only
  split <;> simp

@[simp] theorem grants_deriveLamps (s : State) : s.deriveLamps.grants = s.grants := by
  simp [State.deriveLamps]

/-! ### Custody and the drain -/

@[simp] theorem grants_askBolt (s : State) (i : BayIx) (d : Dir) : (s.askBolt i d).grants = s.grants := by
  unfold State.askBolt
  split
  · rfl
  · split <;> rfl
  · rfl

@[simp] theorem grants_dropBolt (s : State) (i : BayIx) : (s.dropBolt i).grants = s.grants := by
  unfold State.dropBolt; split <;> rfl

@[simp] theorem grants_leaveReady (s : State) (i : BayIx) (why : Option Reason) :
    (s.leaveReady i why).grants = s.grants := by
  unfold State.leaveReady
  dsimp only
  split
  · split <;> simp
  · rfl

@[simp] theorem grants_emptyReady (s : State) (why : Reason) : (s.emptyReady why).grants = s.grants := by
  unfold State.emptyReady
  split <;> simp

@[simp] theorem grants_stopWindow (s : State) (i : BayIx) : (s.stopWindow i).grants = s.grants := by
  unfold State.stopWindow
  exact grants_modBay _ _ _ rfl rfl

@[simp] theorem grants_dropTag (s : State) (i : BayIx) : (s.dropTag i).grants = s.grants := by
  unfold State.dropTag
  dsimp only
  split
  · split
    · split <;> rfl
    · rfl
  · rfl

@[simp] theorem grants_stopSeating (s : State) (i : BayIx) : (s.stopSeating i).grants = s.grants := by
  simp [State.stopSeating]

@[simp] theorem grants_become (s : State) (i : BayIx) (c : Custody) : (s.become i c).grants = s.grants := by
  unfold State.become
  dsimp only
  split_ifs <;> cases c <;> simp

@[simp] theorem grants_engageBay (s : State) (i : BayIx) : (s.engageBay i).grants = s.grants := by
  unfold State.engageBay; split <;> simp

@[simp] theorem grants_secureBay (s : State) (i : BayIx) : (s.secureBay i).grants = s.grants := by
  simp [State.secureBay]

@[simp] theorem grants_sayCancelled (s : State) (i : BayIx) (why : Reason) :
    (s.sayCancelled i why).grants = s.grants := grants_raise ..

@[simp] theorem grants_drainReleasing (s : State) (i : BayIx) (why : Reason) :
    (s.drainReleasing i why).grants = s.grants := by
  unfold State.drainReleasing; split <;> simp

@[simp] theorem grants_drainReleased (s : State) (i : BayIx) (why : Reason) :
    (s.drainReleased i why).grants = s.grants := by
  unfold State.drainReleased; split <;> simp

/-! ### A state in which nothing is granted -/

/-- No grant commanded, no GRANT outstanding, and no round in progress. -/
structure State.Shed (s : State) : Prop where
  none : ∀ i, (s.bay i).commanded = 0 ∧ (s.bay i).outstanding = none
  lowering : s.round.state ≠ .lowering
  raising : s.round.state ≠ .raising

theorem State.Shed.of {s t : State} (h : s.Shed) (e : t.grants = s.grants) : t.Shed where
  none i := ⟨(commanded_of_grants e i).trans (h.none i).1, (outstanding_of_grants e i).trans (h.none i).2⟩
  lowering := by rw [phase_of_grants e]; exact h.lowering
  raising := by rw [phase_of_grants e]; exact h.raising

theorem State.Shed.cutRound {s : State} (h : s.Shed) : s.cutRound = s :=
  if_neg fun e => e.elim h.lowering h.raising

theorem State.Shed.roundOn {s : State} (h : s.Shed) : s.roundOn = s := by
  have : (if s.round.state = .lowering ∧ s.round.lowering = [] then
      if s.round.cut then s.endRound else s.beginRaising else s) = s := if_neg fun e => h.lowering e.1
  unfold State.roundOn
  rw [this]
  exact if_neg fun e => h.raising e.1

/-- The pool recomputed with nothing granted: marks alone are set besides (R7). -/
theorem State.Shed.recomputePool {s : State} (h : s.Shed) : ∃ pending atOnce,
    s.recomputePool = { s with
      pool := { s.pool with inForce := s.poolNow }
      round := { s.round with pending := pending, atOnce := atOnce } } ∧
    (s.round.pending = true → pending = true) := by
  unfold State.recomputePool State.fallBelow
  dsimp only
  have shed : ∀ n a b, State.Shed
      { s with pool := { s.pool with inForce := n }, round := { s.round with pending := a, atOnce := b } } :=
    fun n a b => ⟨h.none, h.lowering, h.raising⟩
  have cut : ∀ n, State.cutRound (State.markAtOnce { s with pool := { s.pool with inForce := n } }) =
      State.markAtOnce { s with pool := { s.pool with inForce := n } } := fun n => (shed n true true).cutRound
  rw [cut]
  split <;> split
  · exact ⟨true, true, rfl, fun _ => rfl⟩
  · exact ⟨true, true, rfl, fun _ => rfl⟩
  · exact ⟨true, s.round.atOnce, rfl, fun _ => rfl⟩
  · exact ⟨s.round.pending, s.round.atOnce, rfl, id⟩

/-- Step by step, a shed leaves nothing granted (R42, R51). -/
theorem bay_shedAll (s : State) (i : BayIx) :
    (s.shedAll.bay i) = { s.bay i with commanded := 0, outstanding := none } := by
  unfold State.shedAll
  dsimp only
  have e : ∀ (u : State) p, (u.withdraw p).bay i = u.bay i := fun _ _ => rfl
  rw [e, bay_modBays, bay_zeroCommanded, if_pos (mem_allBays i)]
  split <;> rfl

end Sys2Proof.Machine


/-! Strikes (O10). -/

namespace Sys2Proof.Machine

/-! ### A voltage sample leaves a calm cart calm, where it does not resume Serving -/

theorem State.Inletwise.calm {k : Nat} {s t : State} (h : s.Inletwise k t) (c : s.Calm) : t.Calm := by
  obtain ⟨-, -, -, power, cust, -⟩ := h.spec
  exact ⟨by rw [cust]; exact c.1, by rw [power]; exact c.2⟩

theorem inletwise_brownoutTest (s : State) : s.Inletwise 1 s.brownoutTest := by
  have moved : ∀ x : Inlet, s.Inletwise 0 (State.recomputePool { s with inlet := x }) := fun x =>
    State.Inletwise.trans (j := 0) (k := 0) (.inlet s x) (.of_aside (aside_recomputePool _))
  unfold State.brownoutTest
  split
  · split
    · refine State.Inletwise.trans (j := 1) (k := 0) ?_ (.of_aside (aside_recomputePool _))
      exact State.Inletwise.trans (j := 0) (k := 1) (.inlet s _) (.raise ..)
    · exact State.Inletwise.mono (.of_aside rfl) (Nat.zero_le 1)
  · split
    · exact State.Inletwise.mono (moved _) (Nat.zero_le 1)
    · exact State.Inletwise.mono (.of_aside rfl) (Nat.zero_le 1)
  · exact State.Inletwise.mono (.of_aside rfl) (Nat.zero_le 1)

theorem calm_dropout {s : State} (c : s.Calm) : s.dropout.Calm := by
  unfold State.dropout
  split
  · obtain ⟨power, cust, -⟩ := enterRiding_spec s
    exact ⟨by rw [cust]; exact c.1, by rw [power]; exact c.2⟩
  · obtain ⟨power, -, -, idle, -⟩ := dropSettling_spec s fun e => absurd (c.1.symm.trans e) (by simp)
    exact ⟨idle, by rw [power]; exact c.2⟩
  all_goals exact c

theorem calm_dropoutSample {s : State} (c : s.Calm) : s.dropoutSample.Calm := by
  obtain ⟨u, e, rest⟩ := dropoutSample_eq s
  obtain ⟨-, -, power, cust, -⟩ := rest_of_aside (s := s) rest
  rw [e]
  exact calm_dropout ⟨by rw [cust]; exact c.1, by rw [power]; exact c.2⟩

theorem calm_restoration {s : State} (c : s.Calm) (riding : s.power.state ≠ .riding) : s.restoration.Calm := by
  have said : ∀ v, (s.raise .inletBack (value := v)).Calm := fun v => (State.Inletwise.raise s ..).calm c
  unfold State.restoration
  split
  · next e => exact absurd e riding
  · exact said _
  · have c := said (some s.vin)
    generalize s.raise .inletBack (value := some s.vin) = u at c ⊢
    unfold State.enterSettling
    have rest := aside_recomputePool
      { u with
        power := { u.power with
          state := .settling
          settleDue := some (u.now + u.cfg .settle * 1000)
          settleCause := u.power.nextCause
          nextCause := .settle } }
    generalize State.recomputePool _ = t at rest ⊢
    have power := power_of_aside rest
    have cust := cust_of_aside rest
    exact ⟨by rw [cust]; exact c.1, by rw [power]; exact c.2⟩
  all_goals exact c

theorem calm_judgeVoltage {s : State} (c : s.Calm) (v : Nat) (riding : s.power.state = .riding → v < 90) :
    (s.judgeVoltage v).Calm := by
  have moved : ∀ x : Inlet, State.Calm { s with inlet := x } := fun x => ⟨c.1, c.2⟩
  unfold State.judgeVoltage
  split
  · exact calm_dropoutSample c
  · split
    · exact (inletwise_brownoutTest _).calm (moved _)
    · next mid =>
      split
      · split
        · unfold State.restored
          exact calm_restoration (moved _) fun e => absurd (riding e) mid
        · exact moved _
      all_goals exact (inletwise_brownoutTest s).calm c

theorem calm_takeVoltage {s : State} (c : s.Calm) (volts : Nat) (riding : s.power.state = .riding → volts < 90) :
    (s.takeVoltage volts).Calm :=
  calm_judgeVoltage (s := { s with inlet := { s.inlet with voltRing := pushRing s.inlet.voltRing (min volts 300) } })
    ⟨c.1, c.2⟩ (min volts 300) fun e => by have := riding e; omega

/-! ### The emergency shed (R42) -/

theorem bay_abandonRound (s : State) (i : BayIx) : s.abandonRound.bay i = s.bay i := by
  unfold State.abandonRound; split <;> rfl

/-- What the emergency shed leaves: nothing granted, and the round in Holdoff. -/
theorem emergencyShed_spec (s : State) :
    s.emergencyShed.Shed ∧ s.emergencyShed.round.state = .holdoff ∧ s.emergencyShed.round.pending = true ∧
      s.emergencyShed.pool.atLast = 0 := by
  refine ⟨⟨fun i => ?_, by simp [State.emergencyShed], by simp [State.emergencyShed]⟩, rfl, rfl, rfl⟩
  have e : s.emergencyShed.bay i = s.shedAll.abandonRound.bay i := by
    unfold State.emergencyShed
    generalize s.shedAll.abandonRound = u
    rfl
  rw [e, bay_abandonRound, bay_shedAll]
  exact ⟨rfl, rfl⟩

/-- Nothing granted, the round in Holdoff, a recomputation pending, and 0 as the pool at last allocation. -/
def State.HeldOff (s : State) : Prop :=
  s.Shed ∧ s.round.state = .holdoff ∧ s.round.pending = true ∧ s.pool.atLast = 0

theorem State.HeldOff.of {s t : State} (h : s.HeldOff) (e : t.grants = s.grants)
    (pending : s.round.pending = true → t.round.pending = true) : t.HeldOff := by
  obtain ⟨shed, state, marked, last⟩ := h
  exact ⟨shed.of e, (phase_of_grants e).trans state, pending marked, (atLast_of_grants e).trans last⟩

theorem heldOff_latchCheck {s : State} (h : s.HeldOff) : s.latchCheck.HeldOff := by
  have raised : ∀ (u : State) k v, u.HeldOff → (u.raise k (value := v)).HeldOff := by
    intro u k v hu
    obtain ⟨n, e, -⟩ := raise_spec u k none none none v none
    rw [e]
    exact hu.of rfl id
  unfold State.latchCheck
  split
  · refine raised _ _ _ ?_
    obtain ⟨shed, state, marked, last⟩ := h
    have shed : State.Shed { s with inlet := { s.inlet with latch := true } } := ⟨shed.none, shed.lowering, shed.raising⟩
    obtain ⟨pending, atOnce, e, marks⟩ := shed.recomputePool
    rw [e]
    exact ⟨⟨shed.none, shed.lowering, shed.raising⟩, state, marks marked, last⟩
  · exact h

theorem heldOff_strike (s : State) (a : Nat) : (s.strike a).HeldOff :=
  heldOff_latchCheck (emergencyShed_spec _)

/-- The third strike of the record sets the pool to 0 (R16). -/
theorem supply_latchCheck_set {s : State} (three : 3 ≤ s.inlet.strikes.length) (clear : s.inlet.latch = false) :
    s.latchCheck.SupplySound := by
  unfold State.latchCheck
  rw [if_pos ⟨three, by simp [clear]⟩]
  exact supply_raise _ _ _ _ _ _ (supply_recomputePool _)

/-! ### The end of a calm event -/

theorem round_grantSlots (s : State) : s.grantSlots.round = s.round := by
  have one : ∀ u : State, u.grantSlot.round = u.round := by
    intro u
    unfold State.grantSlot
    split
    · split
      · rfl
      · exact setSlot_round ..
    · rfl
  exact (one _).trans (one _)

theorem round_deriveLamps (s : State) : s.deriveLamps.round = s.round := by
  have one : ∀ (u : State) i, (u.deriveLamp i).round = u.round := by
    intro u i
    unfold State.deriveLamp State.compareLamp
    dsimp only
    split
    · rfl
    · split_ifs <;> rfl
  have all : ∀ (l : List BayIx) (u : State), (l.foldl State.deriveLamp u).round = u.round := by
    intro l
    induction l with
    | nil => intro u; rfl
    | cons i l ih => intro u; exact (ih _).trans (one u i)
  exact all _ s

theorem judgeEligible_round (s : State) : ∃ pending,
    s.judgeEligible.round = { s.round with pending := pending } ∧ (s.round.pending = true → pending = true) := by
  unfold State.judgeEligible
  dsimp only
  split
  · exact ⟨true, by
      show { (s.modBays _).round with pending := true } = _
      rw [modBays_round], fun _ => rfl⟩
  · exact ⟨s.round.pending, by rw [modBays_round], id⟩

/-- The end of a calm event with nothing granted and the round in Holdoff. -/
theorem heldOff_settle {s : State} (c : s.Calm) (h : s.HeldOff) : s.settle.HeldOff := by
  have h : s.grantSlots.HeldOff := h.of (grants_grantSlots s) fun e => by rw [round_grantSlots]; exact e
  rw [settle_eq c.1, drainCheck_waits c.waits]
  have on : s.grantSlots.roundOn = s.grantSlots := h.1.roundOn
  rw [on]
  refine h.of (by simp) fun e => ?_
  obtain ⟨pending, judged, marks⟩ := judgeEligible_round s.grantSlots
  have said : ∀ u : State, u.lines.round = u.round := fun _ => rfl
  rw [said, round_deriveLamps, judged]
  exact marks e

/-! ### STRIKE, STRIKE_AGE_OUT and STRIKE_HOLDOFF_EXPIRY (R14 to R16, R43) -/

theorem strike_eq {s : State} (awake : s.resetHeld = false) (volts amps : Nat) (two : s.inlet.highCount = 2)
    (high : s.cfg .irate * 11 < min amps 2000) : exec (.strike volts amps) s = .next (s.sample volts amps) := by
  have would : s.wouldStrike amps = true := by
    simp only [State.wouldStrike, State.strikeThreshold, two, high, decide_true, Bool.and_self]
  rw [← live_awake awake]
  show live s (if s.wouldStrike amps then s.sample volts amps else s) = _
  rw [if_pos would]

theorem takeCurrent_strikes {s : State} {amps : Nat} (two : s.inlet.highCount = 2)
    (high : s.cfg .irate * 11 < min amps 2000) : ∃ x : Inlet,
    s.takeCurrent amps = State.strike { s with inlet := x } (min amps 2000) ∧ x.strikes = s.inlet.strikes ∧
      x.latch = s.inlet.latch := by
  unfold State.takeCurrent
  dsimp only
  rw [if_pos, if_pos]
  · exact ⟨_, rfl, rfl, rfl⟩
  · exact two.ge
  · exact high

/-- The third strike of the record sets the pool to 0 (R16). -/
theorem supply_strike {s : State} (a : Nat) (two : 2 ≤ s.inlet.strikes.length) (clear : s.inlet.latch = false) :
    (s.strike a).SupplySound := by
  unfold State.strike
  dsimp only
  generalize hu : State.raise _ _ _ _ _ _ _ = u
  have inlet : u.emergencyShed.inlet = { s.inlet with
      highCount := 0
      strikes := s.inlet.strikes ++ [(⟨s.retained.seconds, s.now + 600000⟩ : Strike)]
      holdoffDue := some (s.now + 10000) } := by
    rw [inlet_of_kept (kept_emergencyShed u), ← hu, inlet_of_kept (kept_raise ..)]
  generalize u.emergencyShed = v at inlet ⊢
  refine supply_latchCheck_set ?_ ?_
  · rw [inlet, List.length_append]
    exact Nat.succ_le_succ two
  · rw [inlet]
    exact clear

/-- What the strike of a sample leaves to the end of its event, but for the inlet itself. -/
theorem sample_strike {s : State} (calm : s.Calm) {volts amps : Nat} (two : s.inlet.highCount = 2)
    (high : s.cfg .irate * 11 < min amps 2000) (riding : s.power.state = .riding → volts < 90) :
    (s.sample volts amps).HeldOff ∧
      (s.inlet.latch = false → 2 ≤ s.inlet.strikes.length → (s.sample volts amps).SupplySound) := by
  have volt := kept_takeVoltage s.sampleTaken volts
  have calm : (s.sampleTaken.takeVoltage volts).Calm := calm_takeVoltage (s := s.sampleTaken) calm volts riding
  rw [sample_eq]
  generalize s.sampleTaken.takeVoltage volts = u at volt calm
  have inlet : u.inlet = s.sampleTaken.inlet.afterVoltage (min volts 300) := congrArg (a₁ := u.kept) Kept.inlet volt
  have settings : u.settings = s.settings := congrArg (a₁ := u.kept) Kept.settings volt
  obtain ⟨x, struck, strikes, latch⟩ := takeCurrent_strikes (s := u) (amps := amps)
    (by rw [inlet]; exact two) (by rw [State.cfg, settings]; exact high)
  rw [inlet] at strikes latch
  rw [struck]
  have calm : State.Calm { u with inlet := x } := ⟨calm.1, calm.2⟩
  have calm := (inletwise_strike _ (min amps 2000)).calm calm
  exact ⟨heldOff_settle calm (heldOff_strike _ _), fun clear many =>
    supply_settle (supply_strike _ (strikes ▸ many) (latch.trans clear))⟩

theorem afterCurrent_strike {x : Inlet} {threshold a : Nat} (now : Nat) (time : Secs) (two : x.highCount = 2)
    (high : threshold < a) :
    x.afterCurrent threshold a now time =
      { x with
        currRing := pushRing x.currRing a
        highCount := 0
        strikes := x.strikes ++ [⟨time, now + 600000⟩]
        holdoffDue := some (now + 10000)
        latch := x.latch || 2 ≤ x.strikes.length } := by
  simp [Inlet.afterCurrent, two, high]

theorem strikeAgeOut_eq {s : State} (awake : s.resetHeld = false) {x : Strike} {rest : List Strike}
    (e : s.inlet.strikes = x :: rest) :
    exec .strikeAgeOut s = .next { s with now := max s.now x.due, inlet := { s.inlet with strikes := rest } } := by
  refine (live_awake awake _).trans ?_
  rw [e, List.head?_cons, Option.map_some, atDue_some]
  have : (s.reach x.due).inlet.strikes.tail = rest := by rw [reach_inlet, e, List.tail_cons]
  dsimp only
  rw [this]
  rfl

theorem strikeHoldoffExpiry_eq {s : State} (awake : s.resetHeld = false) {due : Nat}
    (e : s.inlet.holdoffDue = some due) :
    exec .strikeHoldoffExpiry s =
      .next { s with
        now := max s.now due
        inlet := { s.inlet with holdoffDue := none }
        round := { s.round with state := if s.round.state = .holdoff then .idle else s.round.state } } := by
  refine (live_awake awake _).trans ?_
  rw [e, atDue_some]
  rfl

/-- Settles O10: the strike with its emergency shed, and the ends of its entry and of its hold-off. -/
theorem strikesAreRecordedAndAgeOut : Obligations.StrikesAreRecordedAndAgeOut := by
  refine ⟨fun volts amps s awake calm two high riding => ?_, fun s awake =>
    ⟨fun _ _ e => strikeAgeOut_eq awake e, fun _ e => strikeHoldoffExpiry_eq awake e⟩⟩
  refine ⟨_, strike_eq awake volts amps two high, ?_⟩
  have inlet := sample_inlet s volts amps
  rw [afterCurrent_strike _ _ (show (s.sampleTaken.inlet.afterVoltage _).highCount = 2 from two) high] at inlet
  obtain ⟨⟨shed, state, pending, last⟩, sound⟩ := sample_strike calm two high riding
  generalize s.sample volts amps = t at inlet shed state pending last sound ⊢
  have latch : t.inlet.latch = (s.inlet.latch || 2 ≤ s.inlet.strikes.length) := congrArg Inlet.latch inlet
  refine ⟨congrArg Inlet.strikes inlet, congrArg Inlet.holdoffDue inlet, congrArg Inlet.highCount inlet, shed.none,
    state, pending, last, latch, fun clear many => sound clear many (Or.inr (Or.inr ?_))⟩
  rw [latch]
  simp [many]

end Sys2Proof.Machine


/-! The unsent transactions: what placing and withdrawing do to them (R142), and a round cut short (R41). -/

namespace Sys2Proof.Machine

/-! ### Placements (R142) -/

theorem mem_append_unsent (l : Loop) (t y : Txn) : y ∈ (l.append t).unsent ↔ y = t ∨ y ∈ l.unsent := by
  unfold Loop.append Loop.unsent
  split
  · simp only [List.mem_append, List.mem_singleton]; tauto
  · split <;> simp only [List.mem_append, List.mem_singleton] <;> tauto

theorem mem_reflow_unsent (l : Loop) (y : Txn) : y ∈ l.reflow.unsent ↔ y ∈ l.unsent := by
  have go : ∀ (h : List Txn) (m : Loop), y ∈ (h.foldl Loop.append m).unsent ↔ y ∈ h ∨ y ∈ m.unsent := by
    intro h
    induction h with
    | nil => simp
    | cons t h ih => intro m; rw [List.foldl_cons, ih, mem_append_unsent, List.mem_cons]; tauto
  unfold Loop.reflow
  rw [go]
  simp only [Loop.unsent, List.append_nil, List.mem_append]
  tauto

theorem mem_drop_unsent (l : Loop) (p : Txn → Bool) (y : Txn) :
    y ∈ (l.drop p).unsent ↔ y ∈ l.unsent ∧ p y = false := by
  unfold Loop.drop
  rw [mem_reflow_unsent]
  simp only [Loop.unsent, List.mem_append, List.mem_filter, Bool.not_eq_true']
  tauto

theorem replaceIn_mem {t y : Txn} : ∀ {l l' : List Txn}, replaceIn t l = some l' → y ∈ l' →
    y ∈ l ∨ ∃ old ∈ l, t.replaces? old = some y
  | [], _, e, _ => by simp [replaceIn] at e
  | x :: l, l', e, h => by
    unfold replaceIn at e
    split at e
    · next x' r =>
      cases e
      rcases List.mem_cons.1 h with rfl | h
      · exact Or.inr ⟨x, List.mem_cons_self, r⟩
      · exact Or.inl (List.mem_cons_of_mem _ h)
    · obtain ⟨m, em, rfl⟩ := Option.map_eq_some_iff.1 e
      rcases List.mem_cons.1 h with rfl | h
      · exact Or.inl List.mem_cons_self
      · rcases replaceIn_mem em h with h | ⟨old, h, r⟩
        · exact Or.inl (List.mem_cons_of_mem _ h)
        · exact Or.inr ⟨old, List.mem_cons_of_mem _ h, r⟩

/-- Whatever waits after a placement waited before, is what was placed, or is what it made of what it replaced. -/
theorem mem_put_unsent {l : Loop} {t y : Txn} (h : y ∈ (l.put t).unsent) :
    y = t ∨ y ∈ l.unsent ∨ ∃ old ∈ l.unsent, t.replaces? old = some y := by
  unfold Loop.put at h
  split at h
  · next e =>
    simp only [Loop.unsent, List.mem_append] at h ⊢
    have := fun m => replaceIn_mem (y := y) e m
    grind
  · next e =>
    simp only [Loop.unsent, List.mem_append] at h ⊢
    have := fun m => replaceIn_mem (y := y) e m
    grind
  · next e =>
    simp only [Loop.unsent, List.mem_append] at h ⊢
    have := fun m => replaceIn_mem (y := y) e m
    grind
  · rcases (mem_append_unsent l t y).1 h with h | h
    · exact Or.inl h
    · exact Or.inr (Or.inl h)

/-- A transaction that is no GRANT replaces only what becomes it. -/
theorem replaces_of_no_grant {t old y : Txn} (no : t.client ≠ .allocator) (h : t.replaces? old = some y) : y = t := by
  unfold Txn.replaces? at h
  split at h
  · exact absurd rfl no
  · split at h
    · exact (Option.some.inj h).symm
    · cases h
  · cases h

/-- The GRANTs that wait, and the broadcast, are those that waited before. -/
def State.NoNewGrants (s t : State) : Prop :=
  ∀ y ∈ t.loop.unsent, y.client = .allocator → y ∈ s.loop.unsent

theorem State.NoNewGrants.refl (s : State) : s.NoNewGrants s := fun _ h _ => h

theorem State.NoNewGrants.of_loop {s t : State} (h : t.loop = s.loop) : s.NoNewGrants t := fun _ m _ => h ▸ m

theorem State.NoNewGrants.trans {s t u : State} (h : s.NoNewGrants t) (h' : t.NoNewGrants u) : s.NoNewGrants u :=
  fun y m c => h y (h' y m c) c

theorem State.NoNewGrants.foldl {α : Type} (f : State → α → State) (h : ∀ (s : State) a, s.NoNewGrants (f s a))
    (l : List α) (s : State) : s.NoNewGrants (l.foldl f s) := by
  induction l generalizing s with
  | nil => exact .refl s
  | cons a l ih => exact (h s a).trans (ih _)

theorem State.NoNewGrants.place (s : State) {t : Txn} (no : t.client ≠ .allocator) : s.NoNewGrants (s.place t) := by
  intro y m c
  rcases mem_put_unsent m with rfl | h | ⟨old, _, r⟩
  · exact absurd c no
  · exact h
  · exact absurd (replaces_of_no_grant no r ▸ c) no

theorem noNewGrants_grantSlots (s : State) : s.NoNewGrants s.grantSlots := by
  have one : ∀ u : State, u.NoNewGrants u.grantSlot := by
    intro u
    unfold State.grantSlot
    split
    · split
      · exact .refl u
      · next e _ =>
        refine State.NoNewGrants.trans (.of_loop ?_) (.place _ (by exact fun h => nomatch h))
        exact setSlot_loop ..
    · exact .refl u
  exact (one s).trans (one _)

theorem noNewGrants_deriveLamps (s : State) : s.NoNewGrants s.deriveLamps := by
  refine State.NoNewGrants.foldl _ (fun u i => ?_) allBays s
  have lamp : ∀ (v : State) (c : Colour), v.NoNewGrants (v.place (.lamp i c)) := fun v c =>
    .place v (fun h => nomatch h)
  have compare : ∀ v : State, v.NoNewGrants (v.compareLamp i) := by
    intro v
    unfold State.compareLamp
    dsimp only
    split_ifs
    · exact .refl v
    · exact lamp v _
    · exact lamp v _
    · exact .refl v
  unfold State.deriveLamp
  dsimp only
  split
  · exact .refl u
  · exact State.NoNewGrants.trans (.of_loop rfl) (compare _)

/-! ### A round cut short (R41) -/

/-- A lowering or raising GRANT of the round waits for the bay. -/
def State.cuts (s : State) (i : BayIx) : Bool := s.loop.unsent.any (Txn.isRoundGrantFor i)

theorem isGrantFor_of_isRoundGrantFor {i : BayIx} {y : Txn} (h : y.isRoundGrantFor i = true) :
    y.isGrantFor i = true := by
  unfold Txn.isRoundGrantFor at h
  unfold Txn.isGrantFor
  split at h <;> simp_all

theorem isGrantFor_inj {i j : BayIx} {y : Txn} (h : y.isGrantFor i = true) (h' : y.isGrantFor j = true) : i = j := by
  unfold Txn.isGrantFor at h h'
  split at h <;> simp_all

/-- A bay's grants with its unsent GRANT withdrawn (R29). -/
def Bay.restore (b : Bay) : Bay :=
  match b.outstanding with
  | some o => { b with commanded := o.replaced, outstanding := none }
  | none => b

theorem restore_some {b : Bay} {o : Outstanding} (h : b.outstanding = some o) :
    b.restore = { b with commanded := o.replaced, outstanding := none } := by
  unfold Bay.restore; rw [h]

theorem restore_none {b : Bay} (h : b.outstanding = none) : b.restore = b := by
  unfold Bay.restore; rw [h]

theorem bay_withdrawGrant (s : State) (i j : BayIx) :
    (s.withdrawGrant i).bay j = if j = i then (s.bay i).restore else s.bay j := by
  have same : ∀ (u : State) p, (u.withdraw p).bay j = u.bay j := fun _ _ => rfl
  unfold State.withdrawGrant
  split
  · next o e =>
    rw [same, bay_modBay, restore_some e, bay_setGrants]
    by_cases eq : j = i
    · subst eq; simp
    · simp [eq]
  · next e =>
    rw [same, restore_none e]
    split
    · next eq => rw [eq]
    · rfl

theorem mem_withdrawGrant (s : State) (i : BayIx) (y : Txn) :
    y ∈ (s.withdrawGrant i).loop.unsent ↔ y ∈ s.loop.unsent ∧ y.isGrantFor i = false := by
  unfold State.withdrawGrant
  split
  · next o _ =>
    refine (mem_drop_unsent _ _ y).trans ?_
    have : ((s.setGrants i (s.bay i).applied o.replaced).modBay i fun b => { b with outstanding := none }).loop =
        s.loop := setGrants_loop ..
    rw [this]
  · exact mem_drop_unsent _ _ y

theorem onLoop_drop (l : Loop) (p : Txn → Bool) : (l.drop p).onLoop = l.onLoop := by
  have := congrArg Loop.onLoop (reflow_rest
    { l with
      queued := l.queued.filter fun t => !p t
      waiting := l.waiting.filter fun t => !p t
      heldBack := l.heldBack.filter fun t => !p t })
  exact this

/-- What withdrawing a GRANT leaves of the rest. -/
theorem withdrawGrant_rest (s : State) (i : BayIx) :
    (∃ n, (s.withdrawGrant i).round = { s.round with lastGrantChange := n }) ∧
      (s.withdrawGrant i).loop.onLoop = s.loop.onLoop ∧ (s.withdrawGrant i).pool = s.pool ∧
      (s.withdrawGrant i).now = s.now := by
  unfold State.withdrawGrant
  split
  · next o _ =>
    refine ⟨⟨_, setGrants_round s i (s.bay i).applied o.replaced⟩, (onLoop_drop _ _).trans ?_,
      setGrants_pool .., setGrants_now ..⟩
    exact congrArg Loop.onLoop (setGrants_loop s i (s.bay i).applied o.replaced)
  · exact ⟨⟨_, rfl⟩, onLoop_drop _ _, rfl, rfl⟩

/-- The bays whose unsent GRANTs of the round a list of cuts withdraws, and what it leaves. -/
structure State.Cut (s t : State) (l : List BayIx) : Prop where
  bay : ∀ i, t.bay i = if i ∈ l ∧ s.cuts i = true then (s.bay i).restore else s.bay i
  unsent : ∀ y, y ∈ t.loop.unsent ↔ y ∈ s.loop.unsent ∧ ¬ ∃ i ∈ l, s.cuts i = true ∧ y.isGrantFor i = true
  round : ∃ n, t.round = { s.round with lastGrantChange := n }
  onLoop : t.loop.onLoop = s.loop.onLoop
  pool : t.pool = s.pool
  now : t.now = s.now

theorem cut_cutGrant (s : State) (i : BayIx) : s.Cut (s.cutGrant i) [i] := by
  unfold State.cutGrant
  split
  · next cuts =>
    have cuts : s.cuts i = true := cuts
    obtain ⟨round, onLoop, pool, now⟩ := withdrawGrant_rest s i
    refine ⟨fun j => ?_, fun y => ?_, round, onLoop, pool, now⟩
    · rw [bay_withdrawGrant]
      by_cases e : j = i
      · subst e; simp [cuts]
      · simp [e]
    · rw [mem_withdrawGrant]
      simp [cuts]
  · next cuts =>
    have cuts : ¬ s.cuts i = true := cuts
    refine ⟨fun j => ?_, fun y => ?_, ⟨_, rfl⟩, rfl, rfl, rfl⟩
    · rw [if_neg]
      rintro ⟨m, c⟩
      rw [List.mem_singleton.1 m] at c
      exact cuts c
    · simp [cuts]

/-- A bay's GRANTs of the round stay where other bays' are withdrawn. -/
theorem State.Cut.cuts_ne {s t : State} {l : List BayIx} (h : s.Cut t l) {i : BayIx} (out : i ∉ l) :
    t.cuts i = s.cuts i := by
  refine Bool.eq_iff_iff.2 ?_
  simp only [State.cuts, List.any_eq_true]
  refine ⟨fun ⟨y, m, g⟩ => ⟨y, ((h.unsent y).1 m).1, g⟩, fun ⟨y, m, g⟩ => ⟨y, (h.unsent y).2 ⟨m, ?_⟩, g⟩⟩
  rintro ⟨j, mj, -, gj⟩
  exact out (isGrantFor_inj (isGrantFor_of_isRoundGrantFor g) gj ▸ mj)

theorem cut_foldl (l : List BayIx) (nodup : l.Nodup) (s : State) : s.Cut (l.foldl State.cutGrant s) l := by
  induction l generalizing s with
  | nil => exact ⟨fun i => by simp, fun y => by simp, ⟨_, rfl⟩, rfl, rfl, rfl⟩
  | cons i l ih =>
    obtain ⟨out, nodup⟩ := List.nodup_cons.1 nodup
    have first := cut_cutGrant s i
    have rest := ih nodup (s.cutGrant i)
    rw [List.foldl_cons]
    generalize s.cutGrant i = u at first rest
    generalize l.foldl State.cutGrant u = t at rest ⊢
    have same : ∀ j ∈ l, u.cuts j = s.cuts j := fun j m => first.cuts_ne fun e => out (List.mem_singleton.1 e ▸ m)
    obtain ⟨n, round⟩ := first.round
    obtain ⟨n', round'⟩ := rest.round
    refine ⟨fun j => ?_, fun y => ?_, ⟨n', by rw [round', round]⟩, rest.onLoop.trans first.onLoop,
      rest.pool.trans first.pool, rest.now.trans first.now⟩
    · rw [rest.bay, first.bay]
      by_cases e : j = i
      · subst e; simp [out]
      · by_cases m : j ∈ l
        · simp [e, m, same j m]
        · simp [e, m]
    · rw [rest.unsent, first.unsent]
      simp only [List.mem_cons, List.not_mem_nil, or_false]
      constructor
      · rintro ⟨⟨m, a⟩, b⟩
        refine ⟨m, ?_⟩
        rintro ⟨j, rfl | mj, c, g⟩
        · exact a ⟨_, rfl, c, g⟩
        · exact b ⟨j, mj, (same j mj).trans c, g⟩
      · rintro ⟨m, a⟩
        refine ⟨⟨m, fun ⟨j, e, c, g⟩ => a ⟨j, Or.inl e, c, g⟩⟩, ?_⟩
        rintro ⟨j, mj, c, g⟩
        exact a ⟨j, Or.inr mj, (same j mj).symm.trans c, g⟩

/-- A round in progress cut short: its unsent GRANTs withdrawn, and no more waited for than what is on the loop (R41). -/
theorem cutRound_spec {s : State} (runs : s.round.state = .lowering ∨ s.round.state = .raising) :
    let t := s.cutRound
    (∀ i, t.bay i = if s.cuts i = true then (s.bay i).restore else s.bay i) ∧
    (∀ i, t.cuts i = false) ∧
    (∃ n, t.round = { s.round with
      lastGrantChange := n, cut := true, toRaise := []
      lowering := s.round.lowering.filter s.grantOnLoop, raising := s.round.raising.filter s.grantOnLoop }) ∧
    t.loop.onLoop = s.loop.onLoop ∧ t.pool = s.pool ∧ t.now = s.now := by
  have cut := cut_foldl allBays allBays_nodup s
  unfold State.cutRound
  rw [if_pos runs]
  dsimp only
  generalize allBays.foldl State.cutGrant s = t at cut
  have same : t.grantOnLoop = s.grantOnLoop := by
    funext i; unfold State.grantOnLoop; rw [cut.onLoop]
  obtain ⟨n, round⟩ := cut.round
  refine ⟨fun i => ?_, fun i => ?_, ⟨n, by rw [same, round]⟩, cut.onLoop, cut.pool, cut.now⟩
  · refine (cut.bay i).trans ?_
    simp [mem_allBays]
  · have none : t.cuts i = false := by
      refine Bool.eq_false_iff.2 fun e => ?_
      obtain ⟨y, m, g⟩ := List.any_eq_true.1 e
      obtain ⟨m, no⟩ := (cut.unsent y).1 m
      exact no ⟨i, mem_allBays i, List.any_eq_true.2 ⟨y, m, g⟩, isGrantFor_of_isRoundGrantFor g⟩
    exact none

end Sys2Proof.Machine


/-! The recomputation of the pool (O12). -/

namespace Sys2Proof.Machine

/-! ### The recomputation (R7) -/

/-- A state with the pool of R6 in force. -/
def State.pooled (s : State) : State := { s with pool := { s.pool with inForce := s.poolNow } }

theorem countedSum_pooled (s : State) : s.pooled.countedSum = s.countedSum := by
  unfold State.countedSum
  rfl

theorem markPending_of_pending {s : State} (h : s.round.pending = true) : s.markPending = s := by
  have : { s.round with pending := true } = s.round := by rw [← h]
  unfold State.markPending
  rw [this]

/-- A round that is not in progress moves no phase on. -/
theorem roundOn_of_still {s : State} (lowering : s.round.state ≠ .lowering) (raising : s.round.state ≠ .raising) :
    s.roundOn = s := by
  have : (if s.round.state = .lowering ∧ s.round.lowering = [] then
      if s.round.cut then s.endRound else s.beginRaising else s) = s := if_neg fun e => lowering e.1
  unfold State.roundOn
  rw [this]
  exact if_neg fun e => raising e.1

theorem cutRound_pending (s : State) :
    s.cutRound.round.pending = s.round.pending ∧ s.cutRound.round.atOnce = s.round.atOnce ∧
      s.cutRound.pool = s.pool := by
  by_cases runs : s.round.state = .lowering ∨ s.round.state = .raising
  · obtain ⟨-, -, ⟨n, round⟩, -, pool, -⟩ := cutRound_spec runs
    rw [round]
    exact ⟨rfl, rfl, pool⟩
  · have : s.cutRound = s := if_neg runs
    rw [this]
    exact ⟨rfl, rfl, rfl⟩

/-- A pool that falls below the counted sum cuts the round in progress short (R41). -/
theorem recomputePool_below {s : State} (below : s.poolNow < s.countedSum) :
    s.recomputePool = s.pooled.markAtOnce.cutRound := by
  obtain ⟨pending, -, -⟩ := cutRound_pending s.pooled.markAtOnce
  unfold State.recomputePool
  extract_lets p pool pooled cut
  have below : p < pooled.countedSum := (countedSum_pooled s).symm ▸ below
  have cuts : cut = s.pooled.markAtOnce.cutRound := if_pos below
  clear_value cut
  subst cuts
  split
  · exact markPending_of_pending pending
  · rfl

theorem recomputePool_above {s : State} (above : ¬ s.poolNow < s.countedSum) :
    s.recomputePool =
      if s.poolNow < s.pool.atLast ∨ s.pool.atLast + 5 ≤ s.poolNow then s.pooled.markPending else s.pooled := by
  unfold State.recomputePool
  extract_lets p pool pooled cut
  have above : ¬ p < pooled.countedSum := (countedSum_pooled s).symm ▸ above
  have cuts : cut = s.pooled := if_neg above
  clear_value cut
  subst cuts
  rfl

/-- The marks of a recomputation, and the pool (R7). -/
theorem recomputePool_marks (s : State) :
    (s.poolNow < s.pool.atLast ∨ s.pool.atLast + 5 ≤ s.poolNow → s.recomputePool.round.pending = true) ∧
    (s.poolNow < s.countedSum → s.recomputePool.round.pending = true ∧ s.recomputePool.round.atOnce = true) ∧
    s.recomputePool.pool = { s.pool with inForce := s.poolNow } := by
  by_cases below : s.poolNow < s.countedSum
  · rw [recomputePool_below below]
    obtain ⟨pending, atOnce, pool⟩ := cutRound_pending s.pooled.markAtOnce
    exact ⟨fun _ => pending, fun _ => ⟨pending, atOnce⟩, pool⟩
  · rw [recomputePool_above below]
    split
    · exact ⟨fun _ => rfl, fun e => absurd e below, rfl⟩
    · next no => exact ⟨fun e => absurd e no, fun e => absurd e below, rfl⟩

/-- The pool of R6, with its steps written out. -/
theorem poolNow_steps (s : State) :
    let pin := s.vin * s.cfg .irate / 10
    let pusable := pin * (100 - s.cfg .headroom) / 100
    let pdc := pusable * s.cfg .efficiency / 100
    let pder := pdc * (100 - s.inlet.derate) / 100
    let pact := 2 * s.cfg .ppulse
    let raw : Int := (pder : Int) - s.cfg .pfix - pact - s.inlet.trim
    let capped : Int := if s.pool.quiet then min (max raw 0) (s.cfg .qcap) else max raw 0
    (s.poolNow : Int) =
      (if s.inlet.cond = .brownout ∨ s.power.state ≠ .serving ∨ s.inlet.latch = true then 0 else capped) := by
  intro pin pusable pdc pder pact raw capped
  have raw_eq : raw = (s.pder : Int) - s.cfg .pfix - s.pact - s.inlet.trim := rfl
  unfold State.poolNow
  dsimp only
  rw [← raw_eq]
  split
  · rfl
  · cases e : s.pool.quiet <;> simp [capped, e]

/-! ### The end of an event, as the round sees it -/

/-- The mark of recompute pending is not cleared, and the at-once mark not moved. -/
def State.KeepsMarks (s t : State) : Prop :=
  (s.round.pending = true → t.round.pending = true) ∧ t.round.atOnce = s.round.atOnce

theorem State.KeepsMarks.refl (s : State) : s.KeepsMarks s := ⟨id, rfl⟩

theorem State.KeepsMarks.trans {s t u : State} (h : s.KeepsMarks t) (h' : t.KeepsMarks u) : s.KeepsMarks u :=
  ⟨fun p => h'.1 (h.1 p), h'.2.trans h.2⟩

theorem State.KeepsMarks.ite {s t u : State} (c : Prop) [Decidable c] (h : s.KeepsMarks t) (h' : s.KeepsMarks u) :
    s.KeepsMarks (if c then t else u) := by
  split <;> assumption

theorem keepsMarks_raiseBay (s : State) (i : BayIx) : s.KeepsMarks (s.raiseBay i) := by
  have left : s.KeepsMarks s.leaveRaise := ⟨fun _ => rfl, rfl⟩
  have issued : ∀ w, s.KeepsMarks
      { s.issueGrant .raise i w with
        round := { (s.issueGrant .raise i w).round with raising := (s.issueGrant .raise i w).round.raising ++ [i] } } := by
    intro w
    have e : (s.issueGrant .raise i w).round = _ := setGrants_round s i (s.bay i).applied w
    generalize s.issueGrant .raise i w = u at e
    exact ⟨fun p => by simp only [e]; exact p, by simp only [e]⟩
  unfold State.raiseBay
  exact .ite _ left (.ite _ left (.ite _ left (issued _)))

theorem keepsMarks_endRound (s : State) : s.KeepsMarks s.endRound :=
  ⟨fun p => by simp [State.endRound, p], rfl⟩

theorem keepsMarks_beginRaising (s : State) : s.KeepsMarks s.beginRaising := by
  have raised : ∀ (l : List BayIx) (u : State), u.KeepsMarks (l.foldl State.raiseBay u) := by
    intro l
    induction l with
    | nil => exact .refl
    | cons i l ih => exact fun u => (keepsMarks_raiseBay u i).trans (ih _)
  unfold State.beginRaising
  exact raised _ { s with round := { s.round with state := .raising, toRaise := [] } }

theorem keepsMarks_roundOn (s : State) : s.KeepsMarks s.roundOn := by
  have first : s.KeepsMarks (if s.round.state = .lowering ∧ s.round.lowering = [] then
      if s.round.cut then s.endRound else s.beginRaising else s) :=
    .ite _ (.ite _ (keepsMarks_endRound s) (keepsMarks_beginRaising s)) (.refl s)
  unfold State.roundOn
  generalize (if s.round.state = .lowering ∧ s.round.lowering = [] then
    if s.round.cut then s.endRound else s.beginRaising else s) = u at first ⊢
  exact .ite _ (first.trans (keepsMarks_endRound u)) first

/-- A round cut short ends when nothing it waits for is on the loop. -/
theorem roundOn_of_cut {s : State} (cut : s.round.cut = true) :
    s.roundOn =
      if (s.round.state = .lowering ∧ s.round.lowering = []) ∨ (s.round.state = .raising ∧ s.round.raising = []) then
        s.endRound
      else s := by
  have ended : ∀ u : State, ¬ (u.endRound.round.state = .raising ∧ u.endRound.round.raising = []) := fun u e => nomatch e.1
  unfold State.roundOn
  dsimp only
  rw [if_pos cut]
  by_cases low : s.round.state = .lowering ∧ s.round.lowering = []
  · rw [if_pos low, if_neg (ended s), if_pos (Or.inl low)]
  · rw [if_neg low]
    by_cases high : s.round.state = .raising ∧ s.round.raising = []
    · rw [if_pos high, if_pos (Or.inr high)]
    · rw [if_neg high, if_neg (not_or.2 ⟨low, high⟩)]

/-- What the end of a calm event leaves of the round and the grants once the phases have moved on. -/
theorem settle_round {s : State} (c : s.Calm) :
    (∃ p, s.settle.round = { s.grantSlots.roundOn.round with pending := p } ∧
      (s.grantSlots.roundOn.round.pending = true → p = true)) ∧
    s.settle.grants = s.grantSlots.roundOn.grants ∧ s.grantSlots.roundOn.NoNewGrants s.settle := by
  rw [settle_eq c.1, drainCheck_waits c.waits]
  generalize s.grantSlots.roundOn = u
  have said : ∀ v : State, v.lines.round = v.round := fun _ => rfl
  refine ⟨?_, by simp, ?_⟩
  · obtain ⟨p, e, marks⟩ := judgeEligible_round u
    exact ⟨p, by rw [said, round_deriveLamps, e], marks⟩
  · have judged : u.judgeEligible.loop = u.loop := by
      unfold State.judgeEligible
      dsimp only
      split
      · rw [markPending_loop, modBays_loop]
      · rw [modBays_loop]
    have lines : ∀ v : State, v.lines.loop = v.loop := fun _ => rfl
    exact ((State.NoNewGrants.of_loop judged).trans (noNewGrants_deriveLamps _)).trans (.of_loop (lines _))

end Sys2Proof.Machine


/-! POOL_RECOMPUTE (O12). -/

namespace Sys2Proof.Machine

/-! ### The end of an event with the round cut short (R40, R41) -/

/-- A phase whose GRANTs have ended. -/
def Round.phaseOver (r : Round) : Prop :=
  (r.state = .lowering ∧ r.lowering = []) ∨ (r.state = .raising ∧ r.raising = [])

theorem settle_of_cut {s : State} (c : s.Calm) (cut : s.round.cut = true) :
    let t := s.settle
    (s.round.phaseOver → t.round.state = .idle ∧ t.round.lastEnd = some s.now ∧ t.round.toRaise = []) ∧
    (¬ s.round.phaseOver → t.round.state = s.round.state ∧ t.round.lastEnd = s.round.lastEnd ∧
      t.round.toRaise = s.round.toRaise) ∧
    (∀ i, (t.bay i).commanded = (s.bay i).commanded ∧ (t.bay i).outstanding = (s.bay i).outstanding) ∧
    s.NoNewGrants t := by
  obtain ⟨⟨p, round, -⟩, grants, new⟩ := settle_round c
  have round' := round_grantSlots s
  have grants' := grants_grantSlots s
  have now' : s.grantSlots.now = s.now := now_of_kept (kept_grantSlots s)
  have new' := noNewGrants_grantSlots s
  generalize s.settle = t at round grants new ⊢
  generalize s.grantSlots = u at round' grants' now' new' round grants new
  have done : s.round.phaseOver → u.roundOn = u.endRound := fun e => by
    rw [roundOn_of_cut (round' ▸ cut), round']; exact if_pos e
  have on : ¬ s.round.phaseOver → u.roundOn = u := fun e => by
    rw [roundOn_of_cut (round' ▸ cut), round']; exact if_neg e
  have bays : (∀ i, (u.roundOn.bay i).commanded = (s.bay i).commanded ∧
      (u.roundOn.bay i).outstanding = (s.bay i).outstanding) ∧ u.roundOn.loop = u.loop := by
    by_cases e : s.round.phaseOver
    · rw [done e]
      exact ⟨fun i => ⟨commanded_of_grants grants' i, outstanding_of_grants grants' i⟩, rfl⟩
    · rw [on e]
      exact ⟨fun i => ⟨commanded_of_grants grants' i, outstanding_of_grants grants' i⟩, rfl⟩
  refine ⟨fun e => ?_, fun e => ?_, fun i => ?_, (new'.trans (.of_loop bays.2)).trans new⟩
  · rw [done e] at round
    rw [round, ← now']
    exact ⟨rfl, rfl, rfl⟩
  · rw [on e] at round
    rw [round, round']
    exact ⟨rfl, rfl, rfl⟩
  · obtain ⟨commanded, outstanding⟩ := bays.1 i
    exact ⟨(commanded_of_grants grants i).trans commanded, (outstanding_of_grants grants i).trans outstanding⟩

/-! ### A pool that falls below the counted sum in a round (R41) -/

/-- The bays a phase of the round waits for. -/
def Round.waited (r : Round) : List BayIx := if r.state = .lowering then r.lowering else r.raising

/-- A GRANT that the round waits for is on the loop. -/
def State.runsOn (s : State) : Prop :=
  ∃ o, s.loop.onLoop = some o ∧ ∃ i ∈ s.round.waited, o.txn.isRoundsFor i = true

theorem filter_grantOnLoop (s : State) : s.round.waited.filter s.grantOnLoop = [] ↔ ¬ s.runsOn := by
  unfold State.runsOn State.grantOnLoop
  rw [List.filter_eq_nil_iff]
  cases s.loop.onLoop with
  | none => simp
  | some o => simp

/-- A round cut short waits for nothing exactly where no GRANT that it waited for is on the loop. -/
theorem phaseOver_cut (s : State) (runs : s.round.state = .lowering ∨ s.round.state = .raising) (r : Round)
    (state : r.state = s.round.state) (lowering : r.lowering = s.round.lowering.filter s.grantOnLoop)
    (raising : r.raising = s.round.raising.filter s.grantOnLoop) : r.phaseOver ↔ ¬ s.runsOn := by
  rw [← filter_grantOnLoop]
  unfold Round.phaseOver Round.waited
  rw [state, lowering, raising]
  rcases runs with e | e <;> simp [e]

/-- A pool below the counted sum in Lowering or Raising: every unsent GRANT of the round withdrawn, and the round ended
unless a GRANT that it waits for is on the loop. -/
theorem fall_spec {s : State} (c : s.Calm) (below : s.poolNow < s.countedSum)
    (runs : s.round.state = .lowering ∨ s.round.state = .raising) :
    let t := s.recomputePool.settle
    (∀ i, ¬ t.loop.unsent.any (Txn.isRoundGrantFor i)) ∧ t.round.toRaise = [] ∧
    (∀ i o, s.cuts i = true → (s.bay i).outstanding = some o →
      (t.bay i).commanded = o.replaced ∧ (t.bay i).outstanding = none) ∧
    (∀ i, ¬ s.cuts i = true → (t.bay i).commanded = (s.bay i).commanded) ∧
    (s.runsOn → t.round.state = s.round.state ∧ t.round.lastEnd = s.round.lastEnd) ∧
    (¬ s.runsOn → t.round.state = .idle ∧ t.round.lastEnd = some s.now) := by
  have calm : s.recomputePool.Calm := (State.Inletwise.of_aside (aside_recomputePool s)).calm c
  rw [recomputePool_below below] at calm ⊢
  obtain ⟨bays, none, ⟨n, round⟩, -, -, now⟩ := cutRound_spec (s := s.pooled.markAtOnce) runs
  have bays : ∀ i, (s.pooled.markAtOnce.cutRound.bay i) = if s.cuts i = true then (s.bay i).restore else s.bay i := bays
  have now : s.pooled.markAtOnce.cutRound.now = s.now := now
  have over_ := phaseOver_cut s runs s.pooled.markAtOnce.cutRound.round (by rw [round]; rfl) (by rw [round]; rfl)
    (by rw [round]; rfl)
  have cut : s.pooled.markAtOnce.cutRound.round.cut = true := by rw [round]
  have toRaise : s.pooled.markAtOnce.cutRound.round.toRaise = [] := by rw [round]
  have state : s.pooled.markAtOnce.cutRound.round.state = s.round.state := by rw [round]; rfl
  have lastEnd : s.pooled.markAtOnce.cutRound.round.lastEnd = s.round.lastEnd := by rw [round]; rfl
  generalize s.pooled.markAtOnce.cutRound = u at calm bays none now over_ cut toRaise state lastEnd ⊢
  obtain ⟨ended, on, grants, new⟩ := settle_of_cut calm cut
  generalize u.settle = t at ended on grants new ⊢
  refine ⟨fun i => ?_, ?_, fun i o cuts out => ?_, fun i cuts => ?_, fun r => ?_, fun r => ?_⟩
  · intro e
    obtain ⟨y, m, g⟩ := List.any_eq_true.1 e
    have alloc : y.client = .allocator := by
      unfold Txn.isRoundGrantFor at g
      split at g <;> first | rfl | cases g
    exact absurd (List.any_eq_true.2 ⟨y, new y m alloc, g⟩) (Bool.eq_false_iff.1 (none i))
  · by_cases e : u.round.phaseOver
    · exact (ended e).2.2
    · exact (on e).2.2.trans toRaise
  · rw [(grants i).1, (grants i).2, bays, if_pos cuts, restore_some out]
    exact ⟨rfl, rfl⟩
  · rw [(grants i).1, bays, if_neg cuts]
  · obtain ⟨a, b, -⟩ := on fun e => over_.1 e r
    exact ⟨a.trans state, b.trans lastEnd⟩
  · obtain ⟨a, b, -⟩ := ended (over_.2 r)
    exact ⟨a, by rw [b, now]⟩

/-! ### POOL_RECOMPUTE (R7) -/

/-- The cart at the moment of a recomputation, with the next one due. -/
def State.recomputeTaken (s : State) : State :=
  { s.reach s.pool.recomputeDue with pool := { s.pool with recomputeDue := s.pool.recomputeDue + 1000 } }

theorem poolRecompute_eq {s : State} (awake : s.resetHeld = false) :
    exec .poolRecompute s = .next s.recomputeTaken.recomputePool.settle := by
  refine (live_awake awake _).trans ?_
  rw [atDue_some]
  rfl

/-- The marks stay to the end of a calm event. -/
theorem keepsMarks_settle {s : State} (c : s.Calm) : s.KeepsMarks s.settle := by
  obtain ⟨⟨p, round, marks⟩, -, -⟩ := settle_round c
  have on := keepsMarks_roundOn s.grantSlots
  have round' := round_grantSlots s
  generalize s.settle = t at round ⊢
  refine ⟨fun e => ?_, ?_⟩
  · rw [round]
    exact marks (on.1 (by rw [round']; exact e))
  · rw [round]
    exact on.2.trans (by rw [round'])

/-- Settles O12: the pool of the ten steps, the marks, and the round cut short where the pool falls. -/
theorem poolFollowsTheTenSteps : Obligations.PoolFollowsTheTenSteps := by
  intro s awake calm
  refine ⟨_, poolRecompute_eq awake, ?_⟩
  have calm : s.recomputeTaken.Calm := calm
  have steps := poolNow_steps s.recomputeTaken
  obtain ⟨mark, fall, pool⟩ := recomputePool_marks s.recomputeTaken
  have rest := aside_recomputePool s.recomputeTaken
  have calm' : s.recomputeTaken.recomputePool.Calm := (State.Inletwise.of_aside rest).calm calm
  have kept : s.recomputeTaken.recomputePool.settle.kept = s.recomputeTaken.kept := by
    rw [kept_settle, kept_recomputePool]
  have still := still_settle _ calm'
  have marks := keepsMarks_settle calm'
  have cut := fall_spec (s := s.recomputeTaken) calm
  have power := (power_of_still still).trans (power_of_aside rest)
  have inForce := (pool_of_still still).trans pool
  generalize s.recomputeTaken.recomputePool = u at marks mark fall still cut power inForce kept
  generalize u.settle = t at kept marks still cut power inForce ⊢
  have now : t.now = s.recomputeTaken.now := now_of_kept kept
  have inlet : t.inlet = s.recomputeTaken.inlet := inlet_of_kept kept
  have taken : s.recomputeTaken.now = max s.now s.pool.recomputeDue := rfl
  refine ⟨?_, ?_, ?_, inlet, power, fun e => ?_, fun e => ⟨?_, ?_, fun runs => ?_⟩⟩
  · rw [inForce]; exact steps
  · rw [inForce]; rfl
  · rw [inForce]; rfl
  · rw [inForce] at e
    exact marks.1 (mark e)
  · rw [inForce] at e
    exact marks.2.trans (fall e).2
  · rw [inForce] at e
    exact marks.1 (fall e).1
  · rw [inForce] at e
    rw [now]
    exact cut e runs

end Sys2Proof.Machine


/-! ROUND_BEGIN (O17). -/

namespace Sys2Proof.Machine

/-! ### GRANTs issued (R29) -/

theorem bay_issueGrant (s : State) (k : GrantKind) (i j : BayIx) (w : Nat) : ∃ o,
    (s.issueGrant k i w).bay j = if j = i then { s.bay i with commanded := w, outstanding := o } else s.bay j := by
  unfold State.issueGrant
  dsimp only
  have same : ∀ (u : State) p x, ((u.withdraw p).place x).bay j = u.bay j := fun _ _ _ => rfl
  rw [same, bay_modBay, bay_setGrants]
  by_cases e : j = i
  · subst e
    simp only [if_true]
    exact ⟨_, rfl⟩
  · simp [e]

/-- A round's snapshot and targets, and the pool, are as they were. -/
def State.SameSnap (s t : State) : Prop :=
  t.pool = s.pool ∧ t.round.targets = s.round.targets ∧ t.round.snapPool = s.round.snapPool ∧
    t.round.snapAlloc = s.round.snapAlloc

theorem State.SameSnap.refl (s : State) : s.SameSnap s := ⟨rfl, rfl, rfl, rfl⟩

theorem State.SameSnap.trans {s t u : State} (h : s.SameSnap t) (h' : t.SameSnap u) : s.SameSnap u := by
  obtain ⟨a, b, c, d⟩ := h
  obtain ⟨a', b', c', d'⟩ := h'
  exact ⟨a'.trans a, b'.trans b, c'.trans c, d'.trans d⟩

/-- What a GRANT issued leaves of the rest. -/
theorem issueGrant_rest (s : State) (k : GrantKind) (i : BayIx) (w : Nat) :
    (∃ n, (s.issueGrant k i w).round = { s.round with lastGrantChange := n }) ∧ (s.issueGrant k i w).pool = s.pool :=
  ⟨⟨_, setGrants_round s i (s.bay i).applied w⟩, setGrants_pool s i (s.bay i).applied w⟩

theorem sameSnap_issueGrant (s : State) (k : GrantKind) (i : BayIx) (w : Nat) : s.SameSnap (s.issueGrant k i w) := by
  obtain ⟨⟨n, round⟩, pool⟩ := issueGrant_rest s k i w
  rw [State.SameSnap, round]
  exact ⟨pool, rfl, rfl, rfl⟩

/-! ### The raises fit the pool (R38) -/

/-- Grants that change for one bay alone. -/
theorem countedSum_change {s t : State} {i : BayIx} (h : ∀ j, j ≠ i → counted (t.bay j) = counted (s.bay j)) :
    t.countedSum = s.countedSum - counted (s.bay i) + counted (t.bay i) := by
  have split : ∀ u : State, u.countedSum =
      counted (u.bay i) + ((allBays.erase i).map fun j => counted (u.bay j)).sum := fun u =>
    (List.sum_map_erase (fun j => counted (u.bay j)) (mem_allBays i)).symm
  have rest : (allBays.erase i).map (fun j => counted (t.bay j)) = (allBays.erase i).map fun j => counted (s.bay j) :=
    List.map_congr_left fun j m => h j ((List.Nodup.mem_erase_iff allBays_nodup).1 m).1
  rw [split t, split s, rest]
  omega

/-- With raises issued, the counted sum lies within the pool in force. -/
def State.Fits (s : State) : Prop := s.round.raising ≠ [] → s.countedSum ≤ s.pool.inForce

theorem fits_raiseBay (s : State) (i : BayIx) :
    (s.Fits → (s.raiseBay i).Fits) ∧ s.SameSnap (s.raiseBay i) := by
  have left : (s.Fits → s.leaveRaise.Fits) ∧ s.SameSnap s.leaveRaise := ⟨id, rfl, rfl, rfl, rfl⟩
  unfold State.raiseBay
  extract_lets b others room new issued
  by_cases full : s.pool.inForce < others + max b.applied (if b.link = .lost then 5 else 0)
  · rw [if_pos full]; exact left
  rw [if_neg full]
  by_cases low : new ≤ b.commanded
  · rw [if_pos low]; exact left
  rw [if_neg low]
  by_cases under : b.commanded = 0 ∧ new < (b.kept.getD b.share).floor
  · rw [if_pos under]; exact left
  rw [if_neg under]
  obtain ⟨pool, targets, snapPool, snapAlloc⟩ := sameSnap_issueGrant s .raise i new
  refine ⟨fun _ _ => ?_, pool, targets, snapPool, snapAlloc⟩
  have sum : State.countedSum issued = others + counted (issued.bay i) := by
    refine countedSum_change fun j ne => ?_
    obtain ⟨o, e⟩ := bay_issueGrant s .raise i j new
    rw [e, if_neg ne]
  obtain ⟨o, e⟩ := bay_issueGrant s .raise i i new
  rw [if_pos rfl] at e
  have room_ : new ≤ s.pool.inForce - others := Nat.min_le_right _ _
  have one : counted (issued.bay i) ≤ s.pool.inForce - others := by
    rw [e]
    unfold counted
    dsimp only
    split
    · next lost =>
      have lost : b.link = .lost := lost
      rw [if_pos lost] at full
      have : b.applied = (s.bay i).applied := rfl
      omega
    · have : b.applied = (s.bay i).applied := rfl
      omega
  show State.countedSum issued ≤ issued.pool.inForce
  rw [sum, pool]
  omega

theorem fits_foldl_raiseBay (l : List BayIx) (s : State) :
    (s.Fits → (l.foldl State.raiseBay s).Fits) ∧ s.SameSnap (l.foldl State.raiseBay s) := by
  induction l generalizing s with
  | nil => exact ⟨id, .refl s⟩
  | cons i l ih =>
    obtain ⟨fits, same⟩ := fits_raiseBay s i
    obtain ⟨fits', same'⟩ := ih (s.raiseBay i)
    exact ⟨fun h => fits' (fits h), same.trans same'⟩

theorem phase_foldl_raiseBay (l : List BayIx) (s : State) : (l.foldl State.raiseBay s).round.state = s.round.state := by
  have one : ∀ (u : State) i, (u.raiseBay i).round.state = u.round.state := by
    intro u i
    obtain ⟨⟨n, e⟩, -⟩ := issueGrant_rest u .raise i
      (min u.round.targets[i.1] (u.pool.inForce - (u.countedSum - counted (u.bay i))))
    have issued : (u.issueGrant .raise i
      (min u.round.targets[i.1] (u.pool.inForce - (u.countedSum - counted (u.bay i))))).round.state = u.round.state := by
      rw [e]
    have ite : ∀ (c : Prop) [Decidable c] (a b : State), a.round.state = u.round.state →
        b.round.state = u.round.state → (if c then a else b).round.state = u.round.state := by
      intro c _ a b ha hb; split <;> assumption
    unfold State.raiseBay
    exact ite _ _ _ rfl (ite _ _ _ rfl (ite _ _ _ rfl issued))
  induction l generalizing s with
  | nil => rfl
  | cons i l ih => exact (ih _).trans (one s i)

theorem fits_beginRaising (s : State) :
    (s.round.raising = [] → s.beginRaising.Fits) ∧ s.SameSnap s.beginRaising ∧
      s.beginRaising.round.state = .raising := by
  unfold State.beginRaising
  obtain ⟨fits, same⟩ := fits_foldl_raiseBay (sortByKey s.raiseKey s.round.toRaise)
    { s with round := { s.round with state := .raising, toRaise := [] } }
  refine ⟨fun none => fits fun e => absurd none e, State.SameSnap.trans ⟨rfl, rfl, rfl, rfl⟩ same, phase_foldl_raiseBay _ _⟩

/-- A round that is not in Lowering: its phases move on to the end of the round, or not at all. -/
theorem roundOn_of_not_lowering {s : State} (h : s.round.state ≠ .lowering) :
    s.roundOn = if s.round.state = .raising ∧ s.round.raising = [] then s.endRound else s := by
  have : (if s.round.state = .lowering ∧ s.round.lowering = [] then
      if s.round.cut then s.endRound else s.beginRaising else s) = s := if_neg fun e => h e.1
  unfold State.roundOn
  rw [this]

theorem fits_roundOn {s : State} (h : s.round.state ≠ .lowering) :
    (s.Fits → s.roundOn.Fits) ∧ s.SameSnap s.roundOn ∧ s.roundOn.round.state ≠ .lowering := by
  rw [roundOn_of_not_lowering h]
  split
  · exact ⟨fun _ e => absurd rfl e, ⟨rfl, rfl, rfl, rfl⟩, fun e => nomatch e⟩
  · exact ⟨id, .refl s, h⟩

/-! ### The beginning of a round (R36) -/

/-- A bay's target lies below its commanded or applied grant. -/
def State.lowered (s : State) (goal : Vector Nat 36) (i : BayIx) : Prop :=
  goal[i.1] < (s.bay i).commanded ∨ goal[i.1] < (s.bay i).applied

/-- A bay with the values at last allocation of a computation (R28). -/
def Bay.allocated (b : Bay) : Bay := { b with kept := if eligibleNow b then some b.share else none }

/-- A state with the snapshot of a round taken, its bays left (R36). -/
def State.snapped (s : State) : State :=
  { s with
    round := { s.round with
      pending := false
      atOnce := false
      cut := false
      raiseUnsent := false
      snapPool := s.pool.inForce
      snapAlloc := s.allocatable
      targets := s.targetsNow
      backlog := s.backlogNow }
    pool := { s.pool with atLast := s.pool.inForce } }

theorem snapped_targets (s : State) : s.snapped.round.targets = s.targetsNow := by
  dsimp only [State.snapped]

theorem takeTargets_eq (s : State) : s.takeTargets = s.snapped.modBays fun _ b => b.allocated := by
  unfold State.takeTargets
  rfl

/-- What the snapshot of a round takes. -/
theorem takeTargets_spec (s : State) :
    (∀ i, s.takeTargets.bay i = (s.bay i).allocated) ∧ s.takeTargets.round = s.snapped.round ∧
      s.takeTargets.pool = s.snapped.pool ∧ s.takeTargets.now = s.now := by
  rw [takeTargets_eq]
  exact ⟨fun i => bay_modBays .., modBays_round .., modBays_pool .., modBays_now ..⟩

theorem mem_toLower (s : State) (i : BayIx) : i ∈ s.takeTargets.toLower ↔ s.lowered s.targetsNow i := by
  obtain ⟨bays, round, -⟩ := takeTargets_spec s
  simp only [State.toLower, State.lowered, List.mem_filter, mem_allBays, true_and, Bool.or_eq_true, decide_eq_true_eq]
  rw [round, bays, snapped_targets]
  rfl

theorem mem_toLift (s : State) (i : BayIx) :
    i ∈ s.takeTargets.toLift ↔ (s.bay i).commanded < s.targetsNow[i.1] ∧ ¬ s.lowered s.targetsNow i := by
  have low := mem_toLower s i
  obtain ⟨bays, round, -⟩ := takeTargets_spec s
  simp only [State.toLift, List.mem_filter, mem_allBays, true_and, Bool.and_eq_true, decide_eq_true_eq,
    Bool.not_eq_true', List.contains_eq_mem, decide_eq_false_iff_not, low]
  rw [round, bays, snapped_targets]
  rfl

/-- Lowering GRANTs issued (R37). -/
theorem foldl_lowerBay (l : List BayIx) (s : State) :
    (∀ i, ((l.foldl State.lowerBay s).bay i).commanded =
      if i ∈ l then s.round.targets[i.1] else (s.bay i).commanded) ∧
    (∃ n, (l.foldl State.lowerBay s).round = { s.round with lastGrantChange := n }) ∧
    (l.foldl State.lowerBay s).pool = s.pool := by
  induction l generalizing s with
  | nil => exact ⟨fun i => by simp, ⟨_, rfl⟩, rfl⟩
  | cons j l ih =>
    obtain ⟨⟨n, round⟩, pool⟩ := issueGrant_rest s .lower j s.round.targets[j.1]
    obtain ⟨commanded, ⟨n', round'⟩, pool'⟩ := ih (s.lowerBay j)
    have round : (s.lowerBay j).round = { s.round with lastGrantChange := n } := round
    have pool : (s.lowerBay j).pool = s.pool := pool
    refine ⟨fun i => ?_, ⟨n', by rw [List.foldl_cons, round', round]⟩, pool'.trans pool⟩
    obtain ⟨o, e⟩ := bay_issueGrant s .lower j i s.round.targets[j.1]
    have e : (s.lowerBay j).bay i = _ := e
    rw [List.foldl_cons, commanded, round, e]
    by_cases m : i ∈ l
    · simp [m]
    · by_cases eq : i = j
      · subst eq; simp [m]
      · simp [m, eq]

/-- A round begun with bays to lower (R37). -/
theorem beginRound_lowering {s : State} (h : ∃ i, s.lowered s.targetsNow i) :
    let t := s.beginRound
    t.round.state = .lowering ∧ t.round.lowering ≠ [] ∧ t.round.raising = s.round.raising ∧
      s.snapped.SameSnap t ∧
      ∀ i, (t.bay i).commanded =
        if i ∈ s.takeTargets.toLower then s.targetsNow[i.1] else (s.bay i).commanded := by
  obtain ⟨bays, round, pool, -⟩ := takeTargets_spec s
  obtain ⟨i, hi⟩ := h
  have some : s.takeTargets.toLower ≠ [] := fun e => by
    have := (mem_toLower s i).2 hi
    rw [e] at this
    exact absurd this List.not_mem_nil
  unfold State.beginRound
  dsimp only
  rw [if_neg some]
  generalize s.takeTargets.toLift = up
  generalize s.takeTargets.toLower = down at some ⊢
  generalize s.takeTargets = u at bays round pool ⊢
  obtain ⟨commanded, ⟨n, round'⟩, pool'⟩ := foldl_lowerBay down
    { u with round := { u.round with state := .lowering, toRaise := up, lowering := down } }
  generalize down.foldl State.lowerBay _ = t at commanded round' pool' ⊢
  refine ⟨by rw [round'], by rw [round']; exact some, by rw [round', round]; rfl,
    ⟨pool'.trans pool, by rw [round', round], by rw [round', round], by rw [round', round]⟩, fun j => ?_⟩
  have kept : (u.bay j).commanded = (s.bay j).commanded := by rw [bays]; rfl
  rw [commanded]
  have targets : u.round.targets = s.targetsNow := by rw [round, snapped_targets]
  simp only [targets, ← kept]
  rfl

/-- A round begun with none to lower and none to raise ends (R40). -/
theorem beginRound_ends {s : State} (down : ∀ i, ¬ s.lowered s.targetsNow i)
    (up : ∀ i, ¬ ((s.bay i).commanded < s.targetsNow[i.1] ∧ ¬ s.lowered s.targetsNow i)) :
    s.beginRound = s.takeTargets.endRound := by
  have down : s.takeTargets.toLower = [] :=
    List.eq_nil_iff_forall_not_mem.2 fun i m => down i ((mem_toLower s i).1 m)
  have up : s.takeTargets.toLift = [] :=
    List.eq_nil_iff_forall_not_mem.2 fun i m => up i ((mem_toLift s i).1 m)
  unfold State.beginRound
  dsimp only
  rw [if_pos down, if_pos up]

/-- A round begun with none to lower: its raises fit the pool (R38). -/
theorem beginRound_raises {s : State} (down : ∀ i, ¬ s.lowered s.targetsNow i) :
    let t := s.beginRound
    (s.round.raising = [] → t.Fits) ∧ s.snapped.SameSnap t ∧ t.round.state ≠ .lowering := by
  obtain ⟨-, round, pool, -⟩ := takeTargets_spec s
  have snap : s.snapped.SameSnap s.takeTargets := ⟨pool, by rw [round], by rw [round], by rw [round]⟩
  have none : s.round.raising = [] → s.takeTargets.round.raising = [] := fun e => by rw [round]; exact e
  have down : s.takeTargets.toLower = [] :=
    List.eq_nil_iff_forall_not_mem.2 fun i m => down i ((mem_toLower s i).1 m)
  unfold State.beginRound
  dsimp only
  rw [if_pos down]
  generalize s.takeTargets.toLift = up
  generalize s.takeTargets = u at snap none ⊢
  split
  · exact ⟨fun _ e => absurd rfl e, snap.trans ⟨rfl, rfl, rfl, rfl⟩, fun e => nomatch e⟩
  · obtain ⟨fits, same, state⟩ := fits_beginRaising { u with round := { u.round with toRaise := up } }
    obtain ⟨fits', same', state'⟩ := fits_roundOn
      (s := State.beginRaising { u with round := { u.round with toRaise := up } }) (by rw [state]; simp)
    exact ⟨fun e => fits' (fits (none e)), (snap.trans (State.SameSnap.trans ⟨rfl, rfl, rfl, rfl⟩ same)).trans same', state'⟩

/-- The rest of a round's beginning. -/
theorem aside_beginRound (s : State) : s.beginRound.aside = s.takeTargets.aside := by
  unfold State.beginRound
  dsimp only
  split_ifs <;> simp

/-! ### ROUND_BEGIN (R35) -/

theorem targetsNow_reach (s : State) (due : Nat) : (s.reach due).targetsNow = s.targetsNow := rfl

theorem allocatable_reach (s : State) (due : Nat) : (s.reach due).allocatable = s.allocatable := rfl

theorem countedSum_congr {s t : State} (core : ∀ i, (t.bay i).core = (s.bay i).core)
    (commanded : ∀ i, (t.bay i).commanded = (s.bay i).commanded) : t.countedSum = s.countedSum := by
  unfold State.countedSum
  congr 2
  funext i
  unfold counted
  rw [link_of_core (core i), applied_of_core (core i), commanded i]

/-- The phases of a round in Lowering that waits for a GRANT do not move on. -/
theorem roundOn_lowering {s : State} (state : s.round.state = .lowering) (waits : s.round.lowering ≠ []) :
    s.roundOn = s := by
  have : (if s.round.state = .lowering ∧ s.round.lowering = [] then
      if s.round.cut then s.endRound else s.beginRaising else s) = s := if_neg fun e => waits e.2
  unfold State.roundOn
  rw [this]
  exact if_neg fun e => absurd (state.symm.trans e.1) (by simp)

/-- What the end of a calm event leaves of the round, of the commanded grants and of the counted sum is what the phases
leave of them, but for the mark of recompute pending. -/
theorem settle_of_roundOn {u : State} (c : u.Calm) {P : Round → (BayIx → Nat) → Nat → Prop}
    (marks : ∀ r p f n, P r f n → P { r with pending := p } f n)
    (on : ∀ w : State, w.round = u.round → w.pool = u.pool → (∀ i, (w.bay i).core = (u.bay i).core) →
      (∀ i, (w.bay i).commanded = (u.bay i).commanded) → w.now = u.now →
      P w.roundOn.round (fun i => (w.roundOn.bay i).commanded) w.roundOn.countedSum) :
    P u.settle.round (fun i => (u.settle.bay i).commanded) u.settle.countedSum := by
  obtain ⟨⟨p, round, -⟩, grants, -⟩ := settle_round c
  have still := still_settle u c
  have wstill := still_grantSlots u
  have done := on u.grantSlots (round_grantSlots u) (pool_of_still wstill) (core_of_still wstill)
    (commanded_of_grants (grants_grantSlots u)) (now_of_kept (kept_grantSlots u))
  have vstill := still_roundOn u.grantSlots
  generalize u.settle = t at round grants still ⊢
  generalize u.grantSlots.roundOn = v at round grants vstill done
  have commanded := commanded_of_grants grants
  have counts : t.countedSum = v.countedSum := countedSum_congr
    (fun i => (core_of_still still i).trans ((core_of_still wstill i).symm.trans (core_of_still vstill i).symm))
    commanded
  rw [round, counts, funext commanded]
  exact marks _ _ _ _ done

/-- The moment a round that waits for nothing else begins (R35). -/
def State.roundAt (s : State) : Nat :=
  if s.round.atOnce then s.now else
    match s.round.lastEnd with
    | some e => e + s.cfg .spacing * 1000
    | none => s.now

theorem roundBegin_eq {s : State} (awake : s.resetHeld = false) (pending : s.round.pending = true)
    (idle : s.round.state = .idle) (serving : s.power.state = .serving) (suspended : s.round.suspended = false) :
    exec .roundBegin s = .next (s.reach s.roundAt).beginRound.settle := by
  refine (live_awake awake _).trans ?_
  have due : s.roundDue = some s.roundAt := if_pos ⟨pending, idle, serving, by simp [suspended]⟩
  rw [due, atDue_some]

/-- The snapshot of a round stays to the end of the event. -/
theorem settle_snap {s u : State} (c : u.Calm) (snap : s.SameSnap u) (still : ∀ w : State, w.round = u.round →
    w.pool = u.pool → (∀ i, (w.bay i).core = (u.bay i).core) → (∀ i, (w.bay i).commanded = (u.bay i).commanded) →
    w.SameSnap w.roundOn) : s.SameSnap u.settle := by
  obtain ⟨-, targets, snapPool, snapAlloc⟩ := snap.trans (u := u.settle) ⟨pool_of_still (still_settle u c),
    settle_of_roundOn c (P := fun r _ _ => r.targets = u.round.targets) (fun _ _ _ _ e => e)
      fun w r p b m _ => by obtain ⟨-, e, -, -⟩ := still w r p b m; rw [e, r],
    settle_of_roundOn c (P := fun r _ _ => r.snapPool = u.round.snapPool) (fun _ _ _ _ e => e)
      fun w r p b m _ => by obtain ⟨-, -, e, -⟩ := still w r p b m; rw [e, r],
    settle_of_roundOn c (P := fun r _ _ => r.snapAlloc = u.round.snapAlloc) (fun _ _ _ _ e => e)
      fun w r p b m _ => by obtain ⟨-, -, -, e⟩ := still w r p b m; rw [e, r]⟩
  exact ⟨(pool_of_still (still_settle u c)).trans snap.1, targets, snapPool, snapAlloc⟩

/-- A begun round in Lowering, at the end of its event. -/
theorem settle_lowering {u : State} (c : u.Calm) (state : u.round.state = .lowering) (some : u.round.lowering ≠ []) :
    u.settle.round.state = .lowering ∧ u.settle.round.raising = u.round.raising ∧ u.SameSnap u.settle ∧
      ∀ i, (u.settle.bay i).commanded = (u.bay i).commanded := by
  have same : ∀ w : State, w.round = u.round → w.roundOn = w := fun w r =>
    roundOn_lowering (by rw [r]; exact state) (by rw [r]; exact some)
  obtain ⟨a, b, d⟩ := settle_of_roundOn c (P := fun r f _ => r.state = .lowering ∧ r.raising = u.round.raising ∧
      ∀ i, f i = (u.bay i).commanded) (fun _ _ _ _ e => e)
    fun w r _ _ m _ => by rw [same w r, r]; exact ⟨state, rfl, m⟩
  exact ⟨a, b, settle_snap c (.refl u) fun w r _ _ _ => by rw [same w r]; exact .refl w, d⟩

/-- A begun round that is not in Lowering, at the end of its event. -/
theorem settle_raising {u : State} (c : u.Calm) (state : u.round.state ≠ .lowering) :
    (u.Fits → u.settle.Fits) ∧ u.SameSnap u.settle := by
  have on : ∀ w : State, w.round = u.round → (w.Fits → w.roundOn.Fits) ∧ w.SameSnap w.roundOn := by
    intro w r
    obtain ⟨f, s, -⟩ := fits_roundOn (s := w) (by rw [r]; exact state)
    exact ⟨f, s⟩
  have snap := settle_snap c (.refl u) fun w r _ _ _ => (on w r).2
  refine ⟨fun fits => ?_, snap⟩
  unfold State.Fits
  rw [snap.1]
  refine settle_of_roundOn c (P := fun r _ n => r.raising ≠ [] → n ≤ u.pool.inForce) (fun _ _ _ _ e => e)
    fun w r p b m _ => ?_
  obtain ⟨f, s⟩ := on w r
  have pool : w.roundOn.pool = u.pool := s.1.trans p
  rw [← pool]
  refine f ?_
  unfold State.Fits
  rw [r, p, countedSum_congr b m]
  exact fits

/-- A round that has ended, at the end of its event. -/
theorem settle_idle {u : State} (c : u.Calm) (state : u.round.state = .idle) :
    u.settle.round.state = .idle ∧ u.settle.round.lastEnd = u.round.lastEnd ∧
      ∀ i, (u.settle.bay i).commanded = (u.bay i).commanded :=
  settle_of_roundOn c (P := fun r f _ => r.state = .idle ∧ r.lastEnd = u.round.lastEnd ∧
      ∀ i, f i = (u.bay i).commanded) (fun _ _ _ _ e => e)
    fun w r _ _ m _ => by
      rw [roundOn_of_still (by rw [r, state]; simp) (by rw [r, state]; simp), r]
      exact ⟨state, rfl, m⟩

theorem endRound_bay (s : State) (i : BayIx) : s.endRound.bay i = s.bay i := rfl

theorem endRound_lastEnd (s : State) : s.endRound.round.lastEnd = some s.now := rfl

/-- What a round's beginning takes, to the end of its event. -/
theorem begun_snap {s : State} (c : s.Calm) :
    let t := s.beginRound.settle
    t.kept = s.kept ∧ t.ground = s.ground ∧ s.snapped.SameSnap t ∧ ∀ i, (t.bay i).core = (s.bay i).allocated.core := by
  obtain ⟨bays, -⟩ := takeTargets_spec s
  have rest := aside_beginRound s
  have ground := ground_beginRound s
  have calm : s.beginRound.Calm := calm_of_ground ground c
  have still := still_settle _ calm
  refine ⟨(kept_settle _).trans (kept_beginRound s), (ground_settle calm).trans ground, ?_, fun i => ?_⟩
  · by_cases h : ∃ i, s.lowered s.targetsNow i
    · obtain ⟨state, some, -, snap, -⟩ := beginRound_lowering h
      obtain ⟨-, -, same, -⟩ := settle_lowering calm state some
      exact snap.trans same
    · obtain ⟨-, snap, state⟩ := beginRound_raises (s := s) fun i e => h ⟨i, e⟩
      exact snap.trans (settle_raising calm state).2
  · exact (core_of_still still i).trans ((core_of_aside rest i).trans (congrArg Bay.core (bays i)))

/-- The three ways a round begins, to the end of the event (R36 to R38, R40). -/
theorem begun_phases {s : State} (c : s.Calm) :
    let t := s.beginRound.settle
    let raised := fun i : BayIx => (s.bay i).commanded < s.targetsNow[i.1] ∧ ¬ s.lowered s.targetsNow i
    ((∃ i, s.lowered s.targetsNow i) → t.round.state = .lowering ∧ t.round.raising = s.round.raising ∧
      ∀ i, (t.bay i).commanded = if i ∈ s.takeTargets.toLower then s.targetsNow[i.1] else (s.bay i).commanded) ∧
    ((∀ i, ¬ s.lowered s.targetsNow i) → (∀ i, ¬ raised i) → t.round.state = .idle ∧ t.round.lastEnd = some s.now ∧
      ∀ i, (t.bay i).commanded = (s.bay i).commanded) ∧
    ((∀ i, ¬ s.lowered s.targetsNow i) → s.round.raising = [] → t.Fits) := by
  have calm : s.beginRound.Calm := calm_of_ground (ground_beginRound s) c
  refine ⟨fun h => ?_, fun down up => ?_, fun down none => ?_⟩
  · obtain ⟨state, some, raising, -, commanded⟩ := beginRound_lowering h
    obtain ⟨a, b, -, d⟩ := settle_lowering calm state some
    exact ⟨a, b.trans raising, fun i => (d i).trans (commanded i)⟩
  · obtain ⟨bays, -, -, now⟩ := takeTargets_spec s
    have quiet : ∀ i, (s.takeTargets.endRound.bay i).commanded = (s.bay i).commanded := fun i => by
      rw [endRound_bay, bays]; rfl
    have atEnd : s.takeTargets.endRound.round.lastEnd = some s.now := by rw [endRound_lastEnd, now]
    have idle : s.takeTargets.endRound.round.state = .idle := rfl
    rw [beginRound_ends down up] at calm ⊢
    obtain ⟨a, b, d⟩ := settle_idle calm idle
    exact ⟨a, b.trans atEnd, fun i => (d i).trans (quiet i)⟩
  · obtain ⟨fits, -, state⟩ := beginRound_raises down
    exact (settle_raising calm state).1 (fits none)

/-- The moment at which a round begins bears on none of this. -/
theorem begun_phases_reach {s : State} (c : s.Calm) (due : Nat) :
    let t := (s.reach due).beginRound.settle
    let raised := fun i : BayIx => (s.bay i).commanded < s.targetsNow[i.1] ∧ ¬ s.lowered s.targetsNow i
    ((∃ i, s.lowered s.targetsNow i) → t.round.state = .lowering ∧ t.round.raising = s.round.raising ∧
      ∀ i, (t.bay i).commanded =
        if i ∈ (s.reach due).takeTargets.toLower then s.targetsNow[i.1] else (s.bay i).commanded) ∧
    ((∀ i, ¬ s.lowered s.targetsNow i) → (∀ i, ¬ raised i) →
      t.round.state = .idle ∧ t.round.lastEnd = some (max s.now due) ∧
      ∀ i, (t.bay i).commanded = (s.bay i).commanded) ∧
    ((∀ i, ¬ s.lowered s.targetsNow i) → s.round.raising = [] → t.Fits) :=
  begun_phases (s := s.reach due) c

theorem mem_toLower_reach (s : State) (due : Nat) (i : BayIx) :
    i ∈ (s.reach due).takeTargets.toLower ↔ s.lowered s.targetsNow i := mem_toLower (s.reach due) i

theorem begun_snap_reach {s : State} (c : s.Calm) (due : Nat) :
    let t := (s.reach due).beginRound.settle
    t.now = max s.now due ∧ { t.kept with now := s.now } = s.kept ∧ t.round.targets = s.targetsNow ∧
      t.round.snapPool = s.pool.inForce ∧ t.round.snapAlloc = s.allocatable ∧ t.pool.atLast = s.pool.inForce ∧
      t.pool.inForce = s.pool.inForce ∧ t.power = s.power ∧
      ∀ i, (t.bay i).kept = (s.bay i).allocated.kept ∧ (t.bay i).seen = (s.bay i).seen := by
  obtain ⟨kept, ground, ⟨pool, targets, snapPool, snapAlloc⟩, core⟩ := begun_snap (s := s.reach due) c
  rw [snapped_targets, targetsNow_reach] at targets
  generalize (s.reach due).beginRound.settle = t at *
  refine ⟨now_of_kept kept, by rw [kept]; rfl, targets, snapPool, snapAlloc.trans (allocatable_reach s due),
    by rw [pool]; rfl, by rw [pool]; rfl, power_of_ground ground, fun i => ⟨?_, (seen_of_ground ground i :)⟩⟩
  exact kept_of_core (a := (s.bay i).allocated) (core i)

/-- Settles O17: the snapshot, and the three ways a round begins. -/
theorem roundTakesItsSnapshotAndTargets : Obligations.RoundTakesItsSnapshotAndTargets := by
  intro s awake calm pending idle serving suspended
  refine ⟨_, roundBegin_eq awake pending idle serving suspended, ?_⟩
  intro due goal lowered raised
  have same : s.roundAt = due := rfl
  clear_value due
  rw [same]
  obtain ⟨now, unmoved, targets, snapPool, snapAlloc, atLast, inForce, power, bays⟩ := begun_snap_reach calm due
  obtain ⟨lower, ends, raises⟩ := begun_phases_reach calm due
  have members := mem_toLower_reach s due
  generalize (s.reach due).beginRound.settle = t at *
  refine ⟨now, unmoved, targets, snapPool, snapAlloc, atLast, inForce, power, bays, fun h => ?_, fun down up => ?_,
    fun none some => ?_⟩
  · obtain ⟨state, -, commanded⟩ := lower h
    refine ⟨state, fun i => (commanded i).trans ?_⟩
    by_cases low : lowered i
    · exact (if_pos ((members i).2 low)).trans (if_pos low).symm
    · exact (if_neg fun e => low ((members i).1 e)).trans (if_neg low).symm
  · obtain ⟨state, last, commanded⟩ := ends down up
    exact ⟨state, by rw [last, now], commanded⟩
  · by_cases h : ∃ i, lowered i
    · exact absurd ((lower h).2.1.trans none) some
    · exact raises (fun i e => h ⟨i, e⟩) none some

end Sys2Proof.Machine


/-! The loop switched off by the end of a drain (O15). -/

namespace Sys2Proof.Machine

/-! ### The ready set left (R92) -/

/-- What leaving the ready set changes: the set, the notices, and what follows a share computed afresh. -/
theorem leaveReady_rest (s : State) (i : BayIx) (why : Option Reason) :
    (s.leaveReady i why).loop = s.loop ∧ (s.leaveReady i why).arb = s.arb ∧ (s.leaveReady i why).power = s.power ∧
      (s.leaveReady i why).cust = { s.cust with readySet := s.cust.readySet.filter (· ≠ i) } ∧
      ∀ j, ∃ n, (s.leaveReady i why).bay j = { s.bay j with share := n } := by
  have shared : ∀ n : Notices, ∀ u : State,
      u = { s with cust := { s.cust with readySet := s.cust.readySet.filter (· ≠ i) }, notices := n } →
      (u.refreshShare i).loop = s.loop ∧ (u.refreshShare i).arb = s.arb ∧ (u.refreshShare i).power = s.power ∧
        (u.refreshShare i).cust = { s.cust with readySet := s.cust.readySet.filter (· ≠ i) } ∧
        ∀ j, ∃ n, (u.refreshShare i).bay j = { s.bay j with share := n } := by
    rintro n u rfl
    obtain ⟨sess, round, bays, e, share⟩ := shared_refreshShare
      { s with cust := { s.cust with readySet := s.cust.readySet.filter (· ≠ i) }, notices := n } i
    refine ⟨by rw [e], by rw [e], by rw [e], by rw [e], share⟩
  unfold State.leaveReady
  dsimp only
  split
  · split
    · next r =>
      obtain ⟨n, e, -⟩ := raise_spec { s with cust := { s.cust with readySet := s.cust.readySet.filter (· ≠ i) } }
        .readySetChanged (some i) none none (some (s.cust.readySet.filter (· ≠ i)).length) (some r)
      exact shared n _ e
    · exact shared s.notices _ rfl
  · next out =>
    have out : i ∉ s.cust.readySet := fun m => out (by simp [State.member, m])
    have same : s.cust.readySet.filter (· ≠ i) = s.cust.readySet :=
      List.filter_eq_self.2 fun j m => by simpa using fun e : j = i => out (e ▸ m)
    rw [same]
    exact ⟨rfl, rfl, rfl, rfl, fun j => ⟨(s.bay j).share, rfl⟩⟩

theorem foldl_leaveReady (l : List BayIx) (why : Option Reason) (s : State) :
    (l.foldl (fun s i => s.leaveReady i why) s).loop = s.loop ∧
      (l.foldl (fun s i => s.leaveReady i why) s).arb = s.arb ∧
      ∀ j ∈ (l.foldl (fun s i => s.leaveReady i why) s).cust.readySet, j ∈ s.cust.readySet ∧ j ∉ l := by
  induction l generalizing s with
  | nil => exact ⟨rfl, rfl, fun j m => ⟨m, List.not_mem_nil⟩⟩
  | cons i l ih =>
    obtain ⟨loop, arb, -, cust, -⟩ := leaveReady_rest s i why
    obtain ⟨loop', arb', ready⟩ := ih (s.leaveReady i why)
    refine ⟨loop'.trans loop, arb'.trans arb, fun j m => ?_⟩
    obtain ⟨m, out⟩ := ready j m
    rw [cust] at m
    obtain ⟨m, ne⟩ := List.mem_filter.1 m
    exact ⟨m, fun e => (List.mem_cons.1 e).elim (by simpa using ne) out⟩

/-! ### The loop off (R134) -/

/-- The loop power is off, with all that its switching off brings, and no round is in progress. -/
structure State.Off (s : State) : Prop where
  power : s.loop.power = false
  queued : s.loop.queued = []
  waiting : s.loop.waiting = []
  heldBack : s.loop.heldBack = []
  onLoop : s.loop.onLoop = none
  scan : s.loop.scan.running = false
  arb : s.arb = ⟨[], none, none, true⟩
  ready : s.cust.readySet = []
  idle : s.cust.reconActive = false
  bay : ∀ i, (s.bay i).link = .dark ∧ (s.bay i).applied = 0 ∧ (s.bay i).lampShown = some .off
  shed : s.Shed

/-- What the switching off of the loop power leaves. -/
theorem off_loopPowerOff {s : State} (lowering : s.round.state ≠ .lowering) (raising : s.round.state ≠ .raising) :
    s.loopPowerOff.Off := by
  obtain ⟨-, -, idle, -, power, -, -, -, scan, -, bays⟩ := loopPowerOff_spec s
  unfold State.loopPowerOff at *
  dsimp only at *
  generalize hu : (State.mk _ _ _ _ _ _ _ _ _ _ _ _ _ _ _ _ _ _) = u at *
  obtain ⟨-, -, -, -, arb, -, loop, round⟩ := foldl_setGrants allBays (fun _ _ => 0) (fun _ _ => 0) u
  have zero := bay_zeroGrants allBays u
  generalize allBays.foldl (fun s i => s.setGrants i 0 0) u = v at *
  have dark : ∀ i, ((v.modBays fun _ b => b.darken).bay i).commanded = 0 ∧
      ((v.modBays fun _ b => b.darken).bay i).outstanding = none := fun i => by
    rw [bay_modBays, zero, if_pos (mem_allBays i)]
    exact ⟨rfl, rfl⟩
  have state : (v.modBays fun _ b => b.darken).round.state = s.round.state := by
    rw [modBays_round, round, ← hu]
  obtain ⟨loop', arb', ready⟩ := foldl_leaveReady allBays (some .lost) (v.modBays fun _ b => b.darken)
  have grants : (allBays.foldl (fun s i => s.leaveReady i (some .lost)) (v.modBays fun _ b => b.darken)).grants =
      (v.modBays fun _ b => b.darken).grants := grants_foldl _ _ _ fun s i => grants_leaveReady s i _
  have shed : (v.modBays fun _ b => b.darken).Shed := ⟨dark, by rw [state]; exact lowering, by rw [state]; exact raising⟩
  rw [modBays_loop] at loop'
  rw [modBays_arb] at arb'
  generalize allBays.foldl (fun s i => s.leaveReady i (some .lost)) (v.modBays fun _ b => b.darken) = t at *
  have loop := loop'.trans loop
  have arb := arb'.trans arb
  exact
    { power := power
      queued := by rw [loop, ← hu]
      waiting := by rw [loop, ← hu]
      heldBack := by rw [loop, ← hu]
      onLoop := by rw [loop, ← hu]
      scan := scan
      arb := by rw [arb, ← hu]
      ready := List.eq_nil_iff_forall_not_mem.2 fun j m => (ready j m).2 (mem_allBays j)
      idle := idle
      bay := fun i => by obtain ⟨link, applied, lamp, -⟩ := bays i; exact ⟨link, applied, lamp⟩
      shed := shed.of grants }

/-- What else changes leaves the loop off. -/
theorem State.Off.of {s t : State} (h : s.Off) (loop : t.loop = s.loop) (arb : t.arb = s.arb) (cust : t.cust = s.cust)
    (bays : ∀ i, (t.bay i).core = (s.bay i).core) (grants : t.grants = s.grants) : t.Off :=
  { power := loop ▸ h.power
    queued := loop ▸ h.queued
    waiting := loop ▸ h.waiting
    heldBack := loop ▸ h.heldBack
    onLoop := loop ▸ h.onLoop
    scan := loop ▸ h.scan
    arb := arb ▸ h.arb
    ready := cust ▸ h.ready
    idle := cust ▸ h.idle
    bay := fun i => by
      rw [link_of_core (bays i), applied_of_core (bays i), lampShown_of_core (bays i)]; exact h.bay i
    shed := h.shed.of grants }

theorem State.Off.recomputePool {s : State} (h : s.Off) :
    s.recomputePool.Off ∧ s.recomputePool.power = s.power ∧ s.recomputePool.loop = s.loop := by
  obtain ⟨pending, atOnce, e, -⟩ := h.shed.recomputePool
  rw [e]
  exact ⟨⟨h.power, h.queued, h.waiting, h.heldBack, h.onLoop, h.scan, h.arb, h.ready, h.idle, h.bay,
    ⟨h.shed.none, h.shed.lowering, h.shed.raising⟩⟩, rfl, rfl⟩

/-! ### The end of an event with the loop off -/

@[simp] theorem aside_compareLamp (s : State) (i : BayIx) : (s.compareLamp i).aside = s.aside := by
  unfold State.compareLamp
  dsimp only
  split_ifs <;> simp

@[simp] theorem aside_deriveLamp (s : State) (i : BayIx) : (s.deriveLamp i).aside = s.aside := by
  unfold State.deriveLamp
  dsimp only
  split <;> simp [core_eq]

@[simp] theorem aside_deriveLamps (s : State) : s.deriveLamps.aside = s.aside := by simp [State.deriveLamps]

/-- No LAMP is placed with the loop off (R76, R134). -/
theorem loop_deriveLamps_off {s : State} (h : s.Off) : s.deriveLamps.loop = s.loop := by
  have dark : ∀ (u : State) i, u.loop = s.loop → (u.bay i).link = .dark → (u.deriveLamp i).loop = s.loop := by
    intro u i loop link
    have compare : ∀ v : State, v.loop = s.loop → (v.bay i).link = .dark → v.compareLamp i = v := by
      intro v loop link
      have none : v.loop.unsent.any (Txn.isLampFor i) = false := by
        rw [loop, Loop.unsent, h.queued, h.waiting, h.heldBack]; rfl
      unfold State.compareLamp
      dsimp only
      rw [none]
      simp [link]
    unfold State.deriveLamp
    dsimp only
    split
    · exact loop
    · refine (congrArg State.loop (compare _ ?_ ?_)).trans ?_
      · exact loop
      · rw [bay_modBay_self]; exact link
      · exact loop
  have all : ∀ (l : List BayIx) (u : State), u.loop = s.loop → (∀ i, (u.bay i).link = .dark) →
      (l.foldl State.deriveLamp u).loop = s.loop := by
    intro l
    induction l with
    | nil => exact fun u e _ => e
    | cons i l ih =>
      intro u e d
      refine ih _ (dark u i e (d i)) fun j => ?_
      rw [link_of_core (core_of_still (still_deriveLamp u i) j)]
      exact d j
  exact all _ s rfl fun i => (h.bay i).1

/-- With nothing queued no slot is granted. -/
theorem grantSlots_empty {s : State} (empty : s.arb.queue = []) : s.grantSlots = s := by
  have one : s.grantSlot = s := by
    have e : s.eligibleEntry? = none := by unfold State.eligibleEntry?; rw [empty]; rfl
    unfold State.grantSlot
    rw [e]
    split <;> rfl
  unfold State.grantSlots
  rw [one, one]

/-- The tail of the end of an event with the loop off. -/
theorem State.Off.tail {s : State} (h : s.Off) :
    s.roundOn.judgeEligible.deriveLamps.lines.Off ∧
      s.roundOn.judgeEligible.deriveLamps.lines.power = s.power ∧
      s.roundOn.judgeEligible.deriveLamps.lines.loop = s.loop := by
  rw [h.shed.roundOn]
  have judged : s.judgeEligible.loop = s.loop ∧ s.judgeEligible.arb = s.arb := by
    unfold State.judgeEligible
    dsimp only
    split
    · rw [markPending_loop, modBays_loop, markPending_arb, modBays_arb]; exact ⟨rfl, rfl⟩
    · rw [modBays_loop, modBays_arb]; exact ⟨rfl, rfl⟩
  have off : s.judgeEligible.Off := h.of judged.1 judged.2 (cust_of_still (still_judgeEligible s))
    (core_of_still (still_judgeEligible s)) (grants_judgeEligible s)
  have lamps := loop_deriveLamps_off off
  have still := still_deriveLamps s.judgeEligible
  have power := (power_of_still still).trans (power_of_still (still_judgeEligible s))
  have arb := arb_of_aside (aside_deriveLamps s.judgeEligible)
  have off := off.of lamps arb (cust_of_still still) (core_of_still still) (grants_deriveLamps _)
  generalize s.judgeEligible.deriveLamps = t at *
  refine ⟨off.of rfl rfl rfl (fun _ => rfl) rfl, power, lamps.trans judged.1⟩

/-- The end of an event with the loop off and no drain. -/
theorem State.Off.settle {s : State} (h : s.Off) (drain : s.power.drain = none) :
    s.settle.Off ∧ s.settle.power = s.power ∧ s.settle.loop = s.loop := by
  have check : s.drainCheck = s := if_neg fun e => absurd e.1 (by simp [drain])
  have arb : s.arb.queue = [] := by rw [h.arb]
  rw [settle_eq h.idle, grantSlots_empty arb, check]
  exact h.tail

/-! ### The end of a drain (R19, R146, R157) -/

/-- What the end of a drain leaves, of a drain's kind, an inlet, a power state and a rebuild. -/
def State.DrainEnded (s t : State) (d : Drain) : Prop :=
  t.Off ∧ t.power.drain = none ∧
  (d.kind = .cart → s.inlet.cond = .lost → t.power.state = .transit) ∧
  (d.kind = .cart → s.inlet.cond ≠ .lost → t.power.state = .settling) ∧
  (d.kind = .rebuild → t.power.state = s.power.state ∧
    t.loop.rebuild = s.loop.rebuild.map fun r => { r with phase := .powerOff, due := s.now + 500 })

theorem enterTransit_off {s : State} (lowering : s.round.state ≠ .lowering) (raising : s.round.state ≠ .raising)
    (drain : s.power.drain = none) :
    s.enterTransit.Off ∧ s.enterTransit.power.drain = none ∧
      (s.inlet.cond = .lost → s.enterTransit.power.state = .transit) ∧
      (s.inlet.cond ≠ .lost → s.enterTransit.power.state = .settling) := by
  unfold State.enterTransit
  dsimp only
  have round := modBays_round (s := { s with power := { s.power with state := .transit } })
    (f := fun _ b => b.shelve s.now)
  have power := modBays_power (s := { s with power := { s.power with state := .transit } })
    (f := fun _ b => b.shelve s.now)
  have inlet := modBays_inlet (s := { s with power := { s.power with state := .transit } })
    (f := fun _ b => b.shelve s.now)
  generalize State.modBays _ _ = v at round power inlet ⊢
  have inlet : v.inlet = s.inlet := inlet
  obtain ⟨n, said, -⟩ := raise_spec v .transitEntered none none none none none
  rw [said]
  have off := off_loopPowerOff (s := { v with notices := n }) (by rw [← round] at lowering; exact lowering)
    (by rw [← round] at raising; exact raising)
  obtain ⟨power', -⟩ := loopPowerOff_spec { v with notices := n }
  have inlet' : (State.loopPowerOff { v with notices := n }).inlet = s.inlet :=
    (inlet_of_kept (kept_loopPowerOff _)).trans inlet
  have power' : (State.loopPowerOff { v with notices := n }).power = { s.power with state := .transit } :=
    power'.trans power
  generalize State.loopPowerOff { v with notices := n } = w at off power' inlet' ⊢
  obtain ⟨off, power'', -⟩ := off.recomputePool
  have inlet'' : w.recomputePool.inlet = s.inlet := (inlet_of_kept (kept_recomputePool w)).trans inlet'
  generalize w.recomputePool = x at off power'' inlet'' ⊢
  have powers : x.power = { s.power with state := .transit } := power''.trans power'
  unfold State.throughTransit
  rw [inlet'']
  split
  · next lost =>
    exact ⟨off, by rw [powers]; exact drain, fun _ => by rw [powers], fun e => absurd lost e⟩
  · next back =>
    unfold State.enterSettling
    have off : State.Off { x with
        power := { x.power with
          state := .settling
          settleDue := some (x.now + x.cfg .settle * 1000)
          settleCause := x.power.nextCause
          nextCause := .settle } } := off.of rfl rfl rfl (fun _ => rfl) rfl
    obtain ⟨off, power, -⟩ := off.recomputePool
    generalize State.recomputePool _ = y at off power ⊢
    exact ⟨off, by rw [power, powers]; exact drain, fun e => absurd e back, fun _ => by rw [power]⟩

theorem enterPowerOff_on {s : State} (on : s.loop.power = true) {r : Rebuild} (rebuild : s.loop.rebuild = some r) :
    s.enterPowerOff =
      { s.loopPowerOff with
        loop := { s.loopPowerOff.loop with
          rebuild := some { r with phase := .powerOff, due := s.now + 500 } } } := by
  obtain ⟨-, -, -, -, -, -, -, since, -, now, -⟩ := loopPowerOff_spec s
  unfold State.enterPowerOff
  rw [rebuild]
  dsimp only
  rw [if_pos on]
  generalize s.loopPowerOff = t at since now ⊢
  rw [if_pos on] at since
  rw [if_neg (by omega), since]

theorem endDrain_ends {s : State} (lowering : s.round.state ≠ .lowering) (raising : s.round.state ≠ .raising)
    (on : s.loop.power = true) {d : Drain} (drain : s.power.drain = some d)
    (rebuilds : d.kind = .rebuild → s.loop.rebuild.isSome) : s.DrainEnded s.endDrain d := by
  unfold State.endDrain
  rw [drain]
  dsimp only
  cases kind : d.kind with
  | cart =>
    obtain ⟨off, none, lost, back⟩ := enterTransit_off
      (s := { s with power := { s.power with drain := none } }) lowering raising rfl
    generalize State.enterTransit _ = t at off none lost back ⊢
    exact ⟨off, none, fun _ => lost, fun _ => back, fun e => absurd (kind.symm.trans e) (by simp)⟩
  | rebuild =>
    obtain ⟨r, hr⟩ := Option.isSome_iff_exists.1 (rebuilds kind)
    have off := off_loopPowerOff (s := { s with power := { s.power with drain := none } }) lowering raising
    have power := power_enterPowerOff { s with power := { s.power with drain := none } }
    rw [enterPowerOff_on (s := { s with power := { s.power with drain := none } }) on hr] at power ⊢
    generalize State.loopPowerOff _ = t at off power ⊢
    have power : t.power = { s.power with drain := none } := power
    refine ⟨?_, by rw [power], fun e => absurd (kind.symm.trans e) (by simp),
      fun e => absurd (kind.symm.trans e) (by simp), fun _ => ⟨by rw [power], by rw [hr]; rfl⟩⟩
    exact ⟨off.power, off.queued, off.waiting, off.heldBack, off.onLoop, off.scan, off.arb, off.ready, off.idle,
      off.bay, ⟨off.shed.none, off.shed.lowering, off.shed.raising⟩⟩

end Sys2Proof.Machine


/-! DRAIN_LIMIT_EXPIRY, and the verification read that ends the last pulse of a drain (O15). -/

namespace Sys2Proof.Machine

/-! ### What the charge part of a STATUS leaves alone -/

/-- What the charge part of a STATUS leaves of the cart, and of each bay's custody. -/
structure State.Stays (s t : State) : Prop where
  now : t.now = s.now
  inlet : t.inlet = s.inlet
  power : t.power = s.power
  arb : t.arb = s.arb
  active : t.cust.reconActive = s.cust.reconActive
  loopPower : t.loop.power = s.loop.power
  rebuild : t.loop.rebuild = s.loop.rebuild
  phase : t.round.state = s.round.state
  custody : ∀ i, (t.bay i).custody = (s.bay i).custody
  presence : ∀ i, (t.bay i).presence = (s.bay i).presence
  recon : ∀ i, (t.bay i).recon = (s.bay i).recon

theorem State.Stays.refl (s : State) : s.Stays s :=
  ⟨rfl, rfl, rfl, rfl, rfl, rfl, rfl, rfl, fun _ => rfl, fun _ => rfl, fun _ => rfl⟩

theorem State.Stays.trans {s t u : State} (h : s.Stays t) (k : t.Stays u) : s.Stays u :=
  ⟨k.now.trans h.now, k.inlet.trans h.inlet, k.power.trans h.power, k.arb.trans h.arb, k.active.trans h.active,
    k.loopPower.trans h.loopPower, k.rebuild.trans h.rebuild, k.phase.trans h.phase,
    fun i => (k.custody i).trans (h.custody i), fun i => (k.presence i).trans (h.presence i),
    fun i => (k.recon i).trans (h.recon i)⟩

theorem State.Stays.ite {s t u : State} (c : Prop) [Decidable c] (h : s.Stays t) (h' : s.Stays u) :
    s.Stays (if c then t else u) := by
  split <;> assumption

theorem State.Stays.modBay (s : State) (i : BayIx) (f : Bay → Bay) (c : ∀ b, (f b).custody = b.custody)
    (p : ∀ b, (f b).presence = b.presence) (r : ∀ b, (f b).recon = b.recon) : s.Stays (s.modBay i f) := by
  refine ⟨rfl, rfl, rfl, rfl, rfl, rfl, rfl, rfl, fun j => ?_, fun j => ?_, fun j => ?_⟩ <;>
    rw [bay_modBay] <;> split <;> next e => simp_all

theorem State.Stays.raise (s : State) (k : NoticeKind) (bay : Option BayIx) (asset : Option AssetId)
    (session : Option Nat) (value : Option Nat) (reason : Option Reason) :
    s.Stays (s.raise k bay asset session value reason) := by
  obtain ⟨n, e, -⟩ := raise_spec s k bay asset session value reason
  rw [e]
  exact ⟨rfl, rfl, rfl, rfl, rfl, rfl, rfl, rfl, fun _ => rfl, fun _ => rfl, fun _ => rfl⟩

/-- The allocator's work that moves no phase. -/
theorem State.Stays.of_aside {s t : State} (h : t.aside = s.aside) (phase : t.round.state = s.round.state) :
    s.Stays t where
  now := now_of_aside h
  inlet := inlet_of_aside h
  power := power_of_aside h
  arb := arb_of_aside h
  active := by rw [cust_of_aside h]
  loopPower := loopPower_of_aside h
  rebuild := rebuild_of_aside h
  phase := phase
  custody i := custody_of_core (core_of_aside h i)
  presence i := presence_of_core (core_of_aside h i)
  recon i := recon_of_core (core_of_aside h i)

theorem State.Stays.shared {s t : State} (h : s.Shared t) (phase : t.round.state = s.round.state) : s.Stays t := by
  obtain ⟨sess, round, bays, e, share⟩ := h
  refine ⟨by rw [e], by rw [e], by rw [e], by rw [e], by rw [e], by rw [e], by rw [e], phase, fun i => ?_,
    fun i => ?_, fun i => ?_⟩ <;> obtain ⟨n, e⟩ := share i <;> rw [e]

theorem stays_refreshShare (s : State) (i : BayIx) : s.Stays (s.refreshShare i) :=
  .shared (shared_refreshShare s i) (phase_of_grants (grants_refreshShare s i))

theorem stays_dispatch (s : State) : s.Stays s.dispatch :=
  .shared (shared_dispatch s) (phase_of_grants (grants_dispatch s))

theorem stays_setGrants (s : State) (i : BayIx) (a c : Nat) : s.Stays (s.setGrants i a c) := by
  have bays : ∀ j, ((s.setGrants i a c).bay j).custody = (s.bay j).custody ∧
      ((s.setGrants i a c).bay j).presence = (s.bay j).presence ∧
      ((s.setGrants i a c).bay j).recon = (s.bay j).recon := fun j => by
    rw [bay_setGrants]; split <;> exact ⟨rfl, rfl, rfl⟩
  exact ⟨setGrants_now .., by unfold State.setGrants; split <;> rfl, setGrants_power .., setGrants_arb ..,
    by rw [setGrants_cust], by rw [setGrants_loop], by rw [setGrants_loop], by rw [setGrants_round],
    fun j => (bays j).1, fun j => (bays j).2.1, fun j => (bays j).2.2⟩

theorem stays_faultGrant (s : State) (i : BayIx) : s.Stays (s.faultGrant i) := by
  refine .of_aside (aside_faultGrant s i) ?_
  have issued : ∀ (u : State) k w, (u.issueGrant k i w).round.state = u.round.state := fun u k w => by
    obtain ⟨⟨n, e⟩, -⟩ := issueGrant_rest u k i w
    rw [e]
  have withdrawn : (s.withdrawGrant i).round.state = s.round.state := by
    obtain ⟨⟨n, e⟩, -⟩ := withdrawGrant_rest s i
    rw [e]
  have tail : ∀ u : State, u.round.state = s.round.state →
      (if (u.bay i).commanded = 0 ∧ (u.bay i).applied = 0 then u else u.issueGrant (.fault false) i 0).round.state =
        s.round.state := by
    intro u e
    split
    · exact e
    · exact (issued ..).trans e
  unfold State.faultGrant
  dsimp only
  split
  · refine tail _ ?_
    split
    · exact withdrawn
    · rfl
  · rfl

theorem stays_leaveReady (s : State) (i : BayIx) (why : Option Reason) : s.Stays (s.leaveReady i why) := by
  obtain ⟨loop, arb, power, cust, bays⟩ := leaveReady_rest s i why
  have kept := kept_leaveReady s i why
  have phase := phase_of_grants (grants_leaveReady s i why)
  generalize s.leaveReady i why = t at *
  refine ⟨now_of_kept kept, inlet_of_kept kept, power, arb, by rw [cust], by rw [loop], by rw [loop], phase,
    fun j => ?_, fun j => ?_, fun j => ?_⟩ <;> obtain ⟨n, e⟩ := bays j <;> rw [e]

/-! ### The charge part of a STATUS (R24, R44 to R46) -/

theorem stays_takeOverdraw (s : State) (i : BayIx) (why : Reason) : s.Stays (s.takeOverdraw i why) := by
  unfold State.takeOverdraw
  refine State.Stays.trans ?_ (stays_leaveReady ..)
  refine State.Stays.trans ?_ (.raise ..)
  refine State.Stays.trans ?_ (stays_faultGrant ..)
  exact .modBay s i _ (fun _ => rfl) (fun _ => rfl) fun _ => rfl

theorem stays_testOverdraw (s : State) (i : BayIx) : s.Stays (s.testOverdraw i) := by
  unfold State.testOverdraw
  exact .ite _ (.refl s) (.ite _
    (.ite _ (stays_takeOverdraw ..) (.modBay s i _ (fun _ => rfl) (fun _ => rfl) fun _ => rfl))
    (.modBay s i _ (fun _ => rfl) (fun _ => rfl) fun _ => rfl))

theorem stays_testShort (s : State) (i : BayIx) : s.Stays (s.testShort i) := by
  unfold State.testShort
  exact .ite _ (stays_takeOverdraw ..) (.refl s)

theorem stays_testHot (s : State) (i : BayIx) : s.Stays (s.testHot i) := by
  have marked : ∀ u : State, u.Stays u.markPending := fun u =>
    ⟨rfl, rfl, rfl, rfl, rfl, rfl, rfl, rfl, fun _ => rfl, fun _ => rfl, fun _ => rfl⟩
  have taken : ∀ u : State, u.Stays (u.takeHot i) := by
    intro u
    unfold State.takeHot
    refine State.Stays.trans ?_ (stays_leaveReady ..)
    refine State.Stays.trans ?_ (.raise ..)
    refine State.Stays.trans ?_ (stays_faultGrant ..)
    exact .modBay u i _ (fun _ => rfl) (fun _ => rfl) fun _ => rfl
  unfold State.testHot
  refine .ite _ ?_ (.ite _ ?_ (.refl s))
  · have timed : s.Stays (s.modBay i fun b => { b with hotTime := some s.retained.seconds }) :=
      .modBay s i _ (fun _ => rfl) (fun _ => rfl) fun _ => rfl
    exact .ite _ timed (timed.trans (taken _))
  · refine State.Stays.trans ?_ (marked _)
    exact .modBay s i _ (fun _ => rfl) (fun _ => rfl) fun _ => rfl

theorem stays_applyCharge (s : State) (i : BayIx) (k : Block) : s.Stays (s.applyCharge i k) := by
  have stored : s.Stays (s.storeCharge i k) := by
    unfold State.storeCharge
    exact (stays_setGrants ..).trans (.modBay _ i _ (fun _ => rfl) (fun _ => rfl) fun _ => rfl)
  have shared : s.Stays
      (State.refreshShare (((s.storeCharge i k).testOverdraw i).testShort i |>.testHot i) i) :=
    ((stored.trans (stays_testOverdraw ..)).trans (stays_testShort ..)).trans
      ((stays_testHot ..).trans (stays_refreshShare ..))
  unfold State.applyCharge
  exact .ite _ (shared.trans (stays_dispatch _)) shared

theorem stays_compareLamp (s : State) (i : BayIx) : s.Stays (s.compareLamp i) := by
  refine .of_aside (aside_compareLamp s i) ?_
  unfold State.compareLamp
  dsimp only
  split_ifs <;> rfl

/-! ### A STATUS of a Securing bay whose tablet is present and whose bolt is engaged -/

theorem stays_heard {s : State} (i : BayIx) (empty : s.arb.queue = []) : s.Stays (s.heard i) := by
  unfold State.heard
  split
  · unfold State.relink
    have linked : s.Stays (s.modBay i fun b => { b with link := .linked, miss := 0, lostAt := none, resync := true }) :=
      .modBay s i _ (fun _ => rfl) (fun _ => rfl) fun _ => rfl
    have sent := linked.trans (stays_dispatch _)
    rw [grantSlots_empty (by rw [sent.arb]; exact empty)]
    exact sent
  · exact .modBay s i _ (fun _ => rfl) (fun _ => rfl) fun _ => rfl

/-- The press of its button is answered with the lamp alone (R94). -/
theorem stays_buttonPress_securing {s : State} {i : BayIx} (c : (s.bay i).custody = .securing) (latch : Bool) :
    s.Stays (s.buttonPress i latch) := by
  have refused : ∃ r, s.releaseRefusal? i false = some r := by
    unfold State.releaseRefusal?
    dsimp only
    split
    · exact ⟨_, rfl⟩
    · split
      · exact ⟨_, rfl⟩
      · rw [c]; exact ⟨_, rfl⟩
  obtain ⟨r, e⟩ := refused
  unfold State.buttonPress
  rw [e]
  exact .ite _ (.modBay s i _ (fun _ => rfl) (fun _ => rfl) fun _ => rfl) (.refl s)

/-- The report stored, the distribution of such a STATUS leaves the rest. -/
theorem stays_distribute_securing {s : State} {i : BayIx} (c : (s.bay i).custody = .securing)
    (r : (s.bay i).recon = .none) {k : Block} (here : k.presence = true) :
    (s.modBay i fun b => { b with presence := some k.presence, bolt := some k.bolt, gone := b.gone && !k.presence }).Stays
      (s.distribute i k) := by
  unfold State.distribute
  refine State.Stays.trans ?_ (stays_compareLamp ..)
  refine State.Stays.trans ?_ (stays_applyCharge ..)
  unfold State.custodyReport
  dsimp only
  have recon : ((s.modBay i fun b =>
      { b with presence := some k.presence, bolt := some k.bolt, gone := b.gone && !k.presence }).bay i).recon = .none := by
    rw [bay_modBay_self]; exact r
  have custody : ((s.modBay i fun b =>
      { b with presence := some k.presence, bolt := some k.bolt, gone := b.gone && !k.presence }).bay i).custody =
        .securing := by
    rw [bay_modBay_self]; exact c
  generalize s.modBay i _ = u at recon custody ⊢
  rw [if_pos recon]
  have judged : u.judge i k.presence k.bolt = u := by
    unfold State.judge
    rw [custody]
    exact if_pos here
  rw [judged]
  exact stays_buttonPress_securing custody k.latch

/-! ### The end of the pulse (R63, R103, R105) -/

theorem stopSeating_arb (s : State) (i : BayIx) : (s.stopSeating i).arb = s.arb := by
  have dropped : (s.dropTag i).arb = s.arb := by
    unfold State.dropTag
    dsimp only
    split
    · split
      · split <;> rfl
      · rfl
    · rfl
  exact dropped

/-- A custody state reached moves no pulse. -/
theorem become_arb (s : State) (i : BayIx) (c : Custody) : (s.become i c).arb = s.arb := by
  have left : (if c = .locked then s else s.leaveReady i (some .custody)).arb = s.arb := by
    split
    · rfl
    · obtain ⟨-, arb, -⟩ := leaveReady_rest s i (some .custody)
      exact arb
  have sent : ∀ (p : Prop) [Decidable p] (u : State), (if p then u.dispatch else u).arb = u.arb := by
    intro p _ u
    split
    · obtain ⟨sess, round, bays, e, -⟩ := shared_dispatch u
      rw [e]
    · rfl
  unfold State.become
  dsimp only
  rw [sent]
  split <;> exact (stopSeating_arb _ i).trans left

/-- What an engage verified on a Securing bay leaves of the rest. -/
theorem engageDone_securing {s : State} {i : BayIx} (c : (s.bay i).custody = .securing)
    (here : (s.bay i).presence = some true) :
    (s.engageDone i).kept = s.kept ∧ (s.engageDone i).ground = s.ground ∧ (s.engageDone i).grants = s.grants ∧
      (s.engageDone i).arb = s.arb := by
  refine ⟨by simp, by simp, ?_, ?_⟩
  all_goals
    unfold State.engageDone
    rw [c]
    dsimp only
    rw [if_neg (by simp [here])]
  · split <;> simp
  · split
    · obtain ⟨n, e, -⟩ := raise_spec (s.become i .locked) .returned (some i)
        ((s.become i .locked).bay i).assetId none none (some .admitted)
      rw [e]
      exact become_arb s i _
    · exact become_arb s i _

/-- What the verified engage of a Securing bay leaves, where its STATUS ends the last pulse (R63, R103, R105). -/
structure State.PulseDone (s t : State) : Prop where
  now : t.now = s.now
  inlet : t.inlet = s.inlet
  power : t.power = s.power
  active : t.cust.reconActive = s.cust.reconActive
  loopPower : t.loop.power = s.loop.power
  rebuild : t.loop.rebuild = s.loop.rebuild
  phase : t.round.state = s.round.state
  arb : t.arb = { s.arb with slotA := none, slotB := none }

theorem slot_setSlot_none {s : State} (k : PulseSlot) (other : s.arb.slotA = none ∨ s.arb.slotB = none) {p : Pulse}
    (held : s.slot k = some p) : (s.setSlot k none).arb = { s.arb with slotA := none, slotB := none } := by
  cases k with
  | a =>
    have a : s.arb.slotA = some p := held
    have b : s.arb.slotB = none := other.resolve_left (by simp [a])
    show { s.arb with slotA := none } = _
    rw [← b]
  | b =>
    have b : s.arb.slotB = some p := held
    have a : s.arb.slotA = none := other.resolve_right (by simp [b])
    show { s.arb with slotB := none } = _
    rw [← a]

theorem pulseDone_ended {s : State} {k : PulseSlot} {i : BayIx} {p : Pulse} {a : Answer} (stale : Bool)
    (held : s.slot k = some p) (bay : p.bay = i) (dir : p.dir = .engage) (empty : s.arb.queue = [])
    (other : s.arb.slotA = none ∨ s.arb.slotB = none) (r : (s.bay i).recon = .none)
    (c : (s.bay i).custody = .securing) (ok : a.result = .ok) (here : a.block.presence = true)
    (bolt : a.block.bolt = .engaged) : s.PulseDone (s.ended (.verify k i) stale (.answer a)) := by
  have linked : s.Stays (s.linkOf (.verify k i) (.answer a)) := stays_heard i empty
  unfold State.ended
  generalize s.linkOf (.verify k i) (.answer a) = u at linked ⊢
  have shared : u.shareOut (.verify k i) (.answer a) = u.distribute i a.block := if_pos ⟨rfl, ok⟩
  rw [shared]
  have stored := stays_distribute_securing (s := u) ((linked.custody i).trans c) ((linked.recon i).trans r) here
  have custody : ((u.distribute i a.block).bay i).custody = .securing := by
    rw [stored.custody, bay_modBay_self]; exact (linked.custody i).trans c
  have presence : ((u.distribute i a.block).bay i).presence = some true := by
    rw [stored.presence, bay_modBay_self, here]
  have now := stored.now.trans linked.now
  have inlet := stored.inlet.trans linked.inlet
  have power := stored.power.trans linked.power
  have active := stored.active.trans linked.active
  have loopPower := stored.loopPower.trans linked.loopPower
  have rebuild := stored.rebuild.trans linked.rebuild
  have phase := stored.phase.trans linked.phase
  have arb : (u.distribute i a.block).arb = s.arb := stored.arb.trans linked.arb
  generalize u.distribute i a.block = v at *
  have held : v.slot k = some p := by
    rw [← held]; unfold State.slot; rw [arb]
  have ended : v.told (.verify k i) stale (.answer a) = (v.setSlot k none).engageDone i := by
    have verified : a.result = .ok ∧ verifies p.dir a.block.bolt = true := ⟨ok, by rw [dir, bolt]; rfl⟩
    show v.verifyTold k (.answer a) = _
    unfold State.verifyTold
    rw [held]
    dsimp only
    rw [if_pos verified]
    unfold State.endPulse State.pulseReport
    rw [bay, dir]
    rfl
  rw [ended]
  have free := slot_setSlot_none k (by rw [arb]; exact other) held
  have bays : ∀ j, (v.setSlot k none).bay j = v.bay j := fun j => by cases k <;> rfl
  have rest : (v.setSlot k none).kept = v.kept ∧ (v.setSlot k none).ground = v.ground ∧
      (v.setSlot k none).grants = v.grants := by cases k <;> exact ⟨rfl, rfl, rfl⟩
  obtain ⟨kept, ground, grants, arb'⟩ := engageDone_securing (s := v.setSlot k none) (i := i)
    (by rw [bays]; exact custody) (by rw [bays]; exact presence)
  have kept := kept.trans rest.1
  have ground := ground.trans rest.2.1
  have grants := grants.trans rest.2.2
  generalize (v.setSlot k none).engageDone i = w at *
  exact ⟨(now_of_kept kept).trans now, (inlet_of_kept kept).trans inlet, (power_of_ground ground).trans power,
    (reconActive_of_ground ground).trans active, (loopPower_of_ground ground).trans loopPower,
    (rebuild_of_ground ground).trans rebuild, (phase_of_grants grants).trans phase,
    by rw [arb', free, arb]⟩

/-! ### The two ends of a drain -/

/-- A drain that has nothing left to wait for completes at the end of the event (R156). -/
theorem settle_drained {s : State} (idle : s.cust.reconActive = false) (queue : s.arb.queue = [])
    (a : s.arb.slotA = none) (b : s.arb.slotB = none) (lowering : s.round.state ≠ .lowering)
    (raising : s.round.state ≠ .raising) (on : s.loop.power = true) {d : Drain} (drain : s.power.drain = some d)
    (rebuilds : d.kind = .rebuild → s.loop.rebuild.isSome) : s.DrainEnded s.settle d := by
  obtain ⟨off, none, lost, back, rebuild⟩ := endDrain_ends lowering raising on drain rebuilds
  have check : s.drainCheck = s.endDrain := if_pos ⟨by simp [drain], queue, a, b⟩
  rw [settle_eq idle, grantSlots_empty queue, check]
  generalize s.endDrain = t at *
  obtain ⟨off, power, loop⟩ := off.tail
  generalize t.roundOn.judgeEligible.deriveLamps.lines = u at *
  exact ⟨off, by rw [power]; exact none, by rw [power]; exact lost, by rw [power]; exact back,
    by rw [power, loop]; exact rebuild⟩

/-- A drain that its limit ends (R157). -/
theorem endDrain_settle {s : State} (lowering : s.round.state ≠ .lowering) (raising : s.round.state ≠ .raising)
    (on : s.loop.power = true) {d : Drain} (drain : s.power.drain = some d)
    (rebuilds : d.kind = .rebuild → s.loop.rebuild.isSome) : s.DrainEnded s.endDrain.settle d := by
  obtain ⟨off, none, lost, back, rebuild⟩ := endDrain_ends lowering raising on drain rebuilds
  generalize s.endDrain = t at *
  obtain ⟨off, power, loop⟩ := off.settle none
  generalize t.settle = u at *
  exact ⟨off, by rw [power]; exact none, by rw [power]; exact lost, by rw [power]; exact back,
    by rw [power, loop]; exact rebuild⟩

/-- The end of a drain, part by part. -/
theorem State.DrainEnded.parts {s t : State} {d : Drain} (h : s.DrainEnded t d) :
    t.power.drain = none ∧ t.loop.power = false ∧
    t.loop.queued = [] ∧ t.loop.waiting = [] ∧ t.loop.heldBack = [] ∧ t.loop.onLoop = none ∧
    t.loop.scan.running = false ∧ t.arb.queue = [] ∧ t.arb.slotA = none ∧ t.arb.slotB = none ∧
    t.arb.held = true ∧ t.cust.readySet = [] ∧
    (∀ i, (t.bay i).link = .dark ∧ (t.bay i).applied = 0 ∧ (t.bay i).commanded = 0 ∧
      (t.bay i).outstanding = none ∧ (t.bay i).lampShown = some .off) ∧
    (d.kind = .cart → s.inlet.cond = .lost → t.power.state = .transit) ∧
    (d.kind = .cart → s.inlet.cond ≠ .lost → t.power.state = .settling) ∧
    (d.kind = .rebuild → t.power.state = s.power.state ∧
      t.loop.rebuild = s.loop.rebuild.map fun r => { r with phase := .powerOff, due := s.now + 500 }) := by
  obtain ⟨off, none, lost, back, rebuild⟩ := h
  have bays : ∀ i, (t.bay i).link = .dark ∧ (t.bay i).applied = 0 ∧ (t.bay i).commanded = 0 ∧
      (t.bay i).outstanding = Option.none ∧ (t.bay i).lampShown = some .off := fun i => by
    obtain ⟨link, applied, lamp⟩ := off.bay i
    obtain ⟨commanded, outstanding⟩ := off.shed.none i
    exact ⟨link, applied, commanded, outstanding, lamp⟩
  exact ⟨none, off.power, off.queued, off.waiting, off.heldBack, off.onLoop, off.scan, by rw [off.arb],
    by rw [off.arb], by rw [off.arb], by rw [off.arb], off.ready, bays, lost, back, rebuild⟩

theorem drainLimitExpiry_eq {s : State} (awake : s.resetHeld = false) {d : Drain} (drain : s.power.drain = some d) :
    exec .drainLimitExpiry s = .next (s.reach d.due).endDrain.settle := by
  refine (live_awake awake _).trans ?_
  rw [drain, Option.map_some, atDue_some]

/-- The cart as the end of the transaction on the loop finds it, the keyswitch sensed. -/
def State.idled (s : State) (key : Bool) : State :=
  { s with keyswitch := key, loop := { s.loop with onLoop := none } }

theorem address_of_bay {t : Txn} {i : BayIx} (bay : t.bay? = some i) : t.address ≠ 63 := by
  have small : ∀ j : BayIx, bayNumber j ≠ 63 := by decide
  unfold Txn.bay? at bay
  unfold Txn.address
  split at bay <;> first | exact small _ | cases bay

/-- An answer that the transaction on the loop waits for (R136, R139). -/
theorem onAnswer_eq {s : State} {o : OnLoop} (onLoop : s.loop.onLoop = some o) {i : BayIx} (bay : o.txn.bay? = some i)
    {resp : List Byte} {a : Answer} (valid : answer? o.txn resp = some a) :
    s.onAnswer o.txn.opCode resp = (s.idleLoop.ended o.txn o.stale (.answer a)).settle := by
  have awaited : s.awaited = some o := by
    unfold State.awaited
    rw [onLoop]
    simp [Option.filter, address_of_bay bay]
  unfold State.onAnswer
  rw [awaited]
  dsimp only
  rw [if_pos rfl, valid]
  rfl

/-- A STATUS answer that the transaction on the loop waits for (R143). -/
theorem status_eq {s : State} (awake : s.resetHeld = false) {o : OnLoop} (onLoop : s.loop.onLoop = some o)
    {i : BayIx} (bay : o.txn.bay? = some i) (op : o.txn.opCode = 0x04) {resp : List Byte} {a : Answer}
    (valid : answer? o.txn resp = some a) (key : Bool) :
    exec (.status resp key) s = .next ((s.idled key).ended o.txn o.stale (.answer a)).settle := by
  refine (live_awake awake _).trans ?_
  rw [← op, onAnswer_eq (s := { s with keyswitch := key }) onLoop bay valid]
  rfl

/-- Settles O15: the drain ended by its limit, and by the verification read that leaves it nothing to wait for. -/
theorem drainLimitSwitchesTheLoopOff : Obligations.DrainLimitSwitchesTheLoopOff := by
  intro s awake on round d drain rebuilds ended
  have lowering : s.round.state ≠ .lowering := by rcases round with e | e <;> rw [e] <;> simp
  have raising : s.round.state ≠ .raising := by rcases round with e | e <;> rw [e] <;> simp
  refine ⟨?_, fun o onLoop k i verify p held bay dir empty other idle recon custody resp a valid ok here bolt key => ?_⟩
  · have parts := (endDrain_settle (s := s.reach d.due) lowering raising on drain rebuilds).parts
    rw [drainLimitExpiry_eq awake drain]
    generalize (s.reach d.due).endDrain.settle = t at parts ⊢
    exact ⟨t, rfl, parts⟩
  · have done := pulseDone_ended (s := s.idled key) o.stale held bay dir empty other recon custody ok here bolt
    rw [status_eq awake onLoop (by rw [verify]; rfl) (by rw [verify]; rfl) valid, verify]
    generalize (s.idled key).ended _ _ _ = t at done ⊢
    have parts := (settle_drained (s := t) (d := d) (done.active.trans idle) (by rw [done.arb]; exact empty)
      (by rw [done.arb]) (by rw [done.arb]) (by rw [done.phase]; exact lowering) (by rw [done.phase]; exact raising)
      (done.loopPower.trans on) (by rw [done.power]; exact drain) (by rw [done.rebuild]; exact rebuilds)).parts
    rw [done.now, done.inlet, done.power, done.rebuild] at parts
    generalize t.settle = u at parts ⊢
    exact ⟨u, rfl, parts⟩

end Sys2Proof.Machine


/-! Settings take their values (O47). -/

namespace Sys2Proof.Machine

/-! ### Requests that act and are judged -/

/-- A request that acts on what events do not keep, and is answered: the reply in hand (R171, R172). -/
theorem replies_settle {s u : State} (f : RxFrame) (r : Result) (p : List Byte) (a : AfterReply)
    (clear : u.link.clear = s.link.clear) : s.Replies (u.reply f r p a).settle f r p a := by
  have kept := kept_settle (u.reply f r p a)
  generalize (u.reply f r p a).settle = t at kept ⊢
  have tx : t.link.tx = (u.reply f r p a).link.tx := congrArg Kept.tx kept
  rw [State.Replies, tx, ← clear]
  rfl

theorem reply_chan (s : State) (f : RxFrame) (r : Result) (p : List Byte) (a : AfterReply) (c : ChanIx) :
    (s.reply f r p a).chan c = s.chan c := rfl

theorem calm_reply {s : State} (f : RxFrame) (r : Result) (p : List Byte) (a : AfterReply) (h : s.Calm) :
    (s.reply f r p a).Calm := calm_of_ground rfl h

/-! ### Numbered settings (R174, R189) -/

/-- The settle interval taken (R22). -/
theorem settleTaken_spec (v : Nat) :
    settleTaken v ∈ [2, 4, 8, 16, 32] ∧ (v ≤ 32 → v ≤ settleTaken v ∧ settleTaken v < max 3 (2 * v)) ∧
      (32 < v → settleTaken v = 32) := by
  unfold settleTaken
  split_ifs <;> refine ⟨by decide, ?_, ?_⟩ <;> omega

theorem settingTaken_clamps {i : SettingId} (v : Nat) (settle : i ≠ .settle) (silence : i ≠ .silence) :
    settingTaken i v = min (max v (Config.settingRow i).lo) (Config.settingRow i).hi := by
  cases i <;> first | rfl | contradiction

/-- What a change of a setting does at once moves nothing that events keep, but for the silence timer (R189). -/
theorem kept_settingActs (s : State) (i : SettingId) (silence : i ≠ .silence) : (s.settingActs i).kept = s.kept := by
  cases i with
  | irate | headroom | efficiency | pfix | ppulse | qcap => exact kept_recomputePool s
  | pport | fsess => exact kept_refreshShares s
  | silence => exact absurd rfl silence
  | autoRebuild | rebuildHoldoff => exact kept_autoCheck s
  | rideThrough | drainLimit | settle | batch | spacing | seatSettle | foreignPolicy | wrongHomePolicy | window
  | bestMin | readyThreshold | pulseLength | linkTimer | drainSettle | bayCount | scanPeriod | attention => rfl

/-- What a setting's new value leaves of the rest that events keep. -/
structure State.Put (s t : State) (i : SettingId) (v : Nat) : Prop where
  value : t.cfg i = v
  others : ∀ j, j ≠ i → t.cfg j = s.cfg j
  image : t.image = s.image
  clear : t.link.clear = s.link.clear
  silence : i = .silence → v ≠ s.cfg i →
    t.link.silenceDue = if v = 0 then none else some (s.now + v * 1000)

theorem State.Put.kept {s t u : State} {i : SettingId} {v : Nat} (h : s.Put t i v) (k : u.kept = t.kept) :
    s.Put u i v := by
  have settings : u.settings = t.settings := congrArg Kept.settings k
  have cfg : u.cfg = t.cfg := funext fun j => by unfold State.cfg; rw [settings]
  exact ⟨cfg ▸ h.value, cfg ▸ h.others, (congrArg Kept.image k : u.image = t.image).trans h.image,
    (congrArg Kept.clear k : u.link.clear = t.link.clear).trans h.clear,
    fun e ne => (congrArg Kept.silenceDue k : u.link.silenceDue = t.link.silenceDue).trans (h.silence e ne)⟩

/-- A value becomes the live value of its setting, and of no other (R189). -/
theorem put_putSetting (s : State) (i : SettingId) (v : Nat) : s.Put (s.putSetting i v) i v := by
  unfold State.putSetting
  split
  case isTrue same => exact ⟨same, fun _ _ => rfl, rfl, rfl, fun _ ne => absurd same.symm ne⟩
  case isFalse =>
    have set : ∀ j, State.cfg { s with settings := s.settings.set i v } j = (s.settings.set i v).get j := fun _ => rfl
    have self : State.cfg { s with settings := s.settings.set i v } i = v := get_set_self ..
    have others : ∀ j, j ≠ i → State.cfg { s with settings := s.settings.set i v } j = s.cfg j :=
      fun j ne => get_set_ne _ _ ne
    by_cases e : i = .silence
    · subst e
      refine ⟨self, others, rfl, rfl, fun _ _ => ?_⟩
      dsimp only [State.settingActs]
      rw [self, silenceFrom]
    · exact State.Put.kept ⟨self, others, rfl, rfl, fun e' => absurd e' e⟩ (kept_settingActs _ i e)

theorem setNumbered_refused {s : State} (f : RxFrame) {i : SettingId} {v : Nat}
    (e : Config.enumerated i = true) (h : 1 < v) : s.setNumbered f i v = s.reply f .badValue [] := by
  simp [State.setNumbered, e, h]

theorem setNumbered_taken {s : State} (f : RxFrame) {i : SettingId} {v : Nat}
    (h : Config.enumerated i = false ∨ v ≤ 1) :
    s.setNumbered f i v = ((s.putSetting i (settingTaken i v)).reply f
      (if settingTaken i v = v then .done else .clamped)
      (byte (Config.settingRow i).number :: be2 (settingTaken i v))).settle := by
  refine if_neg fun e => ?_
  obtain ⟨enumerated, high⟩ := Bool.and_eq_true_iff.1 e
  have high : 1 < v := of_decide_eq_true high
  obtain h | h := h
  · exact absurd (h.symm.trans enumerated) (by simp)
  · omega

/-- A numbered setting at its number. -/
theorem setSetting_numbered {s : State} {f : RxFrame} (a : s.Asks 0x10 3 f) {i : SettingId}
    (hn : payByte f.payload 0 = (Config.settingRow i).number) :
    exec .setSetting s = .next (s.setNumbered f i (payNat f.payload 1 2)) := by
  refine (request_asked a rfl _ : execSetSetting s = _).trans ?_
  dsimp only
  rw [hn, settingOf?_number]

/-! ### Channel fields (R112, R113) -/

/-- Dispatch and the shares leave the configuration of a channel. -/
def State.setUp (s : State) (c : ChanIx) : ChanCfg × Option ChanCfg := ((s.chan c).cfg, (s.chan c).pendingCfg)

theorem setUp_of_sess {s t : State} (h : t.sess = s.sess) (c : ChanIx) : t.setUp c = s.setUp c := by
  unfold State.setUp State.chan; rw [h]

theorem chan_setChan_ne (s : State) {c d : ChanIx} (ch : Channel) (h : d ≠ c) : (s.setChan c ch).chan d = s.chan d := by
  simp only [State.setChan, State.chan]
  exact Vector.getElem_set_ne _ _ fun e => h (Fin.ext e.symm)

theorem refreshShare_sess (s : State) (i : BayIx) : (s.refreshShare i).sess = s.sess := by
  unfold State.refreshShare
  dsimp only
  split <;> rfl

theorem setUp_dispatchTo (s : State) (d : ChanIx) (x : Session) (c : ChanIx) :
    (s.dispatchTo d x).setUp c = s.setUp c := by
  unfold State.dispatchTo
  dsimp only
  rw [setUp_of_sess (refreshShare_sess _ _)]
  by_cases e : c = d
  · subst e
    simp only [State.setUp, chan_setChan_self]
  · simp only [State.setUp, chan_setChan_ne _ _ e]
    rfl

theorem setUp_dispatchChan (s : State) (d c : ChanIx) : (s.dispatchChan d).setUp c = s.setUp c := by
  unfold State.dispatchChan
  split
  · split
    · exact setUp_dispatchTo ..
    · rfl
  · rfl

theorem setUp_dispatch (s : State) (c : ChanIx) : s.dispatch.setUp c = s.setUp c := by
  suffices h : ∀ (l : List ChanIx) (s : State), (l.foldl State.dispatchChan s).setUp c = s.setUp c from h _ _
  intro l
  induction l with
  | nil => intro s; rfl
  | cons d l ih => intro s; exact (ih _).trans (setUp_dispatchChan s d c)

/-- A configuration given to a channel (R113). -/
structure State.Configured (s t : State) (c : ChanIx) (new : ChanCfg) : Prop where
  wanted : (t.chan c).wanted = new
  atOnce : (s.chan c).state = .off ∨ (s.chan c).state = .free → new ≠ (s.chan c).wanted → (t.chan c).cfg = new
  later : (s.chan c).state ≠ .off → (s.chan c).state ≠ .free → (t.chan c).cfg = (s.chan c).cfg

theorem wanted_of_setUp {s t : State} {c : ChanIx} (h : t.setUp c = s.setUp c) :
    (t.chan c).wanted = (s.chan c).wanted ∧ (t.chan c).cfg = (s.chan c).cfg := by
  have cfg : (t.chan c).cfg = (s.chan c).cfg := congrArg Prod.fst h
  have pending : (t.chan c).pendingCfg = (s.chan c).pendingCfg := congrArg Prod.snd h
  exact ⟨by unfold Channel.wanted; rw [cfg, pending], cfg⟩

theorem State.Configured.of_setUp {s t u : State} {c : ChanIx} {new : ChanCfg} (h : s.Configured t c new)
    (e : u.setUp c = t.setUp c) : s.Configured u c new := by
  obtain ⟨wanted, cfg⟩ := wanted_of_setUp e
  exact ⟨wanted ▸ h.wanted, cfg ▸ h.atOnce, cfg ▸ h.later⟩

theorem configured_idle (s : State) (c : ChanIx) (new : ChanCfg)
    (h : (s.chan c).state = .off ∨ (s.chan c).state = .free) :
    s.Configured (s.setChan c (Channel.idle new)) c new := by
  refine ⟨?_, fun _ _ => ?_, fun off free => ?_⟩
  · rw [chan_setChan_self]; rfl
  · rw [chan_setChan_self]; rfl
  · obtain h | h := h
    · exact absurd h off
    · exact absurd h free

theorem configured_pending (s : State) (c : ChanIx) (new : ChanCfg)
    (h : ¬ ((s.chan c).state = .off ∨ (s.chan c).state = .free)) :
    s.Configured (s.setChan c { s.chan c with pendingCfg := some new }) c new := by
  refine ⟨?_, fun e => absurd e h, fun _ _ => ?_⟩
  · rw [chan_setChan_self]; rfl
  · rw [chan_setChan_self]

theorem configured_configure (s : State) (c : ChanIx) (new : ChanCfg) : s.Configured (s.configure c new) c new := by
  have idle : (s.chan c).state = .off ∨ (s.chan c).state = .free →
      s.Configured (if new.enabled then (s.setChan c (Channel.idle new)).dispatch
        else s.setChan c (Channel.idle new)) c new := fun h => by
    have put := configured_idle s c new h
    split
    · exact put.of_setUp (setUp_dispatch _ c)
    · exact put
  have pending := configured_pending s c new
  by_cases same : new = (s.chan c).wanted
  · rw [show s.configure c new = s from if_pos same]
    exact ⟨same.symm, fun _ ne => absurd same ne, fun _ _ => rfl⟩
  · dsimp only [State.configure]
    rw [if_neg same]
    cases e : (s.chan c).state with
    | off => exact idle (.inl e)
    | free => exact idle (.inr e)
    | linking | busy | draining => simpa only [e] using pending (by simp [e])

/-- Set Setting of a channel field that is taken. -/
theorem setChannel_taken {s : State} (calm : s.Calm) (f : RxFrame) {c : ChanIx} {field v : Nat} {new : ChanCfg}
    (h : changeChan? (s.chan c).wanted field v = some new) :
    s.Configured (s.setChannel f c field v) c new ∧
      s.Replies (s.setChannel f c field v) f
        (if chanField new field = v ∧ (field = 2 → new.base = (s.chan c).wanted.base) then .done else .clamped)
        (byte (0x40 + 4 * c.1 + field) :: be2 (chanField new field)) ∧
      (s.setChannel f c field v).settings = s.settings := by
  unfold State.setChannel
  simp only [h]
  have kept := kept_configure s c new
  have calm := calm_of_ground (ground_configure s c new) calm
  have done := configured_configure s c new
  generalize s.configure c new = u at kept calm done ⊢
  refine ⟨done.of_setUp ?_, replies_settle f _ _ _ (congrArg Kept.clear kept), ?_⟩
  · rw [setUp_of_sess (sess_of_still (still_settle _ (calm_reply f _ _ _ calm)))]
    rfl
  · rw [settings_of_kept (kept_settle _), reply_settings, settings_of_kept kept]

theorem setChannel_refused {s : State} (f : RxFrame) {c : ChanIx} {field v : Nat}
    (h : changeChan? (s.chan c).wanted field v = none) : s.setChannel f c field v = s.reply f .badValue [] := by
  unfold State.setChannel
  simp only [h]

/-- A channel field at its number. -/
theorem setSetting_channel {s : State} {f : RxFrame} (a : s.Asks 0x10 3 f) {c : ChanIx} {k : Nat} (hk : k < 4)
    (hn : payByte f.payload 0 = 0x40 + 4 * c.1 + k) :
    exec .setSetting s = .next (s.setChannel f c k (payNat f.payload 1 2)) := by
  refine (request_asked a rfl _ : execSetSetting s = _).trans ?_
  dsimp only
  rw [hn, settingOf?_chan (by omega) (by omega), chanSetting?_number c k hk]

/-! ### The quiet flag (R9) -/

theorem payFlag_of_le {p : List Byte} {k : Nat} (h : payByte p k ≤ 1) :
    payFlag p k = some (decide (payByte p k = 1)) := by
  obtain e | e : payByte p k = 0 ∨ payByte p k = 1 := by omega
  · simp [payFlag, e]
  · simp [payFlag, e]

theorem payFlag_of_lt {p : List Byte} {k : Nat} (h : 1 < payByte p k) : payFlag p k = none := by
  unfold payFlag
  split
  · omega
  · omega
  · rfl

/-- A request that computes the pool and is answered: the pool, the inlet, the power state and the reply. -/
structure State.Recomputed (u t : State) (f : RxFrame) : Prop where
  pool : t.pool = { u.pool with inForce := u.poolNow }
  inlet : t.inlet = u.inlet
  power : t.power = u.power
  replies : u.Replies t f .done []

theorem recomputed_answered {u : State} (calm : u.Calm) (f : RxFrame) :
    u.Recomputed (u.recomputePool.reply f .done []).settle f := by
  have ground := ground_recomputePool u
  have kept := kept_recomputePool u
  obtain ⟨-, -, pool⟩ := recomputePool_marks u
  generalize u.recomputePool = w at ground kept pool ⊢
  have power : w.power = u.power := congrArg Ground.power ground
  have calm : (w.reply f .done []).Calm :=
    ⟨(congrArg Ground.reconActive ground).trans calm.1, (congrArg Power.drain power).trans calm.2⟩
  have replies := replies_settle (s := u) f .done [] .nothing (congrArg Kept.clear kept)
  have still := still_settle _ calm
  have keptSettle := kept_settle (w.reply f .done [])
  generalize (w.reply f .done []).settle = t at replies still keptSettle ⊢
  exact ⟨(congrArg Still.pool still).trans pool, (congrArg Kept.inlet (keptSettle.trans rfl)).trans (congrArg Kept.inlet kept),
    (congrArg Still.power still).trans power, replies⟩

/-- The quiet flag as Set Quiet takes it. -/
def State.quieted (s : State) (on : Bool) : State := { s with pool := { s.pool with quiet := on } }

/-- Set Quiet with a value that is taken. -/
theorem setQuiet_taken {s : State} {f : RxFrame} (a : s.Asks 0x13 1 f) (h : payByte f.payload 0 ≤ 1) :
    exec .setQuiet s = .next
      ((s.quieted (decide (payByte f.payload 0 = 1))).recomputePool.reply f .done []).settle := by
  refine (request_asked a rfl _ : execSetQuiet s = _).trans ?_
  rw [payFlag_of_le h]
  rfl

/-! ### The settings -/

theorem numberedTakesItsValue {s : State} {f : RxFrame} (a : s.Asks 0x10 3 f) {i : SettingId}
    (hn : payByte f.payload 0 = (Config.settingRow i).number) {v : Nat} (hv : payNat f.payload 1 2 = v)
    (h : Config.enumerated i = false ∨ v ≤ 1) :
    ∃ t, exec .setSetting s = .next t ∧ s.Put t i (settingTaken i v) ∧
      s.Replies t f (if settingTaken i v = v then .done else .clamped)
        (byte (Config.settingRow i).number :: be2 (settingTaken i v)) := by
  refine ⟨_, setSetting_numbered a hn, ?_⟩
  rw [hv, setNumbered_taken f h]
  have put := put_putSetting s i (settingTaken i v)
  generalize s.putSetting i (settingTaken i v) = u at put ⊢
  refine ⟨State.Put.kept ?_ (kept_settle _), replies_settle f _ _ _ put.clear⟩
  exact ⟨put.value, put.others, put.image, put.clear, put.silence⟩

/-- The four fields of a channel configuration, changed (R112). -/
theorem changeChan?_taken (old : ChanCfg) (field : Fin 4) (v : Nat) (h : field.1 = 1 ∨ field.1 = 2 ∨ v ≤ 1) :
    let size := if v ≤ 4 then 4 else if v ≤ 8 then 8 else if v ≤ 16 then 16 else if v ≤ 32 then 32 else 64
    let aligned := fun n m : Nat => min n 63 / m * m
    let new : ChanCfg := match field.1 with
      | 0 => { old with enabled := decide (v = 1) }
      | 1 => { old with base := aligned v old.size }
      | 2 => { old with size, base := aligned old.base size }
      | _ => { old with restricted := decide (v = 1) }
    changeChan? old field.1 v = some new ∧
      chanField new field.1 = match field.1 with
        | 1 => new.base
        | 2 => size
        | _ => v := by
  have flag : v ≤ 1 → (if decide (v = 1) = true then 1 else 0) = v := fun h => by
    split_ifs with e <;> simp at e <;> omega
  obtain ⟨k, lt⟩ := field
  obtain rfl | rfl | rfl | rfl : k = 0 ∨ k = 1 ∨ k = 2 ∨ k = 3 := by omega
  · have le : v ≤ 1 := by simpa using h
    exact ⟨if_pos le, flag le⟩
  · exact ⟨rfl, rfl⟩
  · exact ⟨rfl, rfl⟩
  · have le : v ≤ 1 := by simpa using h
    exact ⟨if_pos le, flag le⟩

theorem changeChan?_refused (old : ChanCfg) {k v : Nat} (field : k = 0 ∨ k = 3) (h : 1 < v) :
    changeChan? old k v = none := by
  obtain rfl | rfl := field
  · exact if_neg (by omega)
  · exact if_neg (by omega)

/-- Settles O47: Set Setting of a numbered setting, of a number of no setting and of a channel field, and Set Quiet. -/
theorem settingsTakeTheirValues : Obligations.SettingsTakeTheirValues := by
  intro s calm f _ v
  refine ⟨fun i a hn => ⟨fun e h => ?_, fun h => ?_⟩, fun a hn hout => ?_, fun c field a hn => ⟨fun e h => ?_, fun h => ?_⟩,
    fun a h => ?_⟩
  · rw [setSetting_numbered a hn, setNumbered_refused f e h]
  · obtain ⟨t, e, put, replies⟩ := numberedTakesItsValue a hn rfl h
    refine ⟨t, e, fun settle silence => ?_, fun settle => ?_, fun silence => ?_, ?_, put.others, put.image,
      fun silence ne => ?_⟩
    · exact put.value.trans (settingTaken_clamps _ settle silence)
    · rw [put.value]
      subst settle
      exact settleTaken_spec _
    · rw [put.value]
      subst silence
      rfl
    · rw [put.value]
      exact replies
    · rw [put.value] at ne ⊢
      exact put.silence silence ne
  · refine (request_asked a rfl _ : execSetSetting s = _).trans ?_
    dsimp only
    rw [settingOf?_none hn, chanSetting?_none hout]
  · rw [setSetting_channel a field.2 hn, setChannel_refused f (changeChan?_refused _ e h)]
  · intro old size aligned new taken
    obtain ⟨changed, value⟩ := changeChan?_taken old field v h
    obtain ⟨done, replies, settings⟩ := setChannel_taken calm f changed
    refine ⟨_, setSetting_channel a field.2 hn, done.wanted, ?_, done.atOnce, done.later, settings⟩
    rw [hn]
    rw [value] at replies
    exact replies
  · have done := recomputed_answered (calm_of_ground rfl calm : (s.quieted (decide (payByte f.payload 0 = 1))).Calm) f
    have e := setQuiet_taken a h
    generalize State.settle _ = t at done e
    refine ⟨t, e, done.replies, by rw [done.pool]; rfl, ?_, done.inlet, done.power⟩
    rw [done.pool]
    rfl

end Sys2Proof.Machine


/-! The start values (O42). -/

namespace Sys2Proof.Machine

/-- A part about to restart with 32 sessions in the Session Queue, which no run brings together: their SessionEnded
notices do not fit the Notice Queue after Started (R132, R184). -/
def crowded : State :=
  { State.reset with
    retained := { State.reset.retained with valid := true }
    link := { State.reset.link with tx := some ⟨[], 0, .restart⟩ }
    sess := { State.reset.sess with
      queue := List.replicate 32 ⟨1, 0, .image, 0, 0, .queued, none, 0, none, none, none, none⟩ } }

/-- The overflow flag that a command's next state shows. -/
def overflows : Out → Bool
  | .next t => t.notices.overflow
  | _ => false

theorem overflows_crowded : overflows (exec (.replySent 20) crowded) = true := by decide +kernel

/-- Refutes O42: the overflow flag is said to be clear after every start, also after a Warm-restart whose session record
is not sound. With 32 sessions recorded, the Notice Queue overflows at the last SessionEnded notice. -/
theorem not_startsTakeTheStartValues : ¬ Obligations.StartsTakeTheStartValues := by
  intro h
  obtain ⟨-, -, restarted, -⟩ := h 20 crowded
  obtain ⟨t, e, -, -, -, -, -, -, -, -, -, -, -, -, -, -, -, -, -, -, -,
    -, -, -, -, -, -, -, -, -, -, -, -, -, -, -, -, -, -, -, clear, -⟩ :=
    restarted rfl ⟨[], 0, .restart⟩ rfl rfl (.inr rfl)
  have full := overflows_crowded
  rw [e] at full
  exact absurd (clear.symm.trans full) (by simp)

end Sys2Proof.Machine


/-! The stages of a drain (R155): what each leaves of the power state, the arbiter, the ready set, the sessions and the
custody of every bay. -/

namespace Sys2Proof.Machine

/-! ### The scene of a drain -/

/-- What of a bay the stages of a drain read or write. -/
structure Stance where
  custody : Custody
  link : LinkState
  presence : Option Bool
  release : Option Release
  lastOutcome : Option (SessOutcome × Nat)

def Bay.stance (b : Bay) : Stance := ⟨b.custody, b.link, b.presence, b.release, b.lastOutcome⟩

/-- What of the state the stages of a drain read or write. -/
structure Scene where
  now : Nat
  inlet : Inlet
  power : Power
  arb : Arbiter
  ready : List BayIx
  active : Bool
  sess : Sessions
  loopPower : Bool
  rebuild : Option Rebuild
  stance : BayIx → Stance

def State.scene (s : State) : Scene :=
  ⟨s.now, s.inlet, s.power, s.arb, s.cust.readySet, s.cust.reconActive, s.sess, s.loop.power, s.loop.rebuild,
    fun i => (s.bay i).stance⟩

/-- A bay takes a stance. -/
def Scene.put (s : Scene) (i : BayIx) (a : Stance) : Scene := { s with stance := Function.update s.stance i a }

/-- A bay reaches a custody state (R78). -/
def Stance.reach (a : Stance) (c : Custody) : Stance :=
  { a with custody := c, release := if clearsRelease c then none else a.release }

section
variable {s t : State} (h : t.scene = s.scene)
include h

theorem now_of_scene : t.now = s.now := congrArg Scene.now h
theorem inlet_of_scene : t.inlet = s.inlet := congrArg Scene.inlet h
theorem power_of_scene : t.power = s.power := congrArg Scene.power h
theorem arb_of_scene : t.arb = s.arb := congrArg Scene.arb h
theorem ready_of_scene : t.cust.readySet = s.cust.readySet := congrArg Scene.ready h
theorem active_of_scene : t.cust.reconActive = s.cust.reconActive := congrArg Scene.active h
theorem sess_of_scene : t.sess = s.sess := congrArg Scene.sess h
theorem stance_of_scene (i : BayIx) : (t.bay i).stance = (s.bay i).stance := congrFun (congrArg Scene.stance h) i
end

section
variable {a b : Bay} (h : b.stance = a.stance)
include h

theorem custody_of_stance : b.custody = a.custody := congrArg Stance.custody h
theorem link_of_stance : b.link = a.link := congrArg Stance.link h
theorem presence_of_stance : b.presence = a.presence := congrArg Stance.presence h
theorem release_of_stance : b.release = a.release := congrArg Stance.release h
theorem lastOutcome_of_stance : b.lastOutcome = a.lastOutcome := congrArg Stance.lastOutcome h
end

theorem scene_of_aside {s t : State} (h : t.aside = s.aside) : t.scene = s.scene := by
  have now : t.now = s.now := now_of_aside h
  have stance : (fun i => (t.bay i).stance) = fun i => (s.bay i).stance := funext fun i => by
    exact congrArg (a₁ := (t.bay i).core) (a₂ := (s.bay i).core) Bay.stance (core_of_aside h i)
  show Scene.mk .. = Scene.mk ..
  rw [now, inlet_of_aside h, power_of_aside h, arb_of_aside h, cust_of_aside h, sess_of_aside h, loopPower_of_aside h,
    rebuild_of_aside h, stance]

@[simp] theorem scene_foldl {α : Type} (f : State → α → State) (l : List α) (s : State)
    (h : ∀ s a, (f s a).scene = s.scene) : (l.foldl f s).scene = s.scene := by
  induction l generalizing s with
  | nil => rfl
  | cons a l ih => rw [List.foldl_cons, ih, h]

/-- A bay changed: the scene follows. -/
theorem scene_modBay (s : State) (i : BayIx) (f : Bay → Bay) :
    (s.modBay i f).scene = s.scene.put i (f (s.bay i)).stance := by
  have stance : (fun j => ((s.modBay i f).bay j).stance) = Function.update s.scene.stance i (f (s.bay i)).stance := by
    funext j
    rw [bay_modBay]
    by_cases e : j = i
    · subst e; simp
    · simp [e, State.scene]
  show Scene.mk .. = Scene.mk ..
  rw [stance]
  rfl

@[simp] theorem scene_modBay_same (s : State) (i : BayIx) (f : Bay → Bay) (h : (f (s.bay i)).stance = (s.bay i).stance) :
    (s.modBay i f).scene = s.scene := by
  rw [scene_modBay, h]
  exact congrArg (fun g => { s.scene with stance := g }) (Function.update_eq_self i s.scene.stance)

@[simp] theorem scene_raise (s : State) (k : NoticeKind) (bay : Option BayIx) (asset : Option AssetId)
    (session : Option Nat) (value : Option Nat) (reason : Option Reason) :
    (s.raise k bay asset session value reason).scene = s.scene := by
  obtain ⟨n, e, -⟩ := raise_spec s k bay asset session value reason
  rw [e]; rfl

@[simp] theorem scene_markPending (s : State) : s.markPending.scene = s.scene := rfl

@[simp] theorem scene_refreshShare (s : State) (i : BayIx) : (s.refreshShare i).scene = s.scene := by
  unfold State.refreshShare
  dsimp only
  split
  · exact scene_modBay_same s i (fun b => { b with share := s.shareNow i }) rfl
  · exact scene_modBay_same s i (fun b => { b with share := s.shareNow i }) rfl

theorem withdraw_scene (s : State) (p : Txn → Bool) : (s.withdraw p).scene = s.scene :=
  scene_of_aside (aside_withdraw s p)

@[simp] theorem scene_stopSeating (s : State) (i : BayIx) : (s.stopSeating i).scene = s.scene := by
  have dropped : (s.dropTag i).scene = s.scene := by
    refine Eq.trans ?_ (withdraw_scene s fun t => match t with | .tag j _ => i = j | _ => false)
    unfold State.dropTag
    dsimp only
    split
    · split
      · split <;> rfl
      · rfl
    · rfl
  exact (scene_modBay_same (s.dropTag i) i _ rfl).trans dropped

@[simp] theorem scene_sayCancelled (s : State) (i : BayIx) (why : Reason) : (s.sayCancelled i why).scene = s.scene :=
  scene_raise ..

/-! ### Custody reached in a drain -/

/-- No session is dispatched outside Serving (R119). -/
theorem dispatch_idle {s : State} (h : s.power.state ≠ .serving) : s.dispatch = s := by
  have none : ∀ c, s.nextFor c = none := fun c => by
    refine List.find?_eq_none.2 fun x _ => ?_
    simp [State.mayGo, h]
  have chan : ∀ c, s.dispatchChan c = s := fun c => by
    unfold State.dispatchChan
    rw [none]
    split <;> rfl
  have : ∀ l : List ChanIx, l.foldl State.dispatchChan s = s := fun l => by
    induction l with
    | nil => rfl
    | cons c l ih => rw [List.foldl_cons, chan, ih]
  exact this _

theorem leaveReady_empty {s : State} (h : s.cust.readySet = []) (i : BayIx) (why : Option Reason) :
    s.leaveReady i why = s := if_neg (by simp [State.member, h])

/-- A custody state reached outside Serving with the ready set empty moves its own bay alone. -/
theorem scene_become {s : State} (serving : s.power.state ≠ .serving) (ready : s.cust.readySet = []) (i : BayIx)
    {c : Custody} (jam : ∀ d o, c ≠ .jammed d o) :
    (s.become i c).scene = s.scene.put i ((s.bay i).stance.reach c) := by
  have left : (if c = .locked then s else s.leaveReady i (some .custody)) = s := by
    split
    · rfl
    · exact leaveReady_empty ready ..
  unfold State.become
  dsimp only
  rw [left]
  have seat := scene_stopSeating s i
  generalize s.stopSeating i = u at seat ⊢
  have put := scene_modBay u i fun b =>
    { b with
      custody := c
      admission := b.admission && !clearsAdmit c
      gone := b.gone && keepsGone c
      release := if clearsRelease c then none else b.release
      assetId := if c = .vacant then none else b.assetId
      standing := if c = .vacant then none else b.standing
      seatDue := if c = .seating then some (u.now + u.cfg .seatSettle * 1000) else none }
  generalize State.modBay u i _ = v at put ⊢
  have put : v.scene = s.scene.put i ((s.bay i).stance.reach c) := by
    rw [put, seat]
    exact congrArg (fun a => s.scene.put i (Stance.reach a c)) (stance_of_scene seat i)
  have serving : v.power.state ≠ .serving := by
    rw [show v.power = s.power from congrArg Scene.power put]; exact serving
  have idle := dispatch_idle serving
  cases c with
  | jammed d o => exact absurd rfl (jam d o)
  | _ =>
    dsimp only
    rw [idle, ite_self]
    exact put

/-! ### One bay's part in a drain -/

/-- The entries of a bay in the actuation queue. -/
def State.entries (s : State) (i : BayIx) : List (BayIx × Dir) := s.arb.queue.filter (·.1 = i)

/-- A step for one bay: it moves that bay's stance and its entries of the actuation queue. -/
def State.OnBay (i : BayIx) (s t : State) : Prop :=
  ∃ q a, t.scene = { s.scene with arb := { s.arb with queue := q } }.put i a ∧
    ∀ j, j ≠ i → q.filter (·.1 = j) = s.entries j

theorem Scene.put_put (s : Scene) (i : BayIx) (a b : Stance) : (s.put i a).put i b = s.put i b := by
  unfold Scene.put
  dsimp only
  rw [Function.update_idem]

theorem State.OnBay.refl (i : BayIx) (s : State) : s.OnBay i s :=
  ⟨s.arb.queue, (s.bay i).stance, congrArg (fun g => { s.scene with stance := g }) (Function.update_eq_self i s.scene.stance).symm,
    fun _ _ => rfl⟩

theorem State.OnBay.trans {i : BayIx} {s t u : State} (h : s.OnBay i t) (h' : t.OnBay i u) : s.OnBay i u := by
  obtain ⟨q, a, e, rest⟩ := h
  obtain ⟨q', a', e', rest'⟩ := h'
  have arb : t.arb = { s.arb with queue := q } := congrArg Scene.arb e
  refine ⟨q', a', ?_, fun j ne => (rest' j ne).trans ?_⟩
  · rw [e', e, arb]
    exact Scene.put_put { s.scene with arb := { s.arb with queue := q' } } i a a'
  · rw [State.entries, arb]
    exact rest j ne

theorem State.OnBay.of_scene {i : BayIx} {s t : State} (h : t.scene = s.scene) : s.OnBay i t := by
  obtain ⟨q, a, e, rest⟩ := State.OnBay.refl i s
  exact ⟨q, a, h.trans e, rest⟩

theorem State.OnBay.put {i : BayIx} {s t : State} {a : Stance} (h : t.scene = s.scene.put i a) : s.OnBay i t :=
  ⟨s.arb.queue, a, h, fun _ _ => rfl⟩

theorem filter_other {q : List (BayIx × Dir)} {i j : BayIx} (h : j ≠ i) :
    (q.filter (·.1 ≠ i)).filter (·.1 = j) = q.filter (·.1 = j) := by
  rw [List.filter_filter]
  refine List.filter_congr fun x _ => ?_
  by_cases e : x.1 = j
  · simp [e, h]
  · simp [e]

theorem onBay_arb {i : BayIx} {s : State} (q : List (BayIx × Dir))
    (h : ∀ j, j ≠ i → q.filter (·.1 = j) = s.entries j) : s.OnBay i { s with arb := { s.arb with queue := q } } :=
  ⟨q, (s.bay i).stance,
    congrArg (fun g => { s.scene with arb := { s.arb with queue := q }, stance := g })
      (Function.update_eq_self i s.scene.stance).symm, h⟩

theorem onBay_dropBolt (i : BayIx) (s : State) : s.OnBay i (s.dropBolt i) := by
  unfold State.dropBolt
  split
  · exact onBay_arb _ fun j ne => filter_other ne
  · exact .refl i s
  · exact .refl i s

theorem onBay_askBolt (i : BayIx) (s : State) (d : Dir) : s.OnBay i (s.askBolt i d) := by
  unfold State.askBolt
  split
  · refine onBay_arb _ fun j ne => ?_
    rw [List.filter_append, List.filter_cons_of_neg (by simpa using ne.symm), List.filter_nil, List.append_nil]
    rfl
  · split
    · exact .refl i s
    · exact onBay_arb _ fun j ne => filter_other ne
  · exact .refl i s

theorem onBay_engageBay (i : BayIx) (s : State) : s.OnBay i (s.engageBay i) := by
  unfold State.engageBay
  split
  · exact (onBay_dropBolt i s).trans (onBay_askBolt i _ _)
  · exact onBay_askBolt i s _

section
variable {i : BayIx} {s t : State} (h : s.OnBay i t)
include h

theorem power_of_onBay : t.power = s.power := by
  obtain ⟨q, a, e, -⟩ := h
  exact (congrArg Scene.power e :)

theorem ready_of_onBay : t.cust.readySet = s.cust.readySet := by
  obtain ⟨q, a, e, -⟩ := h
  exact (congrArg Scene.ready e :)

theorem slots_of_onBay : t.arb.slotA = s.arb.slotA ∧ t.arb.slotB = s.arb.slotB ∧ t.arb.held = s.arb.held := by
  obtain ⟨q, a, e, -⟩ := h
  have arb : t.arb = { s.arb with queue := q } := congrArg Scene.arb e
  rw [arb]
  exact ⟨rfl, rfl, rfl⟩

theorem other_of_onBay {j : BayIx} (ne : j ≠ i) :
    (t.bay j).stance = (s.bay j).stance ∧ t.entries j = s.entries j := by
  obtain ⟨q, a, e, rest⟩ := h
  have arb : t.arb = { s.arb with queue := q } := congrArg Scene.arb e
  have stance : (t.bay j).stance = Function.update s.scene.stance i a j := congrFun (congrArg Scene.stance e) j
  refine ⟨stance.trans (Function.update_of_ne ne _ _), ?_⟩
  rw [State.entries, arb]
  exact rest j ne
end

/-- What two states share that the steps for single bays leave. -/
structure State.SameCase (s t : State) : Prop where
  now : t.now = s.now
  inlet : t.inlet = s.inlet
  power : t.power = s.power
  slotA : t.arb.slotA = s.arb.slotA
  slotB : t.arb.slotB = s.arb.slotB
  held : t.arb.held = s.arb.held
  ready : t.cust.readySet = s.cust.readySet
  active : t.cust.reconActive = s.cust.reconActive
  sess : t.sess = s.sess
  loopPower : t.loop.power = s.loop.power
  rebuild : t.loop.rebuild = s.loop.rebuild

theorem State.SameCase.refl (s : State) : s.SameCase s := ⟨rfl, rfl, rfl, rfl, rfl, rfl, rfl, rfl, rfl, rfl, rfl⟩

theorem State.SameCase.trans {s t u : State} (h : s.SameCase t) (k : t.SameCase u) : s.SameCase u :=
  ⟨k.now.trans h.now, k.inlet.trans h.inlet, k.power.trans h.power, k.slotA.trans h.slotA, k.slotB.trans h.slotB,
    k.held.trans h.held, k.ready.trans h.ready, k.active.trans h.active, k.sess.trans h.sess,
    k.loopPower.trans h.loopPower, k.rebuild.trans h.rebuild⟩

theorem State.OnBay.sameCase {i : BayIx} {s t : State} (h : s.OnBay i t) : s.SameCase t := by
  obtain ⟨q, a, e, -⟩ := h
  have arb : t.arb = { s.arb with queue := q } := congrArg Scene.arb e
  exact ⟨(congrArg Scene.now e :), (congrArg Scene.inlet e :), (congrArg Scene.power e :), by rw [arb], by rw [arb],
    by rw [arb], (congrArg Scene.ready e :), (congrArg Scene.active e :), (congrArg Scene.sess e :),
    (congrArg Scene.loopPower e :), (congrArg Scene.rebuild e :)⟩

/-- What of a bay and its entries two states share. -/
def State.SameAt (s t : State) (j : BayIx) : Prop :=
  (t.bay j).stance = (s.bay j).stance ∧ t.entries j = s.entries j

/-- Steps for the bays of a list, each once, outside Serving with the ready set empty: a bay of the list is moved by its
own step alone, made in a state like the first. -/
theorem foldl_onBay {f : State → BayIx → State}
    (h : ∀ (s : State) i, s.power.state ≠ .serving → s.cust.readySet = [] → s.OnBay i (f s i)) (l : List BayIx) (nodup : l.Nodup)
    (s : State) (serving : s.power.state ≠ .serving) (ready : s.cust.readySet = []) :
    s.SameCase (l.foldl f s) ∧ (∀ j, j ∉ l → s.SameAt (l.foldl f s) j) ∧
      ∀ j ∈ l, ∃ u, s.SameCase u ∧ s.SameAt u j ∧ (f u j).SameAt (l.foldl f s) j := by
  induction l generalizing s with
  | nil => exact ⟨.refl s, fun _ _ => ⟨rfl, rfl⟩, fun j m => absurd m List.not_mem_nil⟩
  | cons i l ih =>
    obtain ⟨out, nodup⟩ := List.nodup_cons.1 nodup
    have step := h s i serving ready
    have case := step.sameCase
    obtain ⟨case', others, mine⟩ := ih nodup (f s i) (by rw [case.power]; exact serving) (case.ready.trans ready)
    rw [List.foldl_cons]
    refine ⟨case.trans case', fun j m => ?_, fun j m => ?_⟩
    · obtain ⟨ne, m⟩ := not_or.1 fun e => m (List.mem_cons.2 e)
      obtain ⟨stance, entries⟩ := other_of_onBay step ne
      obtain ⟨stance', entries'⟩ := others j m
      exact ⟨stance'.trans stance, entries'.trans entries⟩
    · by_cases e : j = i
      · subst e
        exact ⟨s, .refl s, ⟨rfl, rfl⟩, others j out⟩
      · obtain ⟨u, like, at', did⟩ := mine j ((List.mem_cons.1 m).resolve_left e)
        obtain ⟨stance, entries⟩ := other_of_onBay step e
        exact ⟨u, case.trans like, ⟨at'.1.trans stance, at'.2.trans entries⟩, did⟩

end Sys2Proof.Machine


/-! Stages 3 and 4 of a drain (R155), and the sessions that it ends (R129). -/

namespace Sys2Proof.Machine

/-! ### The standing of a bay's pulse (R97) -/

theorem pulseInFlight_iff (s : State) (i : BayIx) :
    s.pulseInFlight i = ((holds s.arb.slotA i).isSome || (holds s.arb.slotB i).isSome) := by
  unfold State.pulseInFlight State.standing
  cases holds s.arb.slotA i <;> cases holds s.arb.slotB i <;> dsimp only
  · cases queuePlace i 1 s.arb.queue <;> rfl
  all_goals rfl

theorem pulseInFlight_of_slots {s t : State} (a : t.arb.slotA = s.arb.slotA) (b : t.arb.slotB = s.arb.slotB) (i : BayIx) :
    t.pulseInFlight i = s.pulseInFlight i := by
  rw [pulseInFlight_iff, pulseInFlight_iff, a, b]

theorem standing_inFlight {s : State} {i : BayIx} (h : s.pulseInFlight i = true) :
    ∃ k p, s.standing i = .inFlight k p := by
  unfold State.pulseInFlight at h
  split at h
  · next k p e => exact ⟨k, p, e⟩
  · exact absurd h (by simp)

theorem queuePlace_empty {i : BayIx} {n : Nat} {q : List (BayIx × Dir)} : queuePlace i n q = none ↔ q.filter (·.1 = i) = [] := by
  induction q generalizing n with
  | nil => simp [queuePlace]
  | cons x q ih =>
    obtain ⟨b, d⟩ := x
    by_cases e : b = i
    · simp [queuePlace, e]
    · simp [queuePlace, e, ih]

theorem queuePlace_mem {i : BayIx} {n m : Nat} {d : Dir} {q : List (BayIx × Dir)} (h : queuePlace i n q = some (d, m)) :
    (i, d) ∈ q := by
  induction q generalizing n with
  | nil => exact absurd h (by simp [queuePlace])
  | cons x q ih =>
    obtain ⟨b, d'⟩ := x
    by_cases e : b = i
    · simp only [queuePlace, e, if_true, Option.some.injEq, Prod.mk.injEq] at h
      exact List.mem_cons.2 (.inl (by rw [e, h.1]))
    · simp only [queuePlace, e, if_false] at h
      exact List.mem_cons_of_mem _ (ih h)

theorem standing_out {s : State} {i : BayIx} (h : s.pulseInFlight i = false) :
    (queuePlace i 1 s.arb.queue = none → s.standing i = .none) ∧
      ∀ d n, queuePlace i 1 s.arb.queue = some (d, n) → s.standing i = .queued d n := by
  rw [pulseInFlight_iff, Bool.or_eq_false_iff, Option.isSome_eq_false_iff, Option.isSome_eq_false_iff,
    Option.isNone_iff_eq_none, Option.isNone_iff_eq_none] at h
  obtain ⟨a, b⟩ := h
  exact ⟨fun e => by simp [State.standing, a, b, e], fun d n e => by simp [State.standing, a, b, e]⟩

theorem standing_empty {s : State} {i : BayIx} (out : s.pulseInFlight i = false) (empty : s.entries i = []) :
    s.standing i = .none :=
  (standing_out out).1 (queuePlace_empty.2 empty)

theorem standing_queued {s : State} {i : BayIx} (out : s.pulseInFlight i = false) (queued : s.entries i ≠ []) :
    ∃ d n, s.standing i = .queued d n ∧ (i, d) ∈ s.arb.queue := by
  cases e : queuePlace i 1 s.arb.queue with
  | none => exact absurd (queuePlace_empty.1 e) queued
  | some x => exact ⟨x.1, x.2, (standing_out out).2 x.1 x.2 e, queuePlace_mem e⟩

theorem entries_mem {s : State} {i : BayIx} {d : Dir} : (i, d) ∈ s.entries i ↔ (i, d) ∈ s.arb.queue := by
  simp [State.entries]

/-- An entry withdrawn: none is left for its bay (R99). -/
theorem entries_dropBolt {s : State} {i : BayIx} (out : s.pulseInFlight i = false) : (s.dropBolt i).entries i = [] := by
  have gone : ∀ q : List (BayIx × Dir), (q.filter (·.1 ≠ i)).filter (·.1 = i) = [] := fun q => by
    rw [List.filter_filter]
    exact List.filter_eq_nil_iff.2 fun x _ => by simp
  by_cases queued : s.entries i = []
  · rw [State.dropBolt, standing_empty out queued]
    exact queued
  · obtain ⟨d, n, e, -⟩ := standing_queued out queued
    rw [State.dropBolt, e]
    exact gone _

/-- An engage asked for a bay that has none stands (R98, L44). -/
theorem engageBay_stands (s : State) (i : BayIx) :
    (i, Dir.engage) ∈ (s.engageBay i).arb.queue ∨ (s.engageBay i).pulseInFlight i = true := by
  have asked : ∀ u : State, u.standing i = .none → (i, Dir.engage) ∈ (u.askBolt i .engage).arb.queue := fun u e => by
    rw [State.askBolt, e]
    exact List.mem_append_right _ (List.mem_singleton.2 rfl)
  cases out : s.pulseInFlight i with
  | true =>
    obtain ⟨k, p, e⟩ := standing_inFlight out
    have same : s.engageBay i = s := by rw [State.engageBay, e]; dsimp only; rw [State.askBolt, e]
    rw [same]
    exact .inr out
  | false =>
    by_cases queued : s.entries i = []
    · have e := standing_empty out queued
      have same : s.engageBay i = s.askBolt i .engage := by rw [State.engageBay, e]
      rw [same]
      exact .inl (asked s e)
    · obtain ⟨d, n, e, mem⟩ := standing_queued out queued
      cases d with
      | retract =>
        have same : s.engageBay i = (s.dropBolt i).askBolt i .engage := by rw [State.engageBay, e]
        rw [same]
        have drop := (onBay_dropBolt i s).sameCase
        exact .inl (asked _ (standing_empty ((pulseInFlight_of_slots drop.slotA drop.slotB i).trans out) (entries_dropBolt out)))
      | engage =>
        have same : s.engageBay i = s := by rw [State.engageBay, e]; dsimp only; rw [State.askBolt, e]; simp
        rw [same]
        exact .inl mem

/-! ### Stage 3 (R155) -/

theorem stance_of_put {t : State} {x : Scene} {i : BayIx} {a : Stance} (h : t.scene = x.put i a) : (t.bay i).stance = a :=
  (congrFun (congrArg Scene.stance h) i).trans (by simp [Scene.put])

theorem dropBolt_stance (s : State) (i j : BayIx) : ((s.dropBolt i).bay j).stance = (s.bay j).stance := by
  unfold State.dropBolt
  split <;> rfl

theorem askBolt_stance (s : State) (i j : BayIx) (d : Dir) : ((s.askBolt i d).bay j).stance = (s.bay j).stance := by
  unfold State.askBolt
  split
  · rfl
  · split <;> rfl
  · rfl

theorem engageBay_stance (s : State) (i j : BayIx) : ((s.engageBay i).bay j).stance = (s.bay j).stance := by
  unfold State.engageBay
  split
  · exact (askBolt_stance ..).trans (dropBolt_stance ..)
  · exact askBolt_stance ..

section
variable {s : State} (serving : s.power.state ≠ .serving) (ready : s.cust.readySet = []) (i : BayIx) (why : Reason)
include serving ready

theorem onBay_become {c : Custody} (jam : ∀ d o, c ≠ .jammed d o) : s.OnBay i (s.become i c) :=
  .put (scene_become serving ready i jam)

theorem onBay_secureBay : s.OnBay i (s.secureBay i) :=
  (onBay_become serving ready i (by simp)).trans (onBay_engageBay i _)

theorem onBay_drainReleasing : s.OnBay i (s.drainReleasing i why) := by
  unfold State.drainReleasing
  split
  · have drop := onBay_dropBolt i s
    exact (drop.trans (onBay_become (by rw [power_of_onBay drop]; exact serving) ((ready_of_onBay drop).trans ready) i
      (by simp))).trans (.of_scene (scene_sayCancelled ..))
  · exact .refl i s
  · exact .refl i s

/-- A Releasing bay whose retract is queued becomes Locked, with no record and no entry. -/
theorem drainReleasing_queued (out : s.pulseInFlight i = false) (queued : s.entries i ≠ []) :
    ((s.drainReleasing i why).bay i).stance = (s.bay i).stance.reach .locked ∧
      (s.drainReleasing i why).entries i = [] := by
  obtain ⟨d, n, e, -⟩ := standing_queued out queued
  have drop := onBay_dropBolt i s
  have gone := entries_dropBolt out
  have become := scene_become (by rw [power_of_onBay drop]; exact serving) ((ready_of_onBay drop).trans ready) i
    (c := .locked) (by simp)
  have said := scene_sayCancelled ((s.dropBolt i).become i .locked) i why
  rw [State.drainReleasing, e]
  have stance := dropBolt_stance s i i
  generalize s.dropBolt i = u at *
  generalize u.become i .locked = v at *
  generalize v.sayCancelled i why = w at *
  dsimp only
  have arb : w.arb = u.arb := congrArg Scene.arb (said.trans become)
  refine ⟨(stance_of_put (said.trans become)).trans (by rw [stance]), ?_⟩
  rw [State.entries, arb]
  exact gone
end

theorem drainReleasing_out {s : State} {i : BayIx} {why : Reason} (h : s.pulseInFlight i = true) :
    s.drainReleasing i why = s := by
  obtain ⟨k, p, e⟩ := standing_inFlight h
  rw [State.drainReleasing, e]

/-! ### Stage 4 (R155) -/

section
variable {s : State} (serving : s.power.state ≠ .serving) (ready : s.cust.readySet = []) (i : BayIx) (why : Reason)
include serving ready

/-- The part of stage 4 for a Released bay whose tablet is present. -/
theorem onBay_drainReleased : s.OnBay i (s.drainReleased i why) := by
  unfold State.drainReleased
  split
  · have aside : s.OnBay i (s.modBay i fun b => { b with release := b.release.map fun r => r.putAside s.now }) :=
      .put (scene_modBay ..)
    exact (aside.trans (onBay_secureBay (by rw [power_of_onBay aside]; exact serving)
      ((ready_of_onBay aside).trans ready) i)).trans (.of_scene (scene_sayCancelled ..))
  · exact .put (scene_modBay ..)

theorem drainReleased_open (here : (s.bay i).link = .linked ∧ (s.bay i).presence = some true) :
    ((s.drainReleased i why).bay i).stance =
        Stance.reach { (s.bay i).stance with release := (s.bay i).release.map (·.putAside s.now) } .securing ∧
      ((i, Dir.engage) ∈ (s.drainReleased i why).arb.queue ∨ (s.drainReleased i why).pulseInFlight i = true) := by
  have aside := scene_modBay s i fun b => { b with release := b.release.map fun r => r.putAside s.now }
  have e : s.drainReleased i why =
      ((s.modBay i fun b => { b with release := b.release.map fun r => r.putAside s.now }).secureBay i).sayCancelled i why :=
    if_pos here
  rw [e]
  generalize s.modBay i _ = u at aside ⊢
  have powers : u.power = s.power := congrArg Scene.power aside
  have become := scene_become (by rw [powers]; exact serving) ((congrArg Scene.ready aside :).trans ready) i
    (c := .securing) (by simp)
  have stands := engageBay_stands (u.become i .securing) i
  have same := engageBay_stance (u.become i .securing) i i
  have said := scene_sayCancelled ((u.become i .securing).engageBay i) i why
  unfold State.secureBay
  generalize u.become i .securing = v at *
  generalize v.engageBay i = w at *
  generalize w.sayCancelled i why = x at *
  have stance : (x.bay i).stance = (u.bay i).stance.reach .securing :=
    (stance_of_scene said i).trans (same.trans (stance_of_put become))
  have arb : x.arb = w.arb := arb_of_scene said
  rw [arb, pulseInFlight_of_slots (congrArg Arbiter.slotA arb) (congrArg Arbiter.slotB arb)]
  exact ⟨stance.trans (congrArg (Stance.reach · .securing) (stance_of_put aside)), stands⟩

end

theorem drainReleased_shut {s : State} (i : BayIx) (why : Reason)
    (away : ¬ ((s.bay i).link = .linked ∧ (s.bay i).presence = some true)) :
    ((s.drainReleased i why).bay i).stance =
        { (s.bay i).stance with release := (s.bay i).release.map (·.shelve s.now) } ∧
      (s.drainReleased i why).entries i = s.entries i := by
  have e : s.drainReleased i why = s.modBay i fun b => { b with release := b.release.map fun r => r.shelve s.now } :=
    if_neg away
  rw [e, bay_modBay_self]
  exact ⟨rfl, rfl⟩

end Sys2Proof.Machine


/-! A drain begun outside Serving (R129, R154, R155). -/

namespace Sys2Proof.Machine

/-! ### Stages 1 and 2 (R90, R92, R155) -/

theorem scene_emptyReady (s : State) (why : Reason) : (s.emptyReady why).scene = { s.scene with ready := [] } := by
  unfold State.emptyReady
  split
  · next e =>
    show _ = { s.scene with ready := [] }
    rw [← e]
    rfl
  · next i rest e =>
    refine (scene_foldl _ _ _ scene_refreshShare).trans ((scene_raise ..).trans ?_)
    rfl

theorem foldl_stopWindow (s : State) : allBays.foldl State.stopWindow s = s.modBays fun _ b => b.halt s.now := by
  suffices h : ∀ (l : List BayIx) (u : State), u.now = s.now →
      l.foldl State.stopWindow u = l.foldl (fun u i => u.modBay i fun b => b.halt s.now) u from h _ s rfl
  intro l
  induction l with
  | nil => intro u _; rfl
  | cons i l ih =>
    intro u now
    have step : u.stopWindow i = u.modBay i fun b => b.halt s.now := by rw [State.stopWindow, now]
    rw [List.foldl_cons, List.foldl_cons, step]
    exact ih _ now

/-- A bay's window stopped. -/
def Stance.halt (a : Stance) (now : Nat) : Stance := { a with release := a.release.map fun r => r.halt now }

theorem scene_stopWindows (s : State) : (allBays.foldl State.stopWindow s).scene =
    { s.scene with stance := fun i => (s.bay i).stance.halt s.now } := by
  have bays : (fun i => ((s.modBays fun _ b => b.halt s.now).bay i).stance) = fun i => (s.bay i).stance.halt s.now := by
    funext i
    rw [bay_modBays]
    rfl
  rw [foldl_stopWindow]
  unfold State.scene
  rw [bays, modBays_now, modBays_inlet, modBays_power, modBays_arb, modBays_cust, modBays_sess, modBays_loop]

/-! ### Sessions ended (R126, R129) -/

/-- What a session that leaves the queue outside Serving moves: the sessions, and the outcome of its bay. -/
theorem scene_endSession {s : State} (serving : s.power.state ≠ .serving) {id : Nat} {x : Session}
    (here : s.session? id = some x) (o : SessOutcome) :
    (s.endSession id o).scene = { s.scene with sess := (s.leaveQueue x).sess }.put x.bay
      { (s.bay x.bay).stance with lastOutcome := some (o, id) } := by
  have left : (s.leaveQueue x).scene = { s.scene with sess := (s.leaveQueue x).sess } := by
    unfold State.leaveQueue
    split <;> rfl
  unfold State.endSession
  rw [here]
  dsimp only
  unfold State.endSessionAs
  rw [here]
  dsimp only
  generalize s.leaveQueue x = u at left ⊢
  have put := scene_modBay u x.bay fun b => { b with lastOutcome := some (o, id) }
  generalize State.modBay u x.bay _ = v at put ⊢
  have said := scene_raise v .sessionEnded (some x.bay) (s.bay x.bay).assetId (some id)
    (some (match x.channel with | some c => c.1 + 1 | none => 0)) (some (.outcome o))
  generalize State.raise v _ _ _ _ _ _ = w at said ⊢
  have shared : (if x.state = .queued then w else w.refreshShare x.bay).scene = w.scene := by
    split
    · rfl
    · exact scene_refreshShare ..
  generalize (if x.state = .queued then w else w.refreshShare x.bay) = y at shared ⊢
  have stance : (u.bay x.bay).stance = (s.bay x.bay).stance := congrFun (congrArg Scene.stance left) x.bay
  have scene : y.scene = { s.scene with sess := u.sess }.put x.bay
      { (s.bay x.bay).stance with lastOutcome := some (o, id) } := by
    rw [shared, said, put, left, ← stance]
    rfl
  have idle : y.dispatch = y := dispatch_idle (by
    rw [show y.power = s.power from congrArg Scene.power scene]; exact serving)
  unfold State.channelFreed
  rw [idle]
  split
  · rw [ite_self]; exact scene
  · exact scene

theorem endSession_gone {s : State} {id : Nat} (gone : s.session? id = none) (o : SessOutcome) : s.endSession id o = s := by
  unfold State.endSession
  rw [gone]

theorem leaveQueue_queue (s : State) (x : Session) :
    (s.leaveQueue x).sess.queue = s.sess.queue.filter fun y => y.id ≠ x.id := by
  unfold State.leaveQueue
  split <;> rfl

theorem session?_id {s : State} {id : Nat} {x : Session} (h : s.session? id = some x) : x.id = id := by
  unfold State.session? at h
  exact of_decide_eq_true (List.find?_some (p := fun y : Session => decide (y.id = id)) h)

/-- What the ends of the sessions of these identifiers leave, outside Serving. -/
structure State.SessionsEnded (s t : State) (ids : List Nat) (o : SessOutcome) : Prop where
  scene : ∃ outcome : BayIx → Option (SessOutcome × Nat), t.scene = { s.scene with
    sess := t.sess, stance := fun i => { (s.bay i).stance with lastOutcome := outcome i } }
  queue : t.sess.queue = s.sess.queue.filter fun y => y.id ∉ ids
  told : (s.sess.queue.map (·.id)).Nodup → (s.sess.queue.map (·.bay)).Nodup →
    ∀ x ∈ s.sess.queue, x.id ∈ ids → (t.bay x.bay).lastOutcome = some (o, x.id)
  untold : ∀ i, (∀ x ∈ s.sess.queue, x.id ∈ ids → x.bay ≠ i) → (t.bay i).lastOutcome = (s.bay i).lastOutcome

theorem State.SessionsEnded.nil (s : State) (o : SessOutcome) : s.SessionsEnded s [] o where
  scene := ⟨fun i => (s.bay i).lastOutcome, rfl⟩
  queue := by simp
  told _ _ x _ m := absurd m List.not_mem_nil
  untold _ _ := rfl

/-- One session ended. -/
theorem sessionsEnded_one {s : State} (serving : s.power.state ≠ .serving) (id : Nat) (o : SessOutcome) :
    s.SessionsEnded (s.endSession id o) [id] o := by
  cases here : s.session? id with
  | none =>
    have all : ∀ y ∈ s.sess.queue, y.id ≠ id := fun y m => by
      simpa using List.find?_eq_none.1 (show s.sess.queue.find? (·.id = id) = none from here) y m
    rw [endSession_gone here]
    refine ⟨⟨fun i => (s.bay i).lastOutcome, rfl⟩, ?_, fun _ _ x m e => absurd (List.mem_singleton.1 e) (all x m),
      fun _ _ => rfl⟩
    exact (List.filter_eq_self.2 fun y m => by simpa using all y m).symm
  | some x =>
    have scene := scene_endSession serving here o
    have queue := leaveQueue_queue s x
    have same := session?_id here
    have sess : (s.endSession id o).sess = (s.leaveQueue x).sess := congrArg Scene.sess scene
    have outcome : ∀ i, ((s.endSession id o).bay i).lastOutcome =
        if i = x.bay then some (o, id) else (s.bay i).lastOutcome := fun i => by
      have stance : ((s.endSession id o).bay i).stance = _ := congrFun (congrArg Scene.stance scene) i
      refine (congrArg Stance.lastOutcome stance).trans ?_
      unfold Scene.put
      by_cases e : i = x.bay
      · subst e; simp
      · simp [e]; rfl
    refine ⟨⟨fun i => if i = x.bay then some (o, id) else (s.bay i).lastOutcome, ?_⟩, ?_, fun ids bays y m e => ?_,
      fun i away => ?_⟩
    · rw [scene, sess]
      unfold Scene.put
      congr 1
      funext i
      by_cases e : i = x.bay
      · subst e; simp
      · simp [e]; rfl
    · rw [sess, queue, same]
      simp
    · have e : y.id = x.id := (List.mem_singleton.1 e).trans same.symm
      have yx : y = x := List.inj_on_of_nodup_map ids m (session?_mem here) e
      rw [outcome, yx, if_pos rfl, same]
    · rw [outcome]
      exact if_neg fun e => away x (session?_mem here) (List.mem_singleton.2 same) e.symm

theorem State.SessionsEnded.power {s t : State} {ids : List Nat} {o : SessOutcome} (h : s.SessionsEnded t ids o) :
    t.power = s.power := by
  obtain ⟨outcome, e⟩ := h.scene
  exact (congrArg Scene.power e :)

/-- A session ended, and then others. -/
theorem State.SessionsEnded.cons {s t u : State} {id : Nat} {ids : List Nat} {o : SessOutcome}
    (h : s.SessionsEnded t [id] o) (h' : t.SessionsEnded u ids o) : s.SessionsEnded u (id :: ids) o := by
  have stays : ∀ y, y ∈ t.sess.queue ↔ y ∈ s.sess.queue ∧ y.id ≠ id := fun y => by
    rw [h.queue]; simp
  refine ⟨?_, ?_, fun once bays x m e => ?_, fun i away => ?_⟩
  · obtain ⟨outcome, e⟩ := h.scene
    obtain ⟨outcome', e'⟩ := h'.scene
    refine ⟨outcome', ?_⟩
    have stance : ∀ i, (t.bay i).stance = { (s.bay i).stance with lastOutcome := outcome i } := fun i =>
      congrFun (congrArg Scene.stance e) i
    rw [e', e]
    simp only [stance]
  · rw [h'.queue, h.queue, List.filter_filter]
    refine List.filter_congr fun y _ => ?_
    simp [Bool.and_comm]
  · have part : t.sess.queue.Sublist s.sess.queue := by rw [h.queue]; exact List.filter_sublist
    by_cases same : x.id = id
    · have first := h.told once bays x m (List.mem_singleton.2 same)
      refine (h'.untold x.bay fun y my _ e => ?_).trans first
      obtain ⟨my, ne⟩ := (stays y).1 my
      exact ne ((List.inj_on_of_nodup_map bays my m e) ▸ same)
    · exact h'.told (once.sublist (part.map _)) (bays.sublist (part.map _)) x ((stays x).2 ⟨m, same⟩)
        ((List.mem_cons.1 e).resolve_left same)
  · have first := h.untold i fun x m e => away x m (List.mem_cons.2 (.inl (List.mem_singleton.1 e)))
    exact (h'.untold i fun x m e => away x ((stays x).1 m).1 (List.mem_cons_of_mem _ e)).trans first

theorem sessionsEnded_foldl (o : SessOutcome) (ids : List Nat) (s : State) (serving : s.power.state ≠ .serving) :
    s.SessionsEnded (ids.foldl (fun s id => s.endSession id o) s) ids o := by
  induction ids generalizing s with
  | nil => exact .nil s o
  | cons id ids ih =>
    have one := sessionsEnded_one serving id o
    exact one.cons (ih _ (by rw [one.power]; exact serving))

/-! ### The four stages (R155) -/

/-- The window a drain of kind Cart leaves of a record, stopped (L22). -/
theorem shelve_halt (r : Release) (now : Nat) : (r.halt now).shelve now = r.shelve now := by
  unfold Release.halt Release.shelve WindowClock.halt
  cases r.window <;> rfl

/-- What stages 1 to 4 leave of one bay. -/
structure State.StagesAt (s t : State) (i : BayIx) : Prop where
  releasingOut : (s.bay i).custody = .releasing → s.pulseInFlight i = true → (t.bay i).custody = .releasing
  releasingQueued : (s.bay i).custody = .releasing → s.pulseInFlight i = false → s.entries i ≠ [] →
    (t.bay i).custody = .locked ∧ (t.bay i).release = none ∧ t.entries i = []
  releasedOpen : (s.bay i).custody = .released → (s.bay i).link = .linked ∧ (s.bay i).presence = some true →
    (t.bay i).custody = .securing ∧ (t.bay i).release = (s.bay i).release.map (·.putAside s.now) ∧
      ((i, Dir.engage) ∈ t.arb.queue ∨ t.pulseInFlight i = true)
  releasedShut : (s.bay i).custody = .released → ¬ ((s.bay i).link = .linked ∧ (s.bay i).presence = some true) →
    (t.bay i).custody = .released ∧ (t.bay i).release = (s.bay i).release.map (·.shelve s.now)
  noEntry : s.entries i = [] → s.pulseInFlight i = false →
    ((s.bay i).custody = .released → ¬ ((s.bay i).link = .linked ∧ (s.bay i).presence = some true)) → t.entries i = []

/-- Stages 3 and 4, for every bay. -/
def State.stages34 (s : State) (why : Reason) : State :=
  let s := (allBays.filter fun i => (s.bay i).custody = .releasing).foldl (fun s i => s.drainReleasing i why) s
  (allBays.filter fun i => (s.bay i).custody = .released).foldl (fun s i => s.drainReleased i why) s

theorem mem_ofCustody {s : State} {c : Custody} {i : BayIx} :
    i ∈ (allBays.filter fun i => (s.bay i).custody = c) ↔ (s.bay i).custody = c := by
  simp [mem_allBays]

/-- A bay that no stage is for. -/
theorem State.StagesAt.same {s t : State} {i : BayIx} (h : s.SameAt t i) (releasing : (s.bay i).custody ≠ .releasing)
    (released : (s.bay i).custody ≠ .released) : s.StagesAt t i where
  releasingOut e := absurd e releasing
  releasingQueued e := absurd e releasing
  releasedOpen e := absurd e released
  releasedShut e := absurd e released
  noEntry e _ _ := h.2.trans e

/-- A Releasing bay, which stage 3 is for. -/
theorem stagesAt_releasing {s t : State} {i : BayIx} {why : Reason} (serving : s.power.state ≠ .serving)
    (ready : s.cust.readySet = []) (custody : (s.bay i).custody = .releasing)
    (h : (s.drainReleasing i why).SameAt t i) : s.StagesAt t i ∧ (t.bay i).custody ≠ .released := by
  obtain ⟨stance, entries⟩ := h
  cases out : s.pulseInFlight i with
  | true =>
    rw [drainReleasing_out out] at stance entries
    have same := (custody_of_stance stance).trans custody
    exact ⟨⟨fun _ _ => same, fun _ e => absurd (out.symm.trans e) (by simp),
      fun e => absurd (custody.symm.trans e) (by simp), fun e => absurd (custody.symm.trans e) (by simp),
      fun e _ _ => entries.trans e⟩, by rw [same]; simp⟩
  | false =>
    have none : s.pulseInFlight i ≠ true := by simp [out]
    by_cases queued : s.entries i = []
    · have e : s.drainReleasing i why = s := by rw [State.drainReleasing, standing_empty out queued]
      rw [e] at stance entries
      have same := (custody_of_stance stance).trans custody
      exact ⟨⟨fun _ e => absurd e none, fun _ _ e => absurd queued e,
        fun e => absurd (custody.symm.trans e) (by simp), fun e => absurd (custody.symm.trans e) (by simp),
        fun e _ _ => entries.trans e⟩, by rw [same]; simp⟩
    · obtain ⟨stance', entries'⟩ := drainReleasing_queued serving ready i why out queued
      have locked : (t.bay i).stance = (s.bay i).stance.reach .locked := stance.trans stance'
      have custody' : (t.bay i).custody = .locked := congrArg Stance.custody locked
      exact ⟨⟨fun _ e => absurd e none,
        fun _ _ _ => ⟨custody', congrArg Stance.release locked, entries.trans entries'⟩,
        fun e => absurd (custody.symm.trans e) (by simp), fun e => absurd (custody.symm.trans e) (by simp),
        fun e => absurd e queued⟩, by rw [custody']; simp⟩

/-- A Released bay, which stage 4 is for. -/
theorem stagesAt_released {s t : State} {i : BayIx} {why : Reason} (serving : s.power.state ≠ .serving)
    (ready : s.cust.readySet = []) (custody : (s.bay i).custody = .released)
    (h : (s.drainReleased i why).SameAt t i) (case : (s.drainReleased i why).SameCase t) : s.StagesAt t i := by
  obtain ⟨stance, entries⟩ := h
  have other : (s.bay i).custody ≠ .releasing := by rw [custody]; simp
  by_cases here : (s.bay i).link = .linked ∧ (s.bay i).presence = some true
  · obtain ⟨stance', stands⟩ := drainReleased_open serving ready i why here
    have secured := stance.trans stance'
    refine ⟨fun e => absurd e other, fun e => absurd e other,
      fun _ _ => ⟨congrArg Stance.custody secured, congrArg Stance.release secured, ?_⟩, fun _ e => absurd here e,
      fun _ _ e => absurd here (e custody)⟩
    rw [pulseInFlight_of_slots case.slotA case.slotB, ← entries_mem, entries, entries_mem]
    exact stands
  · obtain ⟨stance', entries'⟩ := drainReleased_shut i why here
    have shut := stance.trans stance'
    exact ⟨fun e => absurd e other, fun e => absurd e other,
      fun _ e => absurd e here, fun _ _ => ⟨(congrArg Stance.custody shut).trans custody, congrArg Stance.release shut⟩,
      fun e _ _ => (entries.trans entries').trans e⟩

theorem State.SameCase.symm {s t : State} (h : s.SameCase t) : t.SameCase s :=
  ⟨h.now.symm, h.inlet.symm, h.power.symm, h.slotA.symm, h.slotB.symm, h.held.symm, h.ready.symm, h.active.symm,
    h.sess.symm, h.loopPower.symm, h.rebuild.symm⟩

/-- The stages read of a bay what two states share. -/
theorem State.StagesAt.of_like {s u t : State} {i : BayIx} (h : u.StagesAt t i)
    (custody : (u.bay i).custody = (s.bay i).custody) (link : (u.bay i).link = (s.bay i).link)
    (presence : (u.bay i).presence = (s.bay i).presence)
    (entries : u.entries i = s.entries i)
    (flight : u.pulseInFlight i = s.pulseInFlight i)
    (aside : (u.bay i).release.map (·.putAside u.now) = (s.bay i).release.map (·.putAside s.now))
    (shelved : (u.bay i).release.map (·.shelve u.now) = (s.bay i).release.map (·.shelve s.now)) : s.StagesAt t i := by
  obtain ⟨out, queued, opened, shut, empty⟩ := h
  rw [custody] at out queued opened shut empty
  rw [link, presence] at opened shut empty
  rw [entries] at queued empty
  rw [flight] at out queued empty
  rw [aside] at opened
  rw [shelved] at shut
  exact ⟨out, queued, opened, shut, empty⟩

theorem State.StagesAt.of_same {s u t : State} {i : BayIx} (case : s.SameCase u) (like : s.SameAt u i)
    (h : u.StagesAt t i) : s.StagesAt t i := by
  obtain ⟨stance, entries⟩ := like
  have release := release_of_stance stance
  exact h.of_like (custody_of_stance stance) (link_of_stance stance) (presence_of_stance stance)
    entries (pulseInFlight_of_slots case.slotA case.slotB i)
    (by rw [release, case.now]) (by rw [release, case.now])

/-- Stages 3 and 4 outside Serving with the ready set empty. -/
theorem stages34_spec (s : State) (why : Reason) (serving : s.power.state ≠ .serving) (ready : s.cust.readySet = []) :
    s.SameCase (s.stages34 why) ∧ ∀ i, s.StagesAt (s.stages34 why) i := by
  obtain ⟨case, others, mine⟩ := foldl_onBay (f := fun s i => s.drainReleasing i why)
    (fun s i serving ready => onBay_drainReleasing serving ready i why)
    (allBays.filter fun i => (s.bay i).custody = .releasing) (allBays_nodup.filter _) s serving ready
  unfold State.stages34
  dsimp only
  generalize List.foldl _ s _ = w at case others mine ⊢
  obtain ⟨case', others', mine'⟩ := foldl_onBay (f := fun s i => s.drainReleased i why)
    (fun s i serving ready => onBay_drainReleased serving ready i why)
    (allBays.filter fun i => (w.bay i).custody = .released) (allBays_nodup.filter _) w
    (by rw [case.power]; exact serving) (case.ready.trans ready)
  have step := fun (u : State) (j : BayIx) (h : w.SameCase u) => (onBay_drainReleased
    (by rw [h.power, case.power]; exact serving) (h.ready.trans (case.ready.trans ready)) j why).sameCase (s := u)
  generalize List.foldl _ w _ = x at case' others' mine' ⊢
  refine ⟨case.trans case', fun i => ?_⟩
  by_cases releasing : (s.bay i).custody = .releasing
  · obtain ⟨u, like, at', did⟩ := mine i (mem_ofCustody.2 releasing)
    have after : ∀ t, (u.drainReleasing i why).SameAt t i → s.StagesAt t i ∧ (t.bay i).custody ≠ .released := fun t h => by
      obtain ⟨stages, out⟩ := stagesAt_releasing (by rw [like.power]; exact serving) (like.ready.trans ready)
        ((custody_of_stance at'.1).trans releasing) h
      exact ⟨.of_same like at' stages, out⟩
    obtain ⟨stance, entries⟩ := others' i fun m => (after w did).2 (mem_ofCustody.1 m)
    exact (after x ⟨stance.trans did.1, entries.trans did.2⟩).1
  · obtain same := others i fun m => releasing (mem_ofCustody.1 m)
    by_cases released : (s.bay i).custody = .released
    · have custody := (custody_of_stance same.1).trans released
      obtain ⟨u, like, at', did⟩ := mine' i (mem_ofCustody.2 custody)
      have stages := stagesAt_released (by rw [like.power, case.power]; exact serving)
        (like.ready.trans (case.ready.trans ready)) ((custody_of_stance at'.1).trans custody) did
        ((step u i like).symm.trans (like.symm.trans case'))
      exact .of_same case same (.of_same like at' stages)
    · obtain ⟨stance, entries⟩ := others' i fun m => released (custody_of_stance same.1 ▸ mem_ofCustody.1 m)
      exact .same ⟨stance.trans same.1, entries.trans same.2⟩ releasing released

end Sys2Proof.Machine


/-! The ride-through expiry (O14). -/

namespace Sys2Proof.Machine

/-! ### The last outcomes of the bays (R126) -/

/-- The last session outcome of every bay. -/
def State.outcomes (s : State) : BayIx → Option (SessOutcome × Nat) := fun i => (s.bay i).lastOutcome

theorem outcomes_of_scene {s t : State} (h : t.scene = s.scene) : t.outcomes = s.outcomes :=
  funext fun i => lastOutcome_of_stance (stance_of_scene h i)

@[simp] theorem outcomes_modBay (s : State) (i : BayIx) (f : Bay → Bay)
    (h : (f (s.bay i)).lastOutcome = (s.bay i).lastOutcome) : (s.modBay i f).outcomes = s.outcomes := by
  funext j
  unfold State.outcomes
  rw [bay_modBay]
  split
  · next e => subst e; exact h
  · rfl

@[simp] theorem outcomes_foldl {α : Type} (f : State → α → State) (l : List α) (s : State)
    (h : ∀ s a, (f s a).outcomes = s.outcomes) : (l.foldl f s).outcomes = s.outcomes := by
  induction l generalizing s with
  | nil => rfl
  | cons a l ih => rw [List.foldl_cons, ih, h]

theorem outcomes_shared {s t : State} (h : s.Shared t) : t.outcomes = s.outcomes := by
  obtain ⟨sess, round, bays, -, share⟩ := h
  funext i
  obtain ⟨n, e⟩ := share i
  unfold State.outcomes
  rw [e]

@[simp] theorem outcomes_leaveReady (s : State) (i : BayIx) (why : Option Reason) :
    (s.leaveReady i why).outcomes = s.outcomes := by
  obtain ⟨-, -, -, -, bays⟩ := leaveReady_rest s i why
  funext j
  obtain ⟨n, e⟩ := bays j
  unfold State.outcomes
  rw [e]

@[simp] theorem outcomes_become (s : State) (i : BayIx) (c : Custody) : (s.become i c).outcomes = s.outcomes := by
  unfold State.become
  dsimp only
  have left : (if c = .locked then s else s.leaveReady i (some .custody)).outcomes = s.outcomes := by
    split
    · rfl
    · exact outcomes_leaveReady ..
  generalize (if c = .locked then s else s.leaveReady i (some .custody)) = u at left ⊢
  have seat := outcomes_of_scene (scene_stopSeating u i)
  generalize u.stopSeating i = v at seat ⊢
  rw [← left, ← seat]
  have put := fun f h => outcomes_modBay v i f h
  cases c with
  | jammed d o =>
    rw [if_neg (by simp)]
    refine (outcomes_modBay _ _ _ rfl).trans (put _ rfl)
  | locked =>
    dsimp only
    split
    · exact (outcomes_shared (shared_dispatch _)).trans (put _ rfl)
    · exact put _ rfl
  | _ =>
    rw [if_neg (by simp)]
    exact put _ rfl

@[simp] theorem outcomes_askBolt (s : State) (i : BayIx) (d : Dir) : (s.askBolt i d).outcomes = s.outcomes :=
  funext fun j => lastOutcome_of_stance (askBolt_stance s i j d)

@[simp] theorem outcomes_engageBay (s : State) (i : BayIx) : (s.engageBay i).outcomes = s.outcomes :=
  funext fun j => lastOutcome_of_stance (engageBay_stance s i j)

@[simp] theorem outcomes_dropBolt (s : State) (i : BayIx) : (s.dropBolt i).outcomes = s.outcomes :=
  funext fun j => lastOutcome_of_stance (dropBolt_stance s i j)

@[simp] theorem outcomes_sayCancelled (s : State) (i : BayIx) (why : Reason) :
    (s.sayCancelled i why).outcomes = s.outcomes := outcomes_of_scene (scene_sayCancelled ..)

theorem outcomes_stages34 (s : State) (why : Reason) : (s.stages34 why).outcomes = s.outcomes := by
  have releasing : ∀ (s : State) i, (s.drainReleasing i why).outcomes = s.outcomes := fun s i => by
    unfold State.drainReleasing
    split <;> simp
  have released : ∀ (s : State) i, (s.drainReleased i why).outcomes = s.outcomes := fun s i => by
    unfold State.drainReleased State.secureBay
    split <;> simp
  unfold State.stages34
  dsimp only
  rw [outcomes_foldl _ _ _ released, outcomes_foldl _ _ _ releasing]

/-! ### The beginning of a drain of kind Cart -/

/-- What a drain of kind Cart begun outside Serving leaves. -/
structure State.CartDrain (s t : State) : Prop where
  now : t.now = s.now
  inlet : t.inlet = s.inlet
  power : t.power = { s.power with drain := some ⟨.cart, 5, s.now + s.cfg .drainLimit * 1000⟩ }
  slotA : t.arb.slotA = s.arb.slotA
  slotB : t.arb.slotB = s.arb.slotB
  ready : t.cust.readySet = []
  active : t.cust.reconActive = s.cust.reconActive
  loopPower : t.loop.power = s.loop.power
  shed : t.Shed
  queue : ∀ x ∈ t.sess.queue, x ∈ s.sess.queue ∧ (x.state = .queued ∨ x.state = .draining)
  told : s.sess.Sound → ∀ x ∈ s.sess.queue, x.state = .linking ∨ x.state = .active →
    (t.bay x.bay).lastOutcome = some (.interrupted, x.id)
  stages : ∀ i, s.StagesAt t i

/-- Stages 1 and 2 of a drain of kind Cart, with its record. -/
def State.cartDrained (s : State) : State :=
  (allBays.foldl State.stopWindow ((State.drainShed { s with
    power := { s.power with drain := some ⟨.cart, 5, s.now + s.cfg .drainLimit * 1000⟩ } }).emptyReady .drain))

theorem beginDrain_cart (s : State) : s.beginDrain .cart =
    (s.cartDrained.endSessionsIn (fun x => x == .linking || x == .active) .interrupted).stages34 .transit := rfl

theorem shed_drainShed (s : State) : s.drainShed.Shed := by
  have round : ∀ u : State, u.abandonRound.round.state ≠ .lowering ∧ u.abandonRound.round.state ≠ .raising := fun u => by
    unfold State.abandonRound
    split
    · exact ⟨by simp, by simp⟩
    · next out => exact not_or.1 out
  unfold State.drainShed
  dsimp only
  obtain ⟨lowering, raising⟩ := round s.shedAll
  have bay : ∀ i, s.shedAll.abandonRound.bay i = { s.bay i with commanded := 0, outstanding := none } := fun i =>
    (bay_abandonRound s.shedAll i).trans (bay_shedAll s i)
  generalize s.shedAll.abandonRound = u at lowering raising bay ⊢
  refine ⟨fun i => ?_, lowering, raising⟩
  rw [show State.bay { u with round := { u.round with pending := true, suspended := true } } i = u.bay i from rfl, bay]
  exact ⟨rfl, rfl⟩

theorem grants_endSession (s : State) (id : Nat) (o : SessOutcome) : (s.endSession id o).grants = s.grants := by
  have left : ∀ x, (s.leaveQueue x).grants = s.grants := fun x => by
    unfold State.leaveQueue
    split <;> rfl
  have freed : ∀ (u : State) x, (u.channelFreed x).grants = u.grants := fun u x => by
    unfold State.channelFreed
    split
    · split <;> simp
    · rfl
  unfold State.endSession State.endSessionAs
  split
  · split
    · rfl
    · dsimp only
      rw [freed]
      split <;> simp [left]
  · rfl

theorem grants_stages34 (s : State) (why : Reason) : (s.stages34 why).grants = s.grants := by
  unfold State.stages34
  simp

theorem shed_beginDrain (s : State) : (s.beginDrain .cart).Shed := by
  have shed := shed_drainShed { s with
    power := { s.power with drain := some ⟨.cart, 5, s.now + s.cfg .drainLimit * 1000⟩ } }
  refine shed.of ?_
  rw [beginDrain_cart, grants_stages34, State.endSessionsIn, grants_foldl _ _ _ fun s id => grants_endSession s id _,
    State.cartDrained, grants_foldl _ _ _ grants_stopWindow, grants_emptyReady]

theorem scene_cartDrained (s : State) : s.cartDrained.scene = { s.scene with
    power := { s.power with drain := some ⟨.cart, 5, s.now + s.cfg .drainLimit * 1000⟩ }
    ready := []
    stance := fun i => (s.bay i).stance.halt s.now } := by
  unfold State.cartDrained
  rw [scene_stopWindows]
  have empty := scene_emptyReady (State.drainShed { s with
    power := { s.power with drain := some ⟨.cart, 5, s.now + s.cfg .drainLimit * 1000⟩ } }) .drain
  have shed := scene_of_aside (aside_drainShed { s with
    power := { s.power with drain := some ⟨.cart, 5, s.now + s.cfg .drainLimit * 1000⟩ } })
  generalize State.drainShed _ = u at empty shed ⊢
  generalize u.emptyReady .drain = v at empty ⊢
  rw [shed] at empty
  have now : v.now = s.now := congrArg Scene.now empty
  have stance : ∀ i, (v.bay i).stance = (s.bay i).stance := fun i => congrFun (congrArg Scene.stance empty) i
  simp only [stance, now, empty]
  rfl

theorem beginDrain_cart_spec {s : State} (serving : s.power.state ≠ .serving) : s.CartDrain (s.beginDrain .cart) := by
  have shed := shed_beginDrain s
  rw [beginDrain_cart] at shed ⊢
  have begun := scene_cartDrained s
  generalize s.cartDrained = u at begun shed ⊢
  have power : u.power = { s.power with drain := some ⟨.cart, 5, s.now + s.cfg .drainLimit * 1000⟩ } :=
    congrArg Scene.power begun
  have serving' : u.power.state ≠ .serving := by rw [power]; exact serving
  unfold State.endSessionsIn at shed ⊢
  have ended := sessionsEnded_foldl .interrupted
    ((u.sess.queue.filter fun x => x.state == .linking || x.state == .active).map (·.id)) u serving'
  generalize List.foldl _ u _ = v at ended shed ⊢
  obtain ⟨⟨outcome, scene⟩, queue, told, -⟩ := ended
  have ready : v.cust.readySet = [] := (congrArg Scene.ready scene).trans (congrArg Scene.ready begun)
  have power' : v.power = u.power := congrArg Scene.power scene
  have outcomes := outcomes_stages34 v .transit
  obtain ⟨case, stages⟩ := stages34_spec v .transit (by rw [power']; exact serving') ready
  generalize v.stages34 .transit = t at case stages outcomes shed ⊢
  have sess : u.sess = s.sess := congrArg Scene.sess begun
  have arb : v.arb = s.arb := (congrArg Scene.arb scene).trans (congrArg Scene.arb begun)
  have now : v.now = s.now := (congrArg Scene.now scene).trans (congrArg Scene.now begun)
  have picked : ∀ x ∈ s.sess.queue, x.state = .linking ∨ x.state = .active →
      x.id ∈ (u.sess.queue.filter fun x => x.state == .linking || x.state == .active).map (·.id) := fun x m e => by
    rw [sess]
    exact List.mem_map_of_mem (List.mem_filter.2 ⟨m, by simpa using e⟩)
  have stance : ∀ i, (v.bay i).stance =
      { (s.bay i).stance.halt s.now with lastOutcome := outcome i } := fun i =>
    (congrFun (congrArg Scene.stance scene) i).trans
      (congrArg (fun a : Stance => { a with lastOutcome := outcome i }) (congrFun (congrArg Scene.stance begun) i))
  refine ⟨case.now.trans now, ?_, case.power.trans (power'.trans power), by rw [case.slotA, arb],
    by rw [case.slotB, arb], case.ready.trans ready, ?_, ?_, shed, fun x m => ?_, fun sound x m e => ?_, fun i => ?_⟩
  · exact case.inlet.trans ((congrArg Scene.inlet scene).trans (congrArg Scene.inlet begun))
  · exact case.active.trans ((congrArg Scene.active scene).trans (congrArg Scene.active begun))
  · exact case.loopPower.trans ((congrArg Scene.loopPower scene).trans (congrArg Scene.loopPower begun))
  · rw [case.sess, queue, sess] at m
    obtain ⟨m, out⟩ := List.mem_filter.1 m
    rw [← sess] at out
    refine ⟨m, ?_⟩
    cases e : x.state with
    | queued => exact .inl rfl
    | draining => exact .inr rfl
    | linking => exact absurd (picked x m (.inl e)) (by simpa using out)
    | active => exact absurd (picked x m (.inr e)) (by simpa using out)
  · have mine := told (by rw [sess]; exact sound.ids) (by rw [sess]; exact sound.bays) x (by rw [sess]; exact m)
      (picked x m e)
    exact (congrFun outcomes x.bay).trans mine
  · have same := stance i
    have release : (v.bay i).release = (s.bay i).release.map fun r => r.halt s.now := congrArg Stance.release same
    refine (stages i).of_like (congrArg Stance.custody same) (congrArg Stance.link same)
      (congrArg Stance.presence same) (by rw [State.entries, arb]; rfl)
      (pulseInFlight_of_slots (congrArg Arbiter.slotA arb) (congrArg Arbiter.slotB arb) i) ?_ ?_
    · rw [release, now, Option.map_map]
      refine congrArg (Option.map · _) (funext fun r => ?_)
      simp only [Function.comp, Release.putAside, shelve_halt]
    · rw [release, now, Option.map_map]
      exact congrArg (Option.map · _) (funext fun r => shelve_halt r s.now)

end Sys2Proof.Machine


/-! The ride-through expiry (O14): what it abandons, and the end of its event. -/

namespace Sys2Proof.Machine

/-! ### The loop power off, in the scene (R134) -/

theorem scene_setGrants (s : State) (i : BayIx) (a c : Nat) : (s.setGrants i a c).scene = s.scene := by
  have stance : (fun j => ((s.setGrants i a c).bay j).stance) = fun j => (s.bay j).stance := funext fun j => by
    rw [bay_setGrants]
    split <;> rfl
  have inlet : (s.setGrants i a c).inlet = s.inlet := by unfold State.setGrants; split <;> rfl
  unfold State.scene
  rw [stance, setGrants_now, inlet, setGrants_power, setGrants_arb, setGrants_cust, setGrants_sess, setGrants_loop]

theorem scene_leaveReady (s : State) (i : BayIx) (why : Option Reason) :
    (s.leaveReady i why).scene = { s.scene with ready := s.cust.readySet.filter (· ≠ i) } := by
  unfold State.leaveReady
  dsimp only
  split
  · rw [scene_refreshShare]
    split
    · rw [scene_raise]; rfl
    · rfl
  · next out =>
    have out : i ∉ s.cust.readySet := fun m => out (by simp [State.member, m])
    have same : s.cust.readySet.filter (· ≠ i) = s.cust.readySet :=
      List.filter_eq_self.2 fun j m => by simpa using fun e : j = i => out (e ▸ m)
    rw [same]
    rfl

theorem scene_leaveAll (s : State) (why : Option Reason) :
    (allBays.foldl (fun s i => s.leaveReady i why) s).scene = { s.scene with ready := [] } := by
  have each : ∀ (l : List BayIx) (u : State), ∃ ready, (l.foldl (fun s i => s.leaveReady i why) u).scene =
      { u.scene with ready := ready } := by
    intro l
    induction l with
    | nil => exact fun u => ⟨u.cust.readySet, rfl⟩
    | cons i l ih =>
      intro u
      obtain ⟨ready, e⟩ := ih (u.leaveReady i why)
      exact ⟨ready, by rw [List.foldl_cons, e, scene_leaveReady]⟩
  obtain ⟨-, -, gone⟩ := foldl_leaveReady allBays why s
  obtain ⟨ready, e⟩ := each allBays s
  generalize List.foldl _ s allBays = t at gone e ⊢
  have empty : t.cust.readySet = [] := List.eq_nil_iff_forall_not_mem.2 fun j m => (gone j m).2 (mem_allBays j)
  have same : ready = [] := (congrArg Scene.ready e).symm.trans empty
  rw [e, same]

theorem scene_loopPowerOff (s : State) : s.loopPowerOff.scene = { s.scene with
    arb := ⟨[], none, none, true⟩
    ready := []
    active := false
    loopPower := false
    stance := fun i => { (s.bay i).stance with link := .dark } } := by
  unfold State.loopPowerOff
  dsimp only
  rw [scene_leaveAll]
  generalize hu : (State.mk _ _ _ _ _ _ _ _ _ _ _ _ _ _ _ _ _ _) = u
  have scene : u.scene = { s.scene with arb := ⟨[], none, none, true⟩, active := false, loopPower := false } := by
    rw [← hu]; rfl
  have zero := scene_foldl (fun s i => s.setGrants i 0 0) allBays u fun s i => scene_setGrants s i 0 0
  generalize allBays.foldl (fun s i => s.setGrants i 0 0) u = v at zero ⊢
  have dark : (v.modBays fun _ b => b.darken).scene =
      { v.scene with stance := fun i => { (v.bay i).stance with link := .dark } } := by
    have bays : (fun i => ((v.modBays fun _ b => b.darken).bay i).stance) =
        fun i => { (v.bay i).stance with link := .dark } := funext fun i => by
      rw [bay_modBays]
      rfl
    unfold State.scene
    rw [bays, modBays_now, modBays_inlet, modBays_power, modBays_arb, modBays_cust, modBays_sess, modBays_loop]
  have stance : ∀ i, (v.bay i).stance = (s.bay i).stance := fun i =>
    congrFun (congrArg Scene.stance (zero.trans scene)) i
  rw [dark]
  simp only [stance, zero, scene]

/-! ### What the ride-through expiry abandons (R19, R150) -/

/-- A rebuild and a reconciliation abandoned: the loop power goes off where the rebuild held the loop. -/
structure State.Abandoned (s t : State) : Prop where
  now : t.now = s.now
  cfg : ∀ i, t.cfg i = s.cfg i
  inlet : t.inlet = s.inlet
  power : t.power = s.power
  sess : t.sess = s.sess
  active : t.cust.reconActive = false
  outcome : ∀ i, (t.bay i).lastOutcome = (s.bay i).lastOutcome
  custody : ∀ i, (t.bay i).custody = (s.bay i).custody
  seen : ∀ i, (t.bay i).link = .linked ∧ (t.bay i).presence = some true →
    (s.bay i).link = .linked ∧ (s.bay i).presence = some true
  idle : s.arb.queue = [] → s.arb.slotA = none → s.arb.slotB = none →
    t.arb.queue = [] ∧ t.arb.slotA = none ∧ t.arb.slotB = none
  free : s.loopHeld = false → t.arb.queue = s.arb.queue ∧ t.arb.slotA = s.arb.slotA ∧ t.arb.slotB = s.arb.slotB ∧
    ∀ i, (t.bay i).stance = (s.bay i).stance

theorem State.Abandoned.of_scene {s t : State} {held active : Bool} {rebuild : Option Rebuild} (cfg : ∀ i, t.cfg i = s.cfg i)
    (h : t.scene = { s.scene with arb := { s.arb with held := held }, active := active, rebuild := rebuild })
    (off : active = false) : s.Abandoned t := by
  have arb : t.arb = { s.arb with held := held } := congrArg Scene.arb h
  have stance : ∀ i, (t.bay i).stance = (s.bay i).stance := fun i => congrFun (congrArg Scene.stance h) i
  refine ⟨congrArg Scene.now h, cfg, congrArg Scene.inlet h, congrArg Scene.power h, congrArg Scene.sess h,
    (congrArg Scene.active h).trans off, fun i => lastOutcome_of_stance (stance i), fun i => custody_of_stance (stance i),
    fun i e => ?_, fun q a b => by rw [arb]; exact ⟨q, a, b⟩, fun _ => by rw [arb]; exact ⟨rfl, rfl, rfl, stance⟩⟩
  rw [link_of_stance (stance i), presence_of_stance (stance i)] at e
  exact e

theorem scene_unmark (s : State) (i : BayIx) : (s.unmark i).scene = s.scene := by
  unfold State.unmark
  split
  · rfl
  · exact (scene_modBay_same _ i _ rfl).trans (scene_stopSeating s i)

theorem scene_abandonRecon (s : State) : ∃ held,
    s.abandonRecon.scene = { s.scene with arb := { s.arb with held := held }, active := false } := by
  unfold State.abandonRecon
  split
  · refine ⟨false, ?_⟩
    dsimp only
    rw [scene_foldl _ _ _ scene_unmark]
    rfl
  · next idle =>
    have idle : s.cust.reconActive = false := by simpa using idle
    refine ⟨s.arb.held, ?_⟩
    rw [← idle]
    rfl

theorem scene_abandonRebuild (s : State) :
    s.abandonRebuild.scene = { s.scene with rebuild := none } ∨
      s.loopHeld = true ∧ s.abandonRebuild.scene = { s.scene with
        arb := ⟨[], none, none, true⟩, ready := [], active := false, loopPower := false, rebuild := none
        stance := fun i => { (s.bay i).stance with link := .dark } } := by
  unfold State.abandonRebuild
  split
  · next none => exact .inl (by rw [← none]; rfl)
  · next r rebuild =>
    dsimp only
    split
    · exact .inl rfl
    · next phase =>
      split
      · refine .inr ⟨by rw [State.loopHeld, rebuild]; simpa using phase, ?_⟩
        exact scene_loopPowerOff _
      · exact .inl rfl

theorem abandoned_both (s : State) : s.Abandoned s.abandonRebuild.abandonRecon := by
  have kept : s.abandonRebuild.abandonRecon.kept = s.kept := by simp
  have cfg := cfg_of_kept kept
  obtain ⟨held, recon⟩ := scene_abandonRecon s.abandonRebuild
  have rebuild := scene_abandonRebuild s
  generalize s.abandonRebuild.abandonRecon = t at cfg recon ⊢
  generalize s.abandonRebuild = u at recon rebuild
  obtain same | ⟨held', off⟩ := rebuild
  · have arb : u.arb = s.arb := congrArg Scene.arb same
    rw [arb, same] at recon
    exact .of_scene cfg recon rfl
  · have arb : u.arb = ⟨[], none, none, true⟩ := congrArg Scene.arb off
    rw [off] at recon
    have stance : ∀ i, (t.bay i).stance = { (s.bay i).stance with link := .dark } := fun i =>
      congrFun (congrArg Scene.stance recon) i
    have arb' : t.arb = { u.arb with held := held } := congrArg Scene.arb recon
    refine ⟨congrArg Scene.now recon, cfg, congrArg Scene.inlet recon, congrArg Scene.power recon,
      congrArg Scene.sess recon, congrArg Scene.active recon, fun i => congrArg Stance.lastOutcome (stance i),
      fun i => congrArg Stance.custody (stance i), fun i e => ?_, fun _ _ _ => ?_,
      fun e => absurd (held'.symm.trans e) (by simp)⟩
    · exact absurd ((congrArg Stance.link (stance i)).symm.trans e.1) (by simp)
    · rw [arb', arb]
      exact ⟨rfl, rfl, rfl⟩

/-! ### The expiry (R19) -/

/-- Riding left for Draining, with the ride-through timer stopped. -/
def State.leftRiding (s : State) : State := { s with power := { s.power with state := .draining, rideDue := none } }

/-- The state at the ride-through expiry, before what it abandons. -/
def State.rodeOut (s : State) : State := s.leftRiding.recomputePool.raise .inletLost

theorem scene_rodeOut (s : State) :
    s.rodeOut.scene = { s.scene with power := { s.power with state := .draining, rideDue := none } } := by
  unfold State.rodeOut
  rw [scene_raise, scene_of_aside (aside_recomputePool _)]
  rfl

theorem rodeOut_rest (s : State) : s.rodeOut.SupplySound ∧ (∀ i, s.rodeOut.cfg i = s.cfg i) ∧
    s.rodeOut.loop.rebuild = s.loop.rebuild := by
  have kept : s.rodeOut.kept = s.leftRiding.kept := by
    unfold State.rodeOut
    simp
  have supply : s.rodeOut.SupplySound := by
    unfold State.rodeOut
    simp
  have scene := scene_rodeOut s
  generalize s.rodeOut = u at kept supply scene ⊢
  have cfg := cfg_of_kept kept
  exact ⟨supply, cfg, congrArg Scene.rebuild scene⟩

/-- What the ride-through expiry leaves before the end of its event. -/
structure State.RodeOut (s t : State) : Prop where
  inlet : t.inlet = s.inlet
  power : t.power = { s.power with
    state := .draining, rideDue := none, drain := some ⟨.cart, 5, s.now + s.cfg .drainLimit * 1000⟩ }
  ready : t.cust.readySet = []
  active : t.cust.reconActive = false
  shed : t.Shed
  supply : t.SupplySound
  queue : ∀ x ∈ t.sess.queue, x.state = .queued ∨ x.state = .draining
  told : s.sess.Sound → ∀ x ∈ s.sess.queue, x.state = .linking ∨ x.state = .active →
    (t.bay x.bay).lastOutcome = some (.interrupted, x.id)
  free : s.loopHeld = false → t.arb.slotA = s.arb.slotA ∧ t.arb.slotB = s.arb.slotB ∧ ∀ i, s.StagesAt t i
  still : s.arb.queue = [] → s.arb.slotA = none → s.arb.slotB = none →
    (∀ i, (s.bay i).custody = .released → ¬ ((s.bay i).link = .linked ∧ (s.bay i).presence = some true)) →
    t.arb.queue = [] ∧ t.arb.slotA = none ∧ t.arb.slotB = none

theorem rideOut_spec (s : State) : s.RodeOut s.rideOut := by
  have e : s.rideOut = (s.rodeOut.abandonRebuild.abandonRecon).beginDrain .cart := rfl
  rw [e]
  have scene := scene_rodeOut s
  obtain ⟨supply, cfg, rebuild⟩ := rodeOut_rest s
  generalize s.rodeOut = u at scene supply cfg rebuild ⊢
  have gone := abandoned_both u
  have supply : u.abandonRebuild.abandonRecon.SupplySound := by simp [supply]
  generalize u.abandonRebuild.abandonRecon = v at gone supply ⊢
  have power : v.power = { s.power with state := .draining, rideDue := none } :=
    gone.power.trans (congrArg Scene.power scene)
  have now : v.now = s.now := gone.now.trans (congrArg Scene.now scene)
  have drained := beginDrain_cart_spec (s := v) (by rw [power]; simp)
  have supply : (v.beginDrain .cart).SupplySound := by simp [supply]
  generalize v.beginDrain .cart = t at drained supply ⊢
  have sess : v.sess = s.sess := gone.sess.trans (congrArg Scene.sess scene)
  have arb : u.arb = s.arb := congrArg Scene.arb scene
  have stance : ∀ i, (u.bay i).stance = (s.bay i).stance := fun i => congrFun (congrArg Scene.stance scene) i
  refine ⟨drained.inlet.trans (gone.inlet.trans (congrArg Scene.inlet scene)), ?_, drained.ready,
    drained.active.trans gone.active, drained.shed, supply, fun x m => (drained.queue x m).2, fun sound x m e => ?_,
    fun free => ?_, fun q a b shut => ?_⟩
  · rw [drained.power, power, now, gone.cfg, cfg]
  · exact drained.told (sess ▸ sound) x (sess ▸ m) e
  · have free : u.loopHeld = false := by unfold State.loopHeld at free ⊢; rw [rebuild]; exact free
    obtain ⟨queue, a, b, same⟩ := gone.free free
    refine ⟨drained.slotA.trans (a.trans (by rw [arb])), drained.slotB.trans (b.trans (by rw [arb])), fun i => ?_⟩
    have at' := (same i).trans (stance i)
    have release := release_of_stance at'
    exact (drained.stages i).of_like (custody_of_stance at') (link_of_stance at') (presence_of_stance at')
      (by rw [State.entries, queue, arb]; rfl)
      (pulseInFlight_of_slots (a.trans (by rw [arb])) (b.trans (by rw [arb])) i)
      (by rw [release, now]) (by rw [release, now])
  · obtain ⟨q', a', b'⟩ := gone.idle (by rw [arb]; exact q) (by rw [arb]; exact a) (by rw [arb]; exact b)
    refine ⟨?_, drained.slotA.trans a', drained.slotB.trans b'⟩
    have empty : ∀ i, t.entries i = [] := fun i => by
      refine (drained.stages i).noEntry (by rw [State.entries, q']; rfl) ?_ fun c e => ?_
      · rw [pulseInFlight_iff, a', b']; rfl
      · have open_ := gone.seen i e
        rw [link_of_stance (stance i), presence_of_stance (stance i)] at open_
        exact shut i ((custody_of_stance (stance i)).symm.trans ((gone.custody i).symm.trans c)) open_
    refine List.eq_nil_iff_forall_not_mem.2 fun x m => ?_
    have here : (x.1, x.2) ∈ t.entries x.1 := entries_mem.2 m
    rw [empty] at here
    exact List.not_mem_nil here

/-! ### The end of the event -/

/-- What the end of a drain of kind Cart moves, of the scene. -/
theorem scene_enterTransit (s : State) : ∃ power stance, s.enterTransit.scene = { s.scene with
      power := power, arb := ⟨[], none, none, true⟩, ready := [], active := false, loopPower := false, stance := stance } ∧
    power.state = (if s.inlet.cond = .lost then .transit else .settling) ∧ power.rideDue = s.power.rideDue ∧
    power.drain = s.power.drain ∧ ∀ i, (stance i).lastOutcome = (s.bay i).lastOutcome := by
  have shelved : (State.modBays { s with power := { s.power with state := .transit } } fun _ b => b.shelve s.now).scene =
      { s.scene with
        power := { s.power with state := .transit }, stance := fun i => ((s.bay i).shelve s.now).stance } := by
    have bays : (fun i => ((State.modBays { s with power := { s.power with state := .transit } }
        fun _ b => b.shelve s.now).bay i).stance) = fun i => ((s.bay i).shelve s.now).stance := funext fun i => by
      rw [bay_modBays]; rfl
    unfold State.scene
    rw [bays, modBays_now, modBays_inlet, modBays_power, modBays_arb, modBays_cust, modBays_sess, modBays_loop]
  have outcome : ∀ i, ((s.bay i).shelve s.now).lastOutcome = (s.bay i).lastOutcome := fun i => by
    unfold Bay.shelve
    split <;> rfl
  unfold State.enterTransit
  dsimp only
  generalize State.modBays _ _ = u at shelved ⊢
  have said := scene_raise u .transitEntered none none none none none
  generalize State.raise u _ _ _ _ _ _ = v at said ⊢
  have off := scene_loopPowerOff v
  have pool := scene_of_aside (aside_recomputePool v.loopPowerOff)
  generalize v.loopPowerOff.recomputePool = w at pool ⊢
  have stance : ∀ i, (v.bay i).stance = ((s.bay i).shelve s.now).stance := fun i =>
    congrFun (congrArg Scene.stance (said.trans shelved)) i
  have scene : w.scene = { s.scene with
      power := { s.power with state := .transit }, arb := ⟨[], none, none, true⟩, ready := [], active := false
      loopPower := false, stance := fun i => { ((s.bay i).shelve s.now).stance with link := .dark } } := by
    rw [pool, off]
    simp only [stance, said, shelved]
  have inlet : w.inlet = s.inlet := congrArg Scene.inlet scene
  have power : w.power = { s.power with state := .transit } := congrArg Scene.power scene
  unfold State.throughTransit
  rw [inlet]
  split
  · exact ⟨_, fun i => { ((s.bay i).shelve s.now).stance with link := .dark }, scene, rfl, rfl, rfl, outcome⟩
  · unfold State.enterSettling
    refine ⟨{ w.power with
        state := .settling, settleDue := some (w.now + w.cfg .settle * 1000), settleCause := w.power.nextCause
        nextCause := .settle }, fun i => { ((s.bay i).shelve s.now).stance with link := .dark },
      (scene_of_aside (aside_recomputePool _)).trans ?_, rfl, ?_, ?_, outcome⟩
    rotate_left 1
    · exact (congrArg Power.rideDue power :)
    · exact (congrArg Power.drain power :)
    · exact congrArg (fun x : Scene => { x with power := { w.power with
        state := .settling, settleDue := some (w.now + w.cfg .settle * 1000), settleCause := w.power.nextCause
        nextCause := .settle } }) scene

end Sys2Proof.Machine


/-! The ride-through expiry (O14): the end of its event. -/

namespace Sys2Proof.Machine

/-- The round, the eligibility, the lamps and the lines leave the scene. -/
theorem scene_tail (s : State) : s.roundOn.judgeEligible.deriveLamps.lines.scene = s.scene := by
  have e : ∀ u : State, u.lines.scene = u.scene := fun _ => rfl
  rw [e]
  exact scene_of_aside (by simp)

theorem outcomes_of_still {s t : State} (h : t.still = s.still) : t.outcomes = s.outcomes :=
  funext fun i => congrArg (a₁ := (t.bay i).core) (a₂ := (s.bay i).core) Bay.lastOutcome (core_of_still h i)

/-- No slot is granted while a drain has one (R100, R156). -/
theorem grantSlots_full {s : State} (drain : s.power.drain.isSome) (busy : s.arb.slotA.isSome ∨ s.arb.slotB.isSome) :
    s.grantSlots = s := by
  have limit : s.slotLimit ≤ 1 := by
    unfold State.slotLimit
    rw [if_pos drain]
    split_ifs <;> omega
  have slots : 1 ≤ s.busySlots := by
    unfold State.busySlots
    obtain h | h := busy
    · rw [if_pos h]; omega
    · rw [if_pos h]; omega
  have once : s.grantSlot = s := if_neg (by omega)
  rw [State.grantSlots, once, once]

/-- What the end of an event in which a drain of kind Cart may complete leaves. -/
structure State.CartSettled (s t : State) : Prop where
  rideDue : t.power.rideDue = s.power.rideDue
  state : t.power.state = s.power.state ∨ t.power.state = .transit ∨ t.power.state = .settling
  ready : t.cust.readySet = []
  sess : t.sess = s.sess
  outcomes : t.outcomes = s.outcomes

theorem cartSettled_settle {s : State} (idle : s.cust.reconActive = false) (ready : s.cust.readySet = []) {d : Drain}
    (drain : s.power.drain = some d) (cart : d.kind = .cart) : s.CartSettled s.settle := by
  rw [settle_eq idle]
  have still := still_grantSlots s
  generalize s.grantSlots = u at still ⊢
  have power := power_of_still still
  have cust := cust_of_still still
  have sess := sess_of_still still
  have outcomes := outcomes_of_still still
  have tail := scene_tail u.drainCheck
  generalize u.drainCheck.roundOn.judgeEligible.deriveLamps.lines = t at tail ⊢
  unfold State.drainCheck at tail
  split at tail
  · have ends : u.endDrain = State.enterTransit { u with power := { u.power with drain := none } } := by
      unfold State.endDrain
      rw [power, drain]
      dsimp only
      rw [cart]
    rw [ends] at tail
    obtain ⟨p, stance, scene, state, ride, -, outcome⟩ :=
      scene_enterTransit { u with power := { u.power with drain := none } }
    generalize State.enterTransit _ = v at tail scene
    have last := tail.trans scene
    refine ⟨(congrArg (fun x : Scene => x.power.rideDue) last).trans (ride.trans (by rw [← power])), .inr ?_,
      congrArg Scene.ready last, (congrArg Scene.sess last).trans sess, ?_⟩
    · have state : t.power.state = _ := (congrArg (fun x : Scene => x.power.state) last).trans state
      rw [state]
      split
      · exact .inl rfl
      · exact .inr rfl
    · refine Eq.trans (funext fun i => ?_) outcomes
      exact (congrArg Stance.lastOutcome (congrFun (congrArg Scene.stance last) i)).trans (outcome i)
  · refine ⟨by rw [power_of_scene tail, power], .inl (by rw [power_of_scene tail, power]),
      (ready_of_scene tail).trans (by rw [cust]; exact ready), (sess_of_scene tail).trans sess,
      (outcomes_of_scene tail).trans outcomes⟩

/-- A drain of kind Cart that completes at once (R19, R156). -/
theorem settle_completes {s : State} (idle : s.cust.reconActive = false) {d : Drain} (drain : s.power.drain = some d)
    (cart : d.kind = .cart) (queue : s.arb.queue = []) (a : s.arb.slotA = none) (b : s.arb.slotB = none) :
    s.settle.power.drain = none ∧ s.settle.loop.power = false ∧
      s.settle.power.state = if s.inlet.cond = .lost then .transit else .settling := by
  have check : s.drainCheck = State.enterTransit { s with power := { s.power with drain := none } } := by
    have ends : s.drainCheck = s.endDrain := if_pos ⟨by simp [drain], queue, a, b⟩
    rw [ends]
    unfold State.endDrain
    rw [drain]
    dsimp only
    rw [cart]
  rw [settle_eq idle, grantSlots_empty queue, check]
  obtain ⟨p, stance, scene, state, -, none, -⟩ := scene_enterTransit { s with power := { s.power with drain := none } }
  generalize State.enterTransit _ = u at scene ⊢
  have last := (scene_tail u).trans scene
  generalize u.roundOn.judgeEligible.deriveLamps.lines = t at last ⊢
  exact ⟨(congrArg (fun x : Scene => x.power.drain) last).trans none, congrArg Scene.loopPower last,
    (congrArg (fun x : Scene => x.power.state) last).trans state⟩

/-- A drain that waits for a pulse in flight (R156). -/
theorem settle_waits {s : State} (idle : s.cust.reconActive = false) (drain : s.power.drain.isSome)
    (busy : s.arb.slotA.isSome ∨ s.arb.slotB.isSome) : s.settle.scene = s.scene := by
  have waits : s.Waits := ⟨fun e => absurd (idle.symm.trans e) (by simp), fun _ => .inr busy⟩
  have full := grantSlots_full drain busy
  have check : s.drainCheck = s := by
    have := drainCheck_waits waits
    rwa [full] at this
  rw [settle_eq idle, full, check]
  exact scene_tail s

/-- What is left of a window by stage 4 of a drain (R155, L22). -/
theorem putAside_eq (r : Release) (now : Nat) :
    r.putAside now = { r with late := true, window := .stopped (match r.window with
      | .running end_ => end_ - now
      | .stopped left => left
      | .notStarted => r.length * 1000) } ∧
    r.shelve now = { r with window := .stopped (match r.window with
      | .running end_ => end_ - now
      | .stopped left => left
      | .notStarted => r.length * 1000) } := by
  unfold Release.putAside Release.shelve WindowClock.halt
  cases r.window <;> exact ⟨rfl, rfl⟩

/-- Settles O14: the expiry begins a drain of kind Cart, and the end of its event completes it or lets it wait. -/
theorem rideThroughExpiryBeginsADrain : Obligations.RideThroughExpiryBeginsADrain := by
  intro s awake sound due rides
  have e : exec .rideThroughExpiry s = .next (s.reach due).rideOut.settle := by
    refine (live_awake awake _).trans ?_
    rw [rides, atDue_some]
  have rode := rideOut_spec (s.reach due)
  refine ⟨_, e, ?_⟩
  generalize (s.reach due).rideOut = u at rode ⊢
  obtain ⟨inlet, power, ready, active, shed, supply, queue, told, free, still⟩ := rode
  have drain : u.power.drain = some ⟨.cart, 5, max s.now due + s.cfg .drainLimit * 1000⟩ := by rw [power]; rfl
  have settled := cartSettled_settle active ready drain rfl
  have supply : u.settle.SupplySound := supply_settle supply
  have waits := settle_waits active (by rw [drain]; rfl)
  have completes := settle_completes active drain rfl
  generalize u.settle = t at settled supply waits completes ⊢
  have state : t.power.state = .draining ∨ t.power.state = .transit ∨ t.power.state = .settling := by
    refine settled.state.imp_left fun e => e.trans ?_
    rw [power]
  have serving : t.power.state ≠ .serving := by
    rcases state with e | e | e <;> rw [e] <;> simp
  refine ⟨settled.rideDue.trans (by rw [power]), supply (.inl serving), state, settled.ready, fun x m => ?_,
    fun x m e => ?_, fun busy held => ?_, fun q a b shut => ?_⟩
  · exact queue x (settled.sess ▸ m)
  · exact (congrFun settled.outcomes x.bay).trans (told sound x m e)
  · obtain ⟨a, b, stages⟩ := free held
    have scene := waits (by rw [a, b]; exact busy)
    have arb := arb_of_scene scene
    refine ⟨?_, (congrArg Power.drain (power_of_scene scene)).trans drain, fun i c => ⟨fun out => ?_, fun out mem => ?_⟩,
      fun i r c has => ⟨fun open_ => ?_, fun shut => ?_⟩⟩
    · rw [power_of_scene scene, power]
    · exact (custody_of_stance (stance_of_scene scene i)).trans ((stages i).releasingOut c out)
    · obtain ⟨d, mem⟩ := mem
      obtain ⟨locked, none, empty⟩ := (stages i).releasingQueued c out fun e => by
        have here := entries_mem.2 mem
        rw [show s.entries i = [] from e] at here
        exact List.not_mem_nil here
      refine ⟨(custody_of_stance (stance_of_scene scene i)).trans locked,
        (release_of_stance (stance_of_scene scene i)).trans none, fun d m => ?_⟩
      rw [arb] at m
      have here := entries_mem.2 m
      rw [empty] at here
      exact List.not_mem_nil here
    · obtain ⟨custody, release, stands⟩ := (stages i).releasedOpen c open_
      refine ⟨(custody_of_stance (stance_of_scene scene i)).trans custody,
        (release_of_stance (stance_of_scene scene i)).trans (release.trans ?_), ?_⟩
      · rw [show ((s.reach due).bay i).release = some r from has, Option.map_some]
        exact congrArg some (putAside_eq r _).1
      · rw [arb, pulseInFlight_of_slots (congrArg Arbiter.slotA arb) (congrArg Arbiter.slotB arb)]
        exact stands
    · obtain ⟨custody, release⟩ := (stages i).releasedShut c shut
      refine ⟨(custody_of_stance (stance_of_scene scene i)).trans custody,
        (release_of_stance (stance_of_scene scene i)).trans (release.trans ?_)⟩
      rw [show ((s.reach due).bay i).release = some r from has, Option.map_some]
      exact congrArg some (putAside_eq r _).2
  · obtain ⟨q', a', b'⟩ := still q a b shut
    obtain ⟨none, off, ends⟩ := completes q' a' b'
    refine ⟨none, off, ends.trans ?_⟩
    rw [inlet]
    rfl

end Sys2Proof.Machine


/-! Set Bay Charge, Clear Fault, Rebuild Loop, Restart and the automatic rebuild (O59). -/

namespace Sys2Proof.Machine

/-- A session of identifier 1. -/
def twin (i : BayIx) (state : SessState) : Session :=
  ⟨1, i, .image, 0, 0, state, none, 0, none, none, none, none⟩

/-- A cart in Serving at which an automatic rebuild is due, with two sessions of one identifier, which no run brings
together: a Draining one, and a Queued one that a channel serves once the live bay count comes into force. -/
def twinned : State :=
  { State.reset with
    power := { State.reset.power with state := .serving }
    cust := { State.reset.cust with reconActive := false }
    settings := State.reset.settings.set .autoRebuild 1
    retained := { State.reset.retained with seconds := 100000 }
    bays := (State.reset.bays.set 1 { Bay.start with link := .linked, custody := .locked }).set 2
      { Bay.start with link := .lost, lostAt := some 0 }
    loop := { State.reset.loop with power := true, bayCount := 35 }
    sess := { State.reset.sess with
      queue := [twin 0 .draining, twin 1 .queued]
      channels := State.reset.sess.channels.set 0 (Channel.idle ⟨true, 0, 64, false⟩) } }

/-- The first of the two sessions stands in the queue of a command's next state. -/
def keepsTwin : Out → Bool
  | .next t => decide (twin 0 .draining ∈ t.sess.queue)
  | _ => false

theorem keepsTwin_twinned : keepsTwin (exec .autoRebuildCheck twinned) = false := by decide +kernel

/-- An automatic rebuild is due. -/
theorem twinned_due : twinned.cfg .autoRebuild = 1 ∧ twinned.power.state = .serving ∧ twinned.loop.rebuild = none ∧
    (twinned.bay 2).link = .lost ∧ (twinned.bay 2).lostAt = some 0 ∧
    twinned.cfg .rebuildHoldoff ≤ (twinned.retained.seconds - 0).toNat := by decide +kernel

/-- Refutes O59: the start of a rebuild is said to leave every session that is not Queued, also where the session queue
is not sound. With two sessions of one identifier, the dispatch at the new bay count moves the Draining one too. -/
theorem not_chargeFaultRebuildAndRestart : ¬ Obligations.ChargeFaultRebuildAndRestart := by
  intro h
  obtain ⟨auto, serving, rebuild, lost, since, long⟩ := twinned_due
  obtain ⟨t, e, -, -, -, starts⟩ := h.1 twinned rfl ⟨rfl, rfl⟩
  have begins := starts ⟨auto, serving, rebuild, 2, lost, 0, since, long⟩ rfl
  have stays := begins.sessions (twin 0 .draining) List.mem_cons_self (by simp [twin])
  have gone := keepsTwin_twinned
  rw [e] at gone
  exact of_decide_eq_false gone stays

end Sys2Proof.Machine


/-! Who writes what (O60): the roster and the transaction on the loop, which the operations of the pool, of custody and of
the sessions leave. -/

namespace Sys2Proof.Machine

/-! ### The roster and the line -/

/-- The transaction on the loop. -/
def State.line (s : State) : Option Txn := s.loop.onLoop.map (·.txn)

/-- The roster, and the transaction on the loop. -/
def State.hold (s : State) : List Entry × Option Txn := (s.cust.roster, s.line)

theorem roster_of_hold {s t : State} (h : t.hold = s.hold) : t.cust.roster = s.cust.roster := congrArg Prod.fst h
theorem line_of_hold {s t : State} (h : t.hold = s.hold) : t.line = s.line := congrArg Prod.snd h

theorem hold_of {s t : State} (cust : t.cust.roster = s.cust.roster) (onLoop : t.loop.onLoop = s.loop.onLoop) :
    t.hold = s.hold := by
  unfold State.hold State.line
  rw [cust, onLoop]

theorem hold_of_aside {s t : State} (h : t.aside = s.aside) : t.hold = s.hold :=
  hold_of (congrArg CustodyUnit.roster (cust_of_aside h))
    (congrArg (a₁ := t.aside) (a₂ := s.aside) (fun x : State => x.loop.onLoop) h)

theorem hold_of_shared {s t : State} (h : s.Shared t) : t.hold = s.hold := by
  obtain ⟨sess, round, bays, e, -⟩ := h
  rw [e]; rfl

theorem hold_of_still {s t : State} (h : t.still = s.still) : t.hold = s.hold :=
  hold_of (congrArg CustodyUnit.roster (cust_of_still h)) (congrArg Still.onLoop h)

@[simp] theorem hold_mk (s : State) (now : Nat) (resetHeld keyswitch : Bool) (inlet : Inlet) (pool : Pool)
    (power : Power) (round : Round) (bays : Vector Bay 36) (cust : CustodyUnit) (arb : Arbiter) (sess : Sessions)
    (loop : Loop) (link : HostLink) (notices : Notices) (settings : Settings) (image : Option SettingsImage)
    (retained : Retained) (roster : cust.roster = s.cust.roster)
    (onLoop : loop.onLoop = s.loop.onLoop) :
    State.hold ⟨now, resetHeld, keyswitch, inlet, pool, power, round, bays, cust, arb, sess, loop, link, notices,
      settings, image, retained, s.pending⟩ = s.hold := hold_of roster onLoop

@[simp] theorem hold_foldl {α : Type} (f : State → α → State) (l : List α) (s : State)
    (h : ∀ s a, (f s a).hold = s.hold) : (l.foldl f s).hold = s.hold := by
  induction l generalizing s with
  | nil => rfl
  | cons a l ih => rw [List.foldl_cons, ih, h]

@[simp] theorem hold_modBay (s : State) (i : BayIx) (f : Bay → Bay) : (s.modBay i f).hold = s.hold := rfl
@[simp] theorem hold_modBays (s : State) (f : BayIx → Bay → Bay) : (s.modBays f).hold = s.hold :=
  hold_foldl _ _ _ fun _ _ => rfl
@[simp] theorem hold_setSlot (s : State) (k : PulseSlot) (p : Option Pulse) : (s.setSlot k p).hold = s.hold := by
  cases k <;> rfl
@[simp] theorem hold_setChan (s : State) (c : ChanIx) (ch : Channel) : (s.setChan c ch).hold = s.hold := rfl
@[simp] theorem hold_modSession (s : State) (id : Nat) (f : Session → Session) : (s.modSession id f).hold = s.hold := rfl
@[simp] theorem hold_lines (s : State) : s.lines.hold = s.hold := rfl
@[simp] theorem hold_reply (s : State) (f : RxFrame) (r : Result) (p : List Byte) (a : AfterReply) :
    (s.reply f r p a).hold = s.hold := rfl
@[simp] theorem hold_reach (s : State) (due : Nat) : (s.reach due).hold = s.hold := rfl
@[simp] theorem hold_markPending (s : State) : s.markPending.hold = s.hold := rfl
@[simp] theorem hold_place (s : State) (t : Txn) : (s.place t).hold = s.hold := hold_of_aside (aside_place s t)
@[simp] theorem hold_withdraw (s : State) (p : Txn → Bool) : (s.withdraw p).hold = s.hold :=
  hold_of_aside (aside_withdraw s p)

@[simp] theorem hold_raise (s : State) (k : NoticeKind) (bay : Option BayIx) (asset : Option AssetId)
    (session : Option Nat) (value : Option Nat) (reason : Option Reason) :
    (s.raise k bay asset session value reason).hold = s.hold := by
  obtain ⟨n, e, -⟩ := raise_spec s k bay asset session value reason
  rw [e]; rfl

/-! ### The pool and the allocator -/

@[simp] theorem hold_setGrants (s : State) (i : BayIx) (a c : Nat) : (s.setGrants i a c).hold = s.hold :=
  hold_of (by rw [setGrants_cust]) (by rw [setGrants_loop])
@[simp] theorem hold_refreshShare (s : State) (i : BayIx) : (s.refreshShare i).hold = s.hold :=
  hold_of_shared (shared_refreshShare s i)
@[simp] theorem hold_recomputePool (s : State) : s.recomputePool.hold = s.hold := hold_of_aside (aside_recomputePool s)
@[simp] theorem hold_faultGrant (s : State) (i : BayIx) : (s.faultGrant i).hold = s.hold :=
  hold_of_aside (aside_faultGrant s i)
@[simp] theorem hold_drainShed (s : State) : s.drainShed.hold = s.hold := hold_of_aside (aside_drainShed s)
@[simp] theorem hold_emergencyShed (s : State) : s.emergencyShed.hold = s.hold := hold_of_aside (aside_emergencyShed s)
@[simp] theorem hold_cutRound (s : State) : s.cutRound.hold = s.hold := hold_of_aside (aside_cutRound s)
@[simp] theorem hold_roundOn (s : State) : s.roundOn.hold = s.hold := hold_of_aside (aside_roundOn s)
@[simp] theorem hold_judgeEligible (s : State) : s.judgeEligible.hold = s.hold := hold_of_aside (aside_judgeEligible s)
@[simp] theorem hold_deriveLamps (s : State) : s.deriveLamps.hold = s.hold := hold_of_aside (aside_deriveLamps s)
@[simp] theorem hold_compareLamp (s : State) (i : BayIx) : (s.compareLamp i).hold = s.hold :=
  hold_of_aside (aside_compareLamp s i)
@[simp] theorem hold_grantSlots (s : State) : s.grantSlots.hold = s.hold := hold_of_still (still_grantSlots s)

@[simp] theorem hold_lowerBay (s : State) (i : BayIx) : (s.lowerBay i).hold = s.hold := hold_of_aside (aside_lowerBay s i)
@[simp] theorem hold_takeTargets (s : State) : s.takeTargets.hold = s.hold := by
  unfold State.takeTargets
  dsimp only
  rw [hold_modBays]
  rfl
@[simp] theorem hold_beginRound (s : State) : s.beginRound.hold = s.hold := by
  unfold State.beginRound
  dsimp only
  have targets := hold_takeTargets s
  generalize s.takeTargets = u at targets ⊢
  split
  · split
    · exact targets
    · rw [hold_roundOn, hold_of_aside (aside_beginRaising _)]
      exact targets
  · rw [hold_foldl _ _ _ hold_lowerBay]
    exact targets

@[simp] theorem hold_grantEnded (s : State) (k : GrantKind) (i : BayIx) : (s.grantEnded k i).hold = s.hold := by
  unfold State.grantEnded
  repeat' split
  all_goals rfl

/-! ### The sessions -/

@[simp] theorem hold_dispatch (s : State) : s.dispatch.hold = s.hold := hold_of_shared (shared_dispatch s)

@[simp] theorem hold_leaveQueue (s : State) (x : Session) : (s.leaveQueue x).hold = s.hold := by
  unfold State.leaveQueue
  split <;> rfl

@[simp] theorem hold_channelFreed (s : State) (x : Session) : (s.channelFreed x).hold = s.hold := by
  unfold State.channelFreed
  split
  · split <;> simp
  · rfl

@[simp] theorem hold_endSessionAs (s : State) (id : Nat) (o : SessOutcome) (asset : Option AssetId) :
    (s.endSessionAs id o asset).hold = s.hold := by
  unfold State.endSessionAs
  split
  · rfl
  · dsimp only
    split <;> simp

@[simp] theorem hold_endSession (s : State) (id : Nat) (o : SessOutcome) : (s.endSession id o).hold = s.hold := by
  unfold State.endSession
  split <;> simp

@[simp] theorem hold_tellRemoval (s : State) (i : BayIx) (asset : Option AssetId) :
    (s.tellRemoval i asset).hold = s.hold := by
  unfold State.tellRemoval
  split
  · split <;> simp
  · rfl

@[simp] theorem hold_sessionMeetsRelease (s : State) (i : BayIx) : (s.sessionMeetsRelease i).hold = s.hold := by
  unfold State.sessionMeetsRelease
  split <;> simp

@[simp] theorem hold_endSessionsIn (s : State) (p : SessState → Bool) (o : SessOutcome) :
    (s.endSessionsIn p o).hold = s.hold := by
  unfold State.endSessionsIn
  simp

@[simp] theorem hold_chanOf (s : State) (x : Session) (f : Channel → Channel) : (s.chanOf x f).hold = s.hold := by
  unfold State.chanOf
  split <;> rfl

@[simp] theorem hold_linkUpSession (s : State) (x : Session) : (s.linkUpSession x).hold = s.hold := by
  unfold State.linkUpSession
  simp

@[simp] theorem hold_finishActive (s : State) (x : Session) (ok : Bool) : (s.finishActive x ok).hold = s.hold := by
  unfold State.finishActive
  simp

@[simp] theorem hold_configure (s : State) (c : ChanIx) (new : ChanCfg) : (s.configure c new).hold = s.hold := by
  unfold State.configure
  dsimp only
  repeat' split
  all_goals simp

/-! ### The ready set -/

@[simp] theorem hold_leaveReady (s : State) (i : BayIx) (why : Option Reason) : (s.leaveReady i why).hold = s.hold := by
  obtain ⟨loop, -, -, cust, -⟩ := leaveReady_rest s i why
  exact hold_of (congrArg CustodyUnit.roster cust :) (congrArg Loop.onLoop loop)

@[simp] theorem hold_emptyReady (s : State) (why : Reason) : (s.emptyReady why).hold = s.hold := by
  unfold State.emptyReady
  split <;> simp

@[simp] theorem hold_prepareReady (s : State) (n : Nat) : (s.prepareReady n).hold = s.hold := by
  have said : s.sayReadyCleared.hold = s.hold := by
    unfold State.sayReadyCleared
    split <;> simp
  unfold State.prepareReady
  dsimp only
  rw [hold_foldl _ _ _ hold_refreshShare]
  exact said

/-! ### Custody -/

@[simp] theorem hold_askBolt (s : State) (i : BayIx) (d : Dir) : (s.askBolt i d).hold = s.hold := by
  unfold State.askBolt
  split
  · rfl
  · split <;> rfl
  · rfl

@[simp] theorem hold_dropBolt (s : State) (i : BayIx) : (s.dropBolt i).hold = s.hold := by
  unfold State.dropBolt
  split <;> rfl

/-- A tag read dropped leaves its transaction on the loop, marked (R60). -/
@[simp] theorem hold_dropTag (s : State) (i : BayIx) : (s.dropTag i).hold = s.hold := by
  unfold State.dropTag
  dsimp only
  generalize hu : State.withdraw s _ = u
  have same : u.hold = s.hold := hu ▸ hold_withdraw s _
  rw [← same]
  split
  · next o e =>
    split
    · split
      · unfold State.hold State.line
        rw [e]
        rfl
      · rfl
    · rfl
  · rfl

@[simp] theorem hold_stopSeating (s : State) (i : BayIx) : (s.stopSeating i).hold = s.hold := hold_dropTag s i

@[simp] theorem hold_become (s : State) (i : BayIx) (c : Custody) : (s.become i c).hold = s.hold := by
  have left : (if c = .locked then s else s.leaveReady i (some .custody)).hold = s.hold := by
    split <;> simp
  unfold State.become
  dsimp only
  generalize (if c = .locked then s else s.leaveReady i (some .custody)) = u at left ⊢
  rw [← left, ← hold_stopSeating u i]
  cases c with
  | locked =>
    dsimp only
    split
    · rw [hold_dispatch]; rfl
    · rfl
  | _ =>
    rw [if_neg (by simp)]
    rfl

@[simp] theorem hold_clearBay (s : State) (i : BayIx) : (s.clearBay i).hold = s.hold := by
  simp [State.clearBay]

@[simp] theorem hold_engageBay (s : State) (i : BayIx) : (s.engageBay i).hold = s.hold := by
  unfold State.engageBay
  split <;> simp

@[simp] theorem hold_secureBay (s : State) (i : BayIx) : (s.secureBay i).hold = s.hold := by
  simp [State.secureBay]

@[simp] theorem hold_sayCancelled (s : State) (i : BayIx) (why : Reason) : (s.sayCancelled i why).hold = s.hold :=
  hold_raise ..

@[simp] theorem hold_drainReleasing (s : State) (i : BayIx) (why : Reason) : (s.drainReleasing i why).hold = s.hold := by
  unfold State.drainReleasing
  split <;> simp

@[simp] theorem hold_drainReleased (s : State) (i : BayIx) (why : Reason) : (s.drainReleased i why).hold = s.hold := by
  unfold State.drainReleased
  split <;> simp

@[simp] theorem hold_drainMind (s : State) (i : BayIx) : (s.drainMind i).hold = s.hold := by
  unfold State.drainMind
  repeat' split
  all_goals simp

@[simp] theorem hold_openWindow (s : State) (i : BayIx) : (s.openWindow i).hold = s.hold := by
  simp [State.openWindow]

@[simp] theorem hold_acceptRelease (s : State) (i : BayIx) (seconds : Nat) (holder : Option Badge)
    (origin : ReleaseOrigin) : (s.acceptRelease i seconds holder origin).hold = s.hold := by
  unfold State.acceptRelease
  dsimp only
  split <;> simp

@[simp] theorem hold_windowEnds (s : State) (i : BayIx) : (s.windowEnds i).hold = s.hold := by
  simp [State.windowEnds]

@[simp] theorem hold_engageDone (s : State) (i : BayIx) : (s.engageDone i).hold = s.hold := by
  unfold State.engageDone
  dsimp only
  repeat' split
  all_goals simp

@[simp] theorem hold_retractDone (s : State) (i : BayIx) : (s.retractDone i).hold = s.hold := by
  unfold State.retractDone State.dropRelease
  repeat' split
  all_goals simp

@[simp] theorem hold_pulseReport (s : State) (i : BayIx) (d : Dir) (ok : Bool) : (s.pulseReport i d ok).hold = s.hold := by
  unfold State.pulseReport
  repeat' split
  all_goals simp

@[simp] theorem hold_unjam (s : State) (i : BayIx) : (s.unjam i).hold = s.hold := by
  unfold State.unjam
  dsimp only
  repeat' split
  all_goals simp

@[simp] theorem hold_cancelRelease (s : State) (i : BayIx) : (s.cancelRelease i).hold = s.hold := by
  unfold State.cancelRelease State.dropRelease
  repeat' split
  all_goals simp

end Sys2Proof.Machine


/-! Who writes what (O60): the roster, which the power states, the drain, the rebuild and the endings of transactions
leave (R70). -/

namespace Sys2Proof.Machine

@[simp] theorem roster_mk (s : State) (now : Nat) (resetHeld keyswitch : Bool) (inlet : Inlet) (pool : Pool)
    (power : Power) (round : Round) (bays : Vector Bay 36) (cust : CustodyUnit) (arb : Arbiter) (sess : Sessions)
    (loop : Loop) (link : HostLink) (notices : Notices) (settings : Settings) (image : Option SettingsImage)
    (retained : Retained) (roster : cust.roster = s.cust.roster) :
    (State.hold ⟨now, resetHeld, keyswitch, inlet, pool, power, round, bays, cust, arb, sess, loop, link, notices,
      settings, image, retained, s.pending⟩).1 = s.hold.1 := roster

@[simp] theorem roster_foldl {α : Type} (f : State → α → State) (l : List α) (s : State)
    (h : ∀ s a, (f s a).hold.1 = s.hold.1) : (l.foldl f s).hold.1 = s.hold.1 := by
  induction l generalizing s with
  | nil => rfl
  | cons a l ih => rw [List.foldl_cons, ih, h]

/-! ### The loop power, the drain and the rebuild -/

@[simp] theorem roster_loopPowerOff (s : State) : s.loopPowerOff.hold.1 = s.hold.1 := by
  unfold State.loopPowerOff
  dsimp only
  rw [hold_foldl _ _ _ fun s i => hold_leaveReady s i _, hold_modBays, hold_foldl _ _ _ fun s i => hold_setGrants s i 0 0]
  rfl

@[simp] theorem roster_enterSettling (s : State) : s.enterSettling.hold.1 = s.hold.1 := by
  unfold State.enterSettling
  rw [hold_recomputePool]
  rfl

@[simp] theorem hold_stopWindow (s : State) (i : BayIx) : (s.stopWindow i).hold = s.hold := rfl

@[simp] theorem hold_stopWindows (l : List BayIx) (s : State) : (l.foldl State.stopWindow s).hold = s.hold :=
  hold_foldl _ _ _ hold_stopWindow

@[simp] theorem hold_markAtOnce (s : State) : s.markAtOnce.hold = s.hold := rfl

@[simp] theorem roster_beginDrain (s : State) (k : DrainKind) : (s.beginDrain k).hold.1 = s.hold.1 := by
  unfold State.beginDrain
  cases k <;> simp

@[simp] theorem roster_powerUp (s : State) (r : Rebuild) : (s.powerUp r).hold.1 = s.hold.1 := rfl

@[simp] theorem roster_enterPowerOff (s : State) : s.enterPowerOff.hold.1 = s.hold.1 := by
  unfold State.enterPowerOff
  dsimp only
  repeat' split
  all_goals simp

@[simp] theorem roster_startRebuild (s : State) (c : RebuildCause) : (s.startRebuild c).hold.1 = s.hold.1 := by
  unfold State.startRebuild
  dsimp only
  repeat' split
  all_goals simp

@[simp] theorem roster_enterTransit (s : State) : s.enterTransit.hold.1 = s.hold.1 := by
  unfold State.enterTransit State.throughTransit
  dsimp only
  split <;> simp

@[simp] theorem roster_endDrain (s : State) : s.endDrain.hold.1 = s.hold.1 := by
  unfold State.endDrain
  repeat' split
  all_goals simp

@[simp] theorem roster_drainCheck (s : State) : s.drainCheck.hold.1 = s.hold.1 := by
  unfold State.drainCheck
  split <;> simp

@[simp] theorem roster_abandonRebuild (s : State) : s.abandonRebuild.hold.1 = s.hold.1 := by
  unfold State.abandonRebuild
  dsimp only
  repeat' split
  all_goals simp

@[simp] theorem roster_autoCheck (s : State) : s.autoCheck.hold.1 = s.hold.1 := by
  unfold State.autoCheck
  split <;> simp

/-! ### The power states -/

@[simp] theorem roster_dropout (s : State) : s.dropout.hold.1 = s.hold.1 := by
  unfold State.dropout State.enterRiding State.dropSettling
  dsimp only
  repeat' split
  all_goals simp

@[simp] theorem roster_restoration (s : State) : s.restoration.hold.1 = s.hold.1 := by
  unfold State.restoration State.resumeServing
  dsimp only
  repeat' split
  all_goals simp

@[simp] theorem roster_unmark (s : State) (i : BayIx) : (s.unmark i).hold.1 = s.hold.1 := by
  unfold State.unmark
  split <;> simp

@[simp] theorem roster_abandonRecon (s : State) : s.abandonRecon.hold.1 = s.hold.1 := by
  unfold State.abandonRecon
  split <;> simp

@[simp] theorem roster_rideOut (s : State) : s.rideOut.hold.1 = s.hold.1 := by
  unfold State.rideOut
  simp

/-! ### Reconciliation and the end of an event -/

@[simp] theorem roster_reconBay (s : State) (count : Nat) (i : BayIx) : (s.reconBay count i).hold.1 = s.hold.1 := by
  unfold State.reconBay
  repeat' split
  all_goals simp

@[simp] theorem roster_beginRecon (s : State) (c : RebuildCause) (count : Nat) : (s.beginRecon c count).hold.1 = s.hold.1 := by
  unfold State.beginRecon
  simp

@[simp] theorem roster_endRecon (s : State) : s.endRecon.hold.1 = s.hold.1 := by
  unfold State.endRecon State.leaveTransit
  dsimp only
  split <;> simp

@[simp] theorem roster_reconCheck (s : State) : s.reconCheck.hold.1 = s.hold.1 := by
  unfold State.reconCheck
  split <;> simp

@[simp] theorem roster_settle (s : State) : s.settle.hold.1 = s.hold.1 := by
  unfold State.settle
  simp

/-! ### The scan and discovery -/

@[simp] theorem hold_scanPlace (s : State) (i : BayIx) (rest : List BayIx) : (s.scanPlace i rest).hold = s.hold := by
  unfold State.scanPlace
  simp

@[simp] theorem hold_startPass (s : State) : s.startPass.hold = s.hold := by
  unfold State.startPass
  dsimp only
  split <;> simp

@[simp] theorem hold_freshPass (s : State) : s.freshPass.hold = s.hold := by
  unfold State.freshPass
  simp

@[simp] theorem hold_leaveBeyond (s : State) (m : Nat) (i : BayIx) : (s.leaveBeyond m i).hold = s.hold := by
  unfold State.leaveBeyond
  split <;> simp

@[simp] theorem roster_endRebuild (s : State) (m : Nat) : (s.endRebuild m).hold.1 = s.hold.1 := by
  unfold State.endRebuild
  split <;> simp

@[simp] theorem roster_send (s : State) (t : Txn) : (s.send t).hold.1 = s.hold.1 := rfl

@[simp] theorem hold_modRebuild (s : State) (f : Rebuild → Rebuild) : (s.modRebuild f).hold = s.hold := rfl

@[simp] theorem roster_discover (s : State) (p : BayIx) : (s.discover p).hold.1 = s.hold.1 := rfl

@[simp] theorem roster_discIdentified (s : State) (p : BayIx) (serial : Option Serial) :
    (s.discIdentified p serial).hold.1 = s.hold.1 := by
  unfold State.discIdentified
  dsimp only
  repeat' split
  all_goals simp

@[simp] theorem roster_discAssigned (s : State) (p : BayIx) (ok : Bool) : (s.discAssigned p ok).hold.1 = s.hold.1 := by
  unfold State.discAssigned
  split <;> simp

@[simp] theorem roster_discPassed (s : State) (p : BayIx) (ok : Bool) : (s.discPassed p ok).hold.1 = s.hold.1 := by
  unfold State.discPassed
  repeat' split
  all_goals simp

@[simp] theorem roster_probed (s : State) (p : BayIx) (ok : Bool) : (s.probed p ok).hold.1 = s.hold.1 := rfl

/-! ### Links -/

@[simp] theorem hold_linkLost (s : State) (i : BayIx) : (s.linkLost i).hold = s.hold := by
  unfold State.linkLost
  simp

@[simp] theorem hold_heard (s : State) (i : BayIx) : (s.heard i).hold = s.hold := by
  unfold State.heard State.relink
  split <;> simp

@[simp] theorem hold_missed (s : State) (i : BayIx) : (s.missed i).hold = s.hold := by
  unfold State.missed
  dsimp only
  repeat' split
  all_goals simp

/-! ### Endings told -/

@[simp] theorem hold_clearOutstanding (s : State) (i : BayIx) : (s.clearOutstanding i).hold = s.hold := by
  unfold State.clearOutstanding
  split <;> simp

@[simp] theorem hold_grantTold (s : State) (k : GrantKind) (i : BayIx) (e : Ending) : (s.grantTold k i e).hold = s.hold := by
  unfold State.grantTold
  dsimp only
  repeat' split
  all_goals simp

@[simp] theorem hold_endPulse (s : State) (k : PulseSlot) (p : Pulse) (ok : Bool) : (s.endPulse k p ok).hold = s.hold := by
  simp [State.endPulse]

@[simp] theorem hold_attemptFailed (s : State) (k : PulseSlot) (p : Pulse) : (s.attemptFailed k p).hold = s.hold := by
  unfold State.attemptFailed
  split <;> simp

@[simp] theorem hold_lockTold (s : State) (k : PulseSlot) (ms : Nat) (e : Ending) : (s.lockTold k ms e).hold = s.hold := by
  unfold State.lockTold
  repeat' split
  all_goals simp

@[simp] theorem hold_verifyTold (s : State) (k : PulseSlot) (e : Ending) : (s.verifyTold k e).hold = s.hold := by
  unfold State.verifyTold
  repeat' split
  all_goals simp

@[simp] theorem hold_scanTold (s : State) : s.scanTold.hold = s.hold := rfl

@[simp] theorem hold_reconTold (s : State) (i : BayIx) (e : Ending) : (s.reconTold i e).hold = s.hold := by
  unfold State.reconTold
  repeat' split
  all_goals simp

@[simp] theorem hold_lampTold (s : State) (i : BayIx) (c : Colour) (e : Ending) : (s.lampTold i c e).hold = s.hold := by
  unfold State.lampTold
  repeat' split
  all_goals simp

/-- A transaction that ends without an answer leaves the roster; with one, where it is no TAG (R60). -/
theorem roster_told (s : State) (t : Txn) (stale : Bool) (e : Ending) (h : t.opCode ≠ 0x05 ∨ ∀ a, e ≠ .answer a) :
    (s.told t stale e).hold.1 = s.hold.1 := by
  unfold State.told
  cases t with
  | tag i recon =>
    dsimp only
    split
    · rfl
    · unfold State.tagTold
      cases e with
      | answer a =>
        obtain h | h := h
        · exact absurd rfl h
        · exact absurd rfl (h a)
      | noAnswer => dsimp only; split <;> simp
      | dropped => rfl
  | _ => simp

/-- A transaction that ends leaves the roster, but for a STATUS or a TAG answered (R56, R60). -/
theorem roster_ended (s : State) (t : Txn) (stale : Bool) (e : Ending)
    (h : (t.opCode ≠ 0x05 ∧ t.opCode ≠ 0x04) ∨ ∀ a, e ≠ .answer a) : (s.ended t stale e).hold.1 = s.hold.1 := by
  have linked : (s.linkOf t e).hold = s.hold := by
    unfold State.linkOf
    repeat' split
    all_goals simp
  have shared : ∀ u : State, (u.shareOut t e).hold = u.hold := fun u => by
    unfold State.shareOut
    split
    · next i a _ =>
      obtain ⟨-, h⟩ | h := h
      · rw [if_neg fun e => h e.1]
      · exact absurd rfl (h a)
    · rfl
  unfold State.ended
  rw [roster_told _ _ _ _ (h.imp_left And.left), shared, linked]

@[simp] theorem hold_idleLoop_fst (s : State) : s.idleLoop.hold.1 = s.hold.1 := rfl

theorem roster_failedAttempt (s : State) (o : OnLoop) : (s.failedAttempt o).hold.1 = s.hold.1 := by
  unfold State.failedAttempt
  split
  · rfl
  · rw [roster_settle, roster_ended _ _ _ _ (.inr fun a => by simp)]
    rfl

theorem roster_onAnswer (s : State) {op : Nat} (resp : List Byte) (tag : op ≠ 0x05) (status : op ≠ 0x04) :
    (s.onAnswer op resp).hold.1 = s.hold.1 := by
  unfold State.onAnswer
  split
  · split
    · next same =>
      split
      · unfold State.answered
        rw [roster_settle, roster_ended _ _ _ _ (.inl ⟨same ▸ tag, same ▸ status⟩)]
        rfl
      · rfl
    · rfl
  · rfl

theorem roster_beginNext (s : State) (n : Nat) : (s.beginNext n).hold.1 = s.hold.1 := by
  induction n generalizing s with
  | zero => rfl
  | succ n ih =>
    unfold State.beginNext
    split
    · rfl
    · split
      · rfl
      · dsimp only
        split
        · rfl
        · rw [ih, roster_ended _ _ _ _ (.inr fun a => by simp)]
          rfl

end Sys2Proof.Machine


/-! Who writes what (O60): the roster, command by command (R70). -/

namespace Sys2Proof.Machine

/-! ### Commands taken apart -/

section
variable {P : State → Prop} {s t : State}

/-- A command of a part: nothing while the reset pin is low, its effect otherwise. -/
theorem of_live {u : State} (e : live s u = .next t) (held : P s) (awake : P u) : P t := by
  have e : (if s.resetHeld then s else u) = t := Host.Outcome.next.inj e
  rw [← e]
  split
  · exact held
  · exact awake

/-- A request: nothing where no frame of its kind is to be taken, a refusal of its length, and its act. -/
theorem of_request {kind : Nat} {act : State → RxFrame → State} (e : s.request kind act = .next t) (held : P s)
    (refused : ∀ f r, P (s.reply f r [])) (taken : ∀ f, P (act s f)) : P t := by
  refine of_live e held ?_
  split
  · split
    · exact taken _
    · exact refused _ _
  · exact held

/-- A timer: nothing where it does not run, its effect at its moment otherwise (L2). -/
theorem of_atDue {due : Option Nat} {f : State → State} (still : P s) (ends : ∀ d, due = some d → P (f (s.reach d))) :
    P (s.atDue due f) := by
  cases due with
  | none => exact still
  | some d => exact ends d rfl

theorem of_pulseTimer {k : PulseSlot} {due : Pulse → Option Nat} {f : State → Pulse → State} (still : P s)
    (ends : ∀ p d, s.slot k = some p → P (f (s.reach d) p)) : P (s.pulseTimer k due f) := by
  unfold State.pulseTimer
  split
  · next p e => exact of_atDue still fun d _ => ends p d e
  · exact still

theorem of_onSession {f : RxFrame} {act : Session → State} (unknown : P (s.reply f .unknown []))
    (known : ∀ x ∈ s.sess.queue, P (act x)) : P (s.onSession f act) := by
  unfold State.onSession
  split
  · next x e => exact known x (session?_mem e)
  · exact unknown

end

/-! ### The roster -/

theorem hold_of_inletwise {k : Nat} {s t : State} (h : s.Inletwise k t) : t.hold = s.hold := by
  obtain ⟨n, e, -⟩ := h
  exact (hold_of_aside e).trans rfl

@[simp] theorem hold_brownoutTest (s : State) : s.brownoutTest.hold = s.hold :=
  hold_of_inletwise (inletwise_brownoutTest s)

theorem roster_judgeVoltage (s : State) (v : Nat) : (s.judgeVoltage v).hold.1 = s.hold.1 := by
  unfold State.judgeVoltage State.dropoutSample State.restored
  dsimp only
  split
  · split <;> simp
  · split
    · simp
    · split
      · split <;> simp
      all_goals simp

theorem roster_sample (s : State) (volts amps : Nat) : (s.sample volts amps).hold.1 = s.hold.1 := by
  unfold State.sample State.takeVoltage
  dsimp only
  rw [roster_settle, hold_of_inletwise (inletwise_takeCurrent _ _), roster_judgeVoltage]
  rfl

theorem hold_takeTemperature (s : State) (x : Int) : (s.takeTemperature x).hold = s.hold := by
  unfold State.takeTemperature
  dsimp only
  repeat' split
  all_goals simp

theorem hold_audit (s : State) : s.audit.hold = s.hold := by
  unfold State.audit
  dsimp only
  split <;> simp

theorem hold_scanNext (s : State) : s.scanNext.hold = s.hold := by
  unfold State.scanNext
  split <;> simp

theorem hold_startAttempt (s : State) (k : PulseSlot) (p : Pulse) : (s.startAttempt k p).hold = s.hold := by
  unfold State.startAttempt
  simp

theorem hold_goStandalone (s : State) : s.goStandalone.hold = s.hold := by
  unfold State.goStandalone
  simp

theorem hold_senseHoldup (s : State) (charge : Nat) : (s.senseHoldup charge).hold = s.hold := by
  unfold State.senseHoldup
  split_ifs <;> simp

theorem hold_receive (s : State) (b : Byte) (gap : Nat) : (s.receive b gap).hold = s.hold := by
  unfold State.receive State.arrive
  dsimp only
  split
  · split <;> rfl
  · rfl

theorem roster_settingActs (s : State) (i : SettingId) : (s.settingActs i).hold.1 = s.hold.1 := by
  have shares : s.refreshShares.hold = s.hold := hold_foldl _ _ _ hold_refreshShare
  cases i with
  | irate | headroom | efficiency | pfix | ppulse | qcap => simp [State.settingActs]
  | pport | fsess => simp [State.settingActs, shares]
  | autoRebuild | rebuildHoldoff => simp [State.settingActs]
  | _ => rfl

theorem roster_setNumbered (s : State) (f : RxFrame) (i : SettingId) (v : Nat) :
    (s.setNumbered f i v).hold.1 = s.hold.1 := by
  have put : ∀ n, (s.putSetting i n).hold.1 = s.hold.1 := fun n => by
    unfold State.putSetting
    split
    · rfl
    · exact (roster_settingActs _ i).trans rfl
  unfold State.setNumbered
  split
  · rfl
  · simp [put]

theorem roster_setChannel (s : State) (f : RxFrame) (c : ChanIx) (field v : Nat) :
    (s.setChannel f c field v).hold.1 = s.hold.1 := by
  unfold State.setChannel
  dsimp only
  split <;> simp

theorem hold_clearBayFault (s : State) (i : BayIx) : (s.clearBayFault i).hold = s.hold := by
  unfold State.clearBayFault
  dsimp only
  split_ifs <;> simp

theorem roster_grantRelease (s : State) (f : RxFrame) (i : BayIx) (w : Nat) (holder : Option Badge) :
    (s.grantRelease f i w holder).hold.1 = s.hold.1 := by
  unfold State.grantRelease
  simp

theorem roster_releaseNumber (s : State) (f : RxFrame) (n w : Nat) (holder : Option Badge) (force : Bool) :
    (s.releaseNumber f n w holder force).hold.1 = s.hold.1 := by
  unfold State.releaseNumber
  split
  · rfl
  · split
    · rfl
    · exact roster_grantRelease ..

theorem roster_openSession (s : State) (f : RxFrame) (i : BayIx) (k : SessClass) (charge idle : Nat) :
    (s.openSession f i k charge idle).hold.1 = s.hold.1 := by
  unfold State.openSession State.admitSession
  simp

end Sys2Proof.Machine


/-! Who writes what (O60): the frames of the other blocks, what the end of a calm event leaves of them, and what it is for
a command to leave them. -/

namespace Sys2Proof.Machine

/-! ### The power state, the loop power and the rebuild -/

/-- The power state, the course of reconciliation, the loop power, the rebuild and the bay count in force. -/
structure Works where
  power : Power
  active : Bool
  loopPower : Bool
  rebuild : Option Rebuild
  bayCount : Nat

def State.works (s : State) : Works :=
  ⟨s.power, s.cust.reconActive, s.loop.power, s.loop.rebuild, s.loop.bayCount⟩

def Ground.works (g : Ground) : Works := ⟨g.power, g.reconActive, g.loopPower, g.rebuild, g.bayCount⟩

theorem works_of_ground {s t : State} (h : t.ground = s.ground) : t.works = s.works := congrArg Ground.works h

theorem works_of_aside {s t : State} (h : t.aside = s.aside) : t.works = s.works :=
  congrArg (a₁ := t.aside) (a₂ := s.aside) State.works h

theorem works_of_still {s t : State} (h : t.still = s.still) : t.works = s.works :=
  congrArg (fun x : Still => (⟨x.power, x.cust.reconActive, x.loopPower, x.rebuild, x.bayCount⟩ : Works)) h

theorem calm_of_works {s t : State} (h : t.works = s.works) (calm : s.Calm) : t.Calm :=
  ⟨(congrArg Works.active h).trans calm.1, (congrArg (fun w => w.power.drain) h).trans calm.2⟩

/-! ### Custody -/

/-- A bay's custody state, its asset field and its release record. -/
structure Papers where
  custody : Custody
  assetId : Option AssetId
  standing : Option Standing
  release : Option Release

def Bay.papers (b : Bay) : Papers := ⟨b.custody, b.assetId, b.standing, b.release⟩

def State.papers (s : State) : BayIx → Papers := fun i => (s.bay i).papers

theorem papers_of_core {s t : State} (h : ∀ i, (t.bay i).core = (s.bay i).core) : t.papers = s.papers :=
  funext fun i => congrArg (a₁ := (t.bay i).core) (a₂ := (s.bay i).core) Bay.papers (h i)

theorem papers_of_aside {s t : State} (h : t.aside = s.aside) : t.papers = s.papers := papers_of_core (core_of_aside h)
theorem papers_of_still {s t : State} (h : t.still = s.still) : t.papers = s.papers := papers_of_core (core_of_still h)

theorem papers_of_shared {s t : State} (h : s.Shared t) : t.papers = s.papers := by
  obtain ⟨sess, round, bays, e, share⟩ := h
  funext i
  obtain ⟨n, en⟩ := share i
  unfold State.papers
  rw [en]
  rfl

@[simp] theorem papers_foldl {α : Type} (f : State → α → State) (l : List α) (s : State)
    (h : ∀ s a, (f s a).papers = s.papers) : (l.foldl f s).papers = s.papers := by
  induction l generalizing s with
  | nil => rfl
  | cons a l ih => rw [List.foldl_cons, ih, h]

@[simp] theorem papers_modBay (s : State) (i : BayIx) (f : Bay → Bay) (h : (f (s.bay i)).papers = (s.bay i).papers) :
    (s.modBay i f).papers = s.papers := by
  funext j
  unfold State.papers
  rw [bay_modBay]
  split
  · next e => rw [e]; exact h
  · rfl

@[simp] theorem papers_raise (s : State) (k : NoticeKind) (bay : Option BayIx) (asset : Option AssetId)
    (session : Option Nat) (value : Option Nat) (reason : Option Reason) :
    (s.raise k bay asset session value reason).papers = s.papers := by
  obtain ⟨n, e, -⟩ := raise_spec s k bay asset session value reason
  rw [e]; rfl

/-! ### The pulses -/

/-- Each bay at most once in the actuation queue (R98). -/
def State.QueuedOnce (s : State) : Prop := (s.arb.queue.map (·.1)).Nodup

/-- The same pulses queued or in flight. -/
def State.SamePulses (s t : State) : Prop :=
  s.QueuedOnce → t.QueuedOnce ∧ ∀ i d, t.hasPulse i d ↔ s.hasPulse i d

theorem samePulses_of_arb {s t : State} (h : t.arb = s.arb) : s.SamePulses t := fun once => by
  unfold State.QueuedOnce State.hasPulse State.slot
  rw [h]
  exact ⟨once, fun i d => Iff.rfl⟩

theorem State.SamePulses.trans {s t u : State} (h : s.SamePulses t) (k : t.SamePulses u) : s.SamePulses u := fun once =>
  have ⟨mid, same⟩ := h once
  have ⟨last, same'⟩ := k mid
  ⟨last, fun i d => (same' i d).trans (same i d)⟩

theorem hasPulse_iff {s : State} {i : BayIx} {d : Dir} : s.hasPulse i d ↔ (i, d) ∈ s.arb.queue ∨
    (∃ p, s.arb.slotA = some p ∧ p.bay = i ∧ p.dir = d) ∨ ∃ p, s.arb.slotB = some p ∧ p.bay = i ∧ p.dir = d := by
  refine or_congr_right ⟨?_, ?_⟩
  · rintro ⟨k, p, h⟩
    cases k with
    | a => exact .inl ⟨p, h⟩
    | b => exact .inr ⟨p, h⟩
  · rintro (⟨p, h⟩ | ⟨p, h⟩)
    · exact ⟨.a, p, h⟩
    · exact ⟨.b, p, h⟩

theorem queuedOnce_mem {q : List (BayIx × Dir)} (once : (q.map (·.1)).Nodup) {b : BayIx} {d₀ : Dir} (h : (b, d₀) ∈ q)
    (i : BayIx) (d : Dir) : (i, d) ∈ q ↔ (i, d) ∈ q.filter (fun x => x.1 ≠ b) ∨ b = i ∧ d₀ = d := by
  rw [List.mem_filter]
  by_cases e : b = i
  · subst e
    have only : (b, d) ∈ q ↔ d₀ = d :=
      ⟨fun h' => congrArg Prod.snd (List.inj_on_of_nodup_map once h h' rfl), fun e => e ▸ h⟩
    simp [only]
  · simp [e, Ne.symm e]

/-- A pulse taken from the queue into a free slot is the same pulse (R100). -/
theorem samePulses_granted {s t : State} {k : PulseSlot} {p : Pulse} (queued : (p.bay, p.dir) ∈ s.arb.queue)
    (free : s.slot k = none) (queue : t.arb.queue = s.arb.queue.filter fun x => x.1 ≠ p.bay)
    (slots : ∀ j, t.slot j = if j = k then some p else s.slot j) : s.SamePulses t := by
  intro once
  refine ⟨?_, fun i d => ?_⟩
  · unfold State.QueuedOnce
    rw [queue]
    exact once.sublist (List.filter_sublist.map _)
  · unfold State.hasPulse
    rw [queue, queuedOnce_mem once queued i d]
    constructor
    · rintro (h | ⟨j, q, h, e⟩)
      · exact .inl (.inl h)
      · rw [slots] at h
        split at h
        · cases h; exact .inl (.inr e)
        · exact .inr ⟨j, q, h, e⟩
    · rintro ((h | e) | ⟨j, q, h, e⟩)
      · exact .inl h
      · exact .inr ⟨k, p, by rw [slots, if_pos rfl], e⟩
      · refine .inr ⟨j, q, ?_, e⟩
        rw [slots, if_neg, h]
        rintro rfl
        rw [free] at h
        cases h

theorem slot_startAttempt (s : State) (k j : PulseSlot) (p : Pulse) : (s.startAttempt k p).slot j =
    if j = k then some { p with ms := s.cfg .pulseLength, busy := 0, phase := .sending none } else s.slot j := by
  cases k <;> cases j <;> rfl

theorem queue_startAttempt (s : State) (k : PulseSlot) (p : Pulse) : (s.startAttempt k p).arb.queue = s.arb.queue := by
  cases k <;> rfl

/-- The slot that a grant takes is free (R100). -/
theorem granted_free {s : State} (room : s.busySlots < s.slotLimit) :
    s.slot (if s.arb.slotA.isNone then .a else .b) = none := by
  have limit : s.slotLimit ≤ 2 := by unfold State.slotLimit; split_ifs <;> omega
  have busy : s.busySlots < 2 := by omega
  unfold State.busySlots at busy
  unfold State.slot
  cases a : s.arb.slotA with
  | none => simpa using a
  | some p => cases b : s.arb.slotB with
    | none => simpa using b
    | some q => simp [a, b] at busy

theorem samePulses_grantSlot (s : State) : s.SamePulses s.grantSlot := by
  unfold State.grantSlot
  split
  case isFalse => exact samePulses_of_arb rfl
  case isTrue room =>
    split
    case h_1 => exact samePulses_of_arb rfl
    case h_2 e found =>
      have free := granted_free room
      dsimp only
      generalize (if s.arb.slotA.isNone then PulseSlot.a else .b) = k at free ⊢
      refine samePulses_granted (k := k) (p := ⟨e.1, e.2, 1, s.cfg .pulseLength, 0, .sending none⟩)
        (List.mem_of_find?_eq_some found) free (queue_startAttempt ..) fun j => ?_
      rw [slot_startAttempt]
      rfl

theorem samePulses_grantSlots (s : State) : s.SamePulses s.grantSlots :=
  (samePulses_grantSlot s).trans (samePulses_grantSlot _)

theorem samePulses_settle {s : State} (calm : s.Calm) : s.SamePulses s.settle := by
  have tail : ∀ u : State, u.roundOn.judgeEligible.deriveLamps.lines.arb = u.arb := fun u => by
    have aside : u.roundOn.judgeEligible.deriveLamps.aside = u.aside := by simp
    generalize u.roundOn.judgeEligible.deriveLamps = v at aside ⊢
    exact (arb_of_aside aside :)
  have granted := samePulses_grantSlots s
  have drain : s.grantSlots.power.drain = none :=
    (congrArg Power.drain (power_of_still (still_grantSlots s))).trans calm.2
  rw [settle_eq calm.1]
  generalize s.grantSlots = u at granted drain ⊢
  have idle : u.drainCheck = u := if_neg (by simp [drain])
  rw [idle]
  exact granted.trans (samePulses_of_arb (tail u))

/-- A pulse of a slot in another phase is the same pulse. -/
theorem samePulses_setSlot {s : State} {k : PulseSlot} {p q : Pulse} (h : s.slot k = some p) (bay : q.bay = p.bay)
    (dir : q.dir = p.dir) : s.SamePulses (s.setSlot k (some q)) := by
  intro once
  refine ⟨by cases k <;> exact once, fun i d => ?_⟩
  rw [hasPulse_iff, hasPulse_iff]
  cases k <;> (change _ = some p at h; simp_all [State.setSlot, State.slot])

/-! ### What an event leaves of the blocks that are not its own -/

/-- A command's work leaves the blocks that its kind does not move. -/
structure Footprint (c : Instr) (s t : State) : Prop where
  roster : mayMoveRoster c = false → t.cust.roster = s.cust.roster
  power : mayMovePower c = false → t.power = s.power ∧ t.cust.reconActive = s.cust.reconActive
  rebuild : mayMoveRebuild c = false → t.works = s.works
  line : mayMoveLine c = false → t.line = s.line
  sess : mayMoveSessions c = false → s.Calm → t.sess = s.sess
  papers : mayMoveCustody c = false → t.papers = s.papers
  pulses : mayMoveCustody c = false → s.SamePulses t

/-- An event of a command: its work, and the end of an event after it where it has one. -/
inductive State.Event (c : Instr) (s : State) : State → Prop
  | ends {t : State} : Footprint c s t → s.Event c t
  | settles {t : State} : Footprint c s t → s.Event c t.settle

section
variable {c : Instr} {s t : State}

theorem Footprint.refl (c : Instr) (s : State) : Footprint c s s :=
  ⟨fun _ => rfl, fun _ => ⟨rfl, rfl⟩, fun _ => rfl, fun _ => rfl, fun _ _ => rfl, fun _ => rfl,
    fun _ => samePulses_of_arb rfl⟩

/-- The end of the event is calm where the event does not move the power state. -/
theorem Footprint.settle (h : Footprint c s t) (calm : s.Calm) (own : mayMovePower c = false) :
    Footprint c s t.settle := by
  obtain ⟨roster, power, rebuild, line, sess, papers, pulses⟩ := h
  obtain ⟨power', active⟩ := power own
  have calm' : t.Calm := ⟨active.trans calm.1, (congrArg Power.drain power').trans calm.2⟩
  have still := still_settle t calm'
  have same := samePulses_settle calm'
  generalize t.settle = u at still same
  exact ⟨fun m => (congrArg CustodyUnit.roster (cust_of_still still)).trans (roster m),
    fun _ => ⟨(power_of_still still).trans power', (congrArg CustodyUnit.reconActive (cust_of_still still)).trans active⟩,
    fun m => (works_of_still still).trans (rebuild m),
    fun m => (line_of_hold (hold_of_still still)).trans (line m),
    fun m calm => (congrArg Still.sess still).trans (sess m calm), fun m => (papers_of_still still).trans (papers m),
    fun m => (pulses m).trans same⟩

/-- The roster is left at the end of an event, calm or not (R70). -/
theorem State.Event.roster (h : s.Event c t) (own : mayMoveRoster c = false) : t.cust.roster = s.cust.roster := by
  cases h with
  | ends h => exact h.roster own
  | @settles u h =>
    have kept := roster_settle u
    generalize u.settle = t at kept ⊢
    exact Eq.trans kept (h.roster own)

theorem State.Event.footprint (h : s.Event c t) (calm : s.Calm) (own : mayMovePower c = false) : Footprint c s t := by
  cases h with
  | ends h => exact h
  | settles h => exact h.settle calm own

theorem mayMoveRebuild_of_power (h : mayMovePower c = true) : mayMoveRebuild c = true := by simp [mayMoveRebuild, h]
theorem mayMoveLine_of_rebuild (h : mayMoveRebuild c = true) : mayMoveLine c = true := by simp [mayMoveLine, h]
theorem mayMoveSessions_of_power (h : mayMovePower c = true) : mayMoveSessions c = true := by simp [mayMoveSessions, h]
theorem mayMoveCustody_of_power (h : mayMovePower c = true) : mayMoveCustody c = true := by simp [mayMoveCustody, h]

/-- The commands of the power state leave the roster. -/
theorem Footprint.powerful (own : mayMovePower c = true) (roster : t.hold.1 = s.hold.1) : Footprint c s t := by
  have rebuild := mayMoveRebuild_of_power own
  have line := mayMoveLine_of_rebuild rebuild
  have sess := mayMoveSessions_of_power own
  have papers := mayMoveCustody_of_power own
  constructor <;> intro m
  · exact roster
  all_goals simp_all

/-- A command of the sessions or of custody alone. -/
theorem Footprint.of_ground (ground : t.works = s.works) (line : t.line = s.line)
    (roster : mayMoveRoster c = false → t.cust.roster = s.cust.roster)
    (sess : mayMoveSessions c = false → s.Calm → t.sess = s.sess) (papers : mayMoveCustody c = false → t.papers = s.papers)
    (pulses : mayMoveCustody c = false → s.SamePulses t) : Footprint c s t where
  roster := roster
  power _ := ⟨congrArg Works.power ground, congrArg Works.active ground⟩
  rebuild _ := ground
  line _ := line
  sess := sess
  papers := papers
  pulses := pulses

end

end Sys2Proof.Machine


/-! Who writes what (O60): what the work of the sessions and the ready set leaves of the other blocks, and what the work of
custody leaves of the sessions. -/

namespace Sys2Proof.Machine

/-! ### All but the sessions -/

/-- The blocks but for the sessions. -/
def State.apart (s : State) : Works × (List Entry × Option Txn) × (BayIx → Papers) × Arbiter :=
  (s.works, s.hold, s.papers, s.arb)

section
variable {s t : State}

theorem apart_of (works : t.works = s.works) (hold : t.hold = s.hold) (papers : t.papers = s.papers) (arb : t.arb = s.arb) :
    t.apart = s.apart := by
  unfold State.apart
  rw [works, hold, papers, arb]

theorem works_of_apart (h : t.apart = s.apart) : t.works = s.works := congrArg Prod.fst h
theorem hold_of_apart (h : t.apart = s.apart) : t.hold = s.hold := congrArg (·.2.1) h
theorem papers_of_apart (h : t.apart = s.apart) : t.papers = s.papers := congrArg (·.2.2.1) h
theorem arb_of_apart (h : t.apart = s.apart) : t.arb = s.arb := congrArg (·.2.2.2) h

theorem apart_of_aside (h : t.aside = s.aside) : t.apart = s.apart :=
  apart_of (works_of_aside h) (hold_of_aside h) (papers_of_aside h) (arb_of_aside h)

theorem apart_of_shared (h : s.Shared t) : t.apart = s.apart := by
  have papers := papers_of_shared h
  obtain ⟨sess, round, bays, e, -⟩ := h
  subst e
  exact apart_of rfl rfl papers rfl

variable {c : Instr}

/-- The work of the sessions. -/
theorem Footprint.of_apart (h : t.apart = s.apart) (own : mayMoveSessions c = true) : Footprint c s t :=
  .of_ground (works_of_apart h) (line_of_hold (hold_of_apart h)) (fun _ => roster_of_hold (hold_of_apart h))
    (fun m => absurd own (by simp [m])) (fun _ => papers_of_apart h) fun _ => samePulses_of_arb (arb_of_apart h)

/-- Work that leaves every block. -/
theorem Footprint.of_blocks (h : t.apart = s.apart) (sess : t.sess = s.sess) : Footprint c s t :=
  .of_ground (works_of_apart h) (line_of_hold (hold_of_apart h)) (fun _ => roster_of_hold (hold_of_apart h))
    (fun _ _ => sess) (fun _ => papers_of_apart h) fun _ => samePulses_of_arb (arb_of_apart h)
end

@[simp] theorem apart_foldl {α : Type} (f : State → α → State) (l : List α) (s : State)
    (h : ∀ s a, (f s a).apart = s.apart) : (l.foldl f s).apart = s.apart := by
  induction l generalizing s with
  | nil => rfl
  | cons a l ih => rw [List.foldl_cons, ih, h]

@[simp] theorem apart_modBay (s : State) (i : BayIx) (f : Bay → Bay) (h : (f (s.bay i)).papers = (s.bay i).papers) :
    (s.modBay i f).apart = s.apart := apart_of rfl rfl (papers_modBay s i f h) rfl

@[simp] theorem apart_raise (s : State) (k : NoticeKind) (bay : Option BayIx) (asset : Option AssetId)
    (session : Option Nat) (value : Option Nat) (reason : Option Reason) :
    (s.raise k bay asset session value reason).apart = s.apart := by
  obtain ⟨n, e, -⟩ := raise_spec s k bay asset session value reason
  rw [e]; rfl

@[simp] theorem apart_place (s : State) (t : Txn) : (s.place t).apart = s.apart := apart_of_aside (aside_place s t)
@[simp] theorem apart_markPending (s : State) : s.markPending.apart = s.apart := rfl
@[simp] theorem apart_refreshShare (s : State) (i : BayIx) : (s.refreshShare i).apart = s.apart :=
  apart_of_shared (shared_refreshShare s i)
@[simp] theorem apart_dispatch (s : State) : s.dispatch.apart = s.apart := apart_of_shared (shared_dispatch s)
@[simp] theorem apart_recomputePool (s : State) : s.recomputePool.apart = s.apart := apart_of_aside (aside_recomputePool s)

@[simp] theorem apart_leaveQueue (s : State) (x : Session) : (s.leaveQueue x).apart = s.apart := by
  unfold State.leaveQueue
  split <;> rfl

@[simp] theorem apart_channelFreed (s : State) (x : Session) : (s.channelFreed x).apart = s.apart := by
  unfold State.channelFreed
  split
  · split <;> simp
  · rfl

@[simp] theorem apart_endSessionAs (s : State) (id : Nat) (o : SessOutcome) (asset : Option AssetId) :
    (s.endSessionAs id o asset).apart = s.apart := by
  unfold State.endSessionAs
  split
  · rfl
  · dsimp only
    rw [apart_channelFreed]
    split
    · rw [apart_raise, apart_modBay _ _ _ rfl, apart_leaveQueue]
    · rw [apart_refreshShare, apart_raise, apart_modBay _ _ _ rfl, apart_leaveQueue]

@[simp] theorem apart_endSession (s : State) (id : Nat) (o : SessOutcome) : (s.endSession id o).apart = s.apart := by
  unfold State.endSession
  split <;> simp

@[simp] theorem apart_endSessionsIn (s : State) (p : SessState → Bool) (o : SessOutcome) :
    (s.endSessionsIn p o).apart = s.apart := by
  unfold State.endSessionsIn
  simp

@[simp] theorem apart_chanOf (s : State) (x : Session) (f : Channel → Channel) : (s.chanOf x f).apart = s.apart := by
  unfold State.chanOf
  split <;> rfl

theorem apart_linkUpSession (s : State) (x : Session) : (s.linkUpSession x).apart = s.apart := by
  unfold State.linkUpSession
  rw [apart_raise, apart_chanOf]
  rfl

theorem apart_finishActive (s : State) (x : Session) (ok : Bool) : (s.finishActive x ok).apart = s.apart := by
  unfold State.finishActive
  rw [apart_chanOf]
  rfl

theorem apart_admitSession (s : State) (i : BayIx) (k : SessClass) (minCharge idleLimit : Nat) :
    (s.admitSession i k minCharge idleLimit).apart = s.apart := by
  unfold State.admitSession
  rw [apart_dispatch]
  rfl

/-! ### The ready set and the inlet -/

theorem sess_refreshShares (l : List BayIx) (s : State) : (l.foldl State.refreshShare s).sess = s.sess := by
  induction l generalizing s with
  | nil => rfl
  | cons i l ih => rw [List.foldl_cons, ih, refreshShare_sess]

@[simp] theorem sess_raise (s : State) (k : NoticeKind) (bay : Option BayIx) (asset : Option AssetId)
    (session : Option Nat) (value : Option Nat) (reason : Option Reason) :
    (s.raise k bay asset session value reason).sess = s.sess := by
  obtain ⟨n, e, -⟩ := raise_spec s k bay asset session value reason
  rw [e]

@[simp] theorem sess_recomputePool (s : State) : s.recomputePool.sess = s.sess := sess_of_aside (aside_recomputePool s)
@[simp] theorem sess_place (s : State) (t : Txn) : (s.place t).sess = s.sess := sess_of_aside (aside_place s t)

theorem blocks_emptyReady (s : State) (why : Reason) :
    (s.emptyReady why).apart = s.apart ∧ (s.emptyReady why).sess = s.sess := by
  unfold State.emptyReady
  split
  · exact ⟨rfl, rfl⟩
  · exact ⟨by rw [apart_foldl _ _ _ apart_refreshShare, apart_raise]; rfl, by rw [sess_refreshShares, sess_raise]⟩

theorem blocks_prepareReady (s : State) (n : Nat) :
    (s.prepareReady n).apart = s.apart ∧ (s.prepareReady n).sess = s.sess := by
  have said : s.sayReadyCleared.apart = s.apart ∧ s.sayReadyCleared.sess = s.sess := by
    unfold State.sayReadyCleared
    split <;> simp
  unfold State.prepareReady
  dsimp only
  exact ⟨by rw [apart_foldl _ _ _ apart_refreshShare]; exact said.1, by rw [sess_refreshShares]; exact said.2⟩

theorem blocks_takeTemperature (s : State) (x : Int) :
    (s.takeTemperature x).apart = s.apart ∧ (s.takeTemperature x).sess = s.sess := by
  unfold State.takeTemperature
  dsimp only
  generalize hu : { s with inlet := { s.inlet with tc := tcOf x, derate := deratingOf (tcOf x), sensorFault := badReading x } } = u
  have same : u.apart = s.apart ∧ u.sess = s.sess := hu ▸ ⟨rfl, rfl⟩
  clear hu
  repeat' split
  all_goals simpa using same

theorem blocks_audit (s : State) : s.audit.apart = s.apart ∧ s.audit.sess = s.sess := by
  unfold State.audit
  dsimp only
  split
  · exact ⟨rfl, rfl⟩
  · exact ⟨by rw [apart_recomputePool]; rfl, by rw [sess_recomputePool]⟩

/-! ### The sessions, which the work of custody leaves -/

@[simp] theorem sess_modBay (s : State) (i : BayIx) (f : Bay → Bay) : (s.modBay i f).sess = s.sess := rfl
@[simp] theorem sess_markPending (s : State) : s.markPending.sess = s.sess := rfl

@[simp] theorem sess_leaveReady (s : State) (i : BayIx) (why : Option Reason) : (s.leaveReady i why).sess = s.sess := by
  unfold State.leaveReady
  split
  · dsimp only
    rw [refreshShare_sess]
    split <;> simp
  · rfl

@[simp] theorem sess_stopSeating (s : State) (i : BayIx) : (s.stopSeating i).sess = s.sess :=
  sess_of_scene (scene_stopSeating s i)

/-- A bay that becomes anything but Locked evaluates no dispatch (R119). -/
theorem sess_become (s : State) (i : BayIx) {c : Custody} (h : c ≠ .locked) : (s.become i c).sess = s.sess := by
  unfold State.become
  dsimp only
  rw [if_neg h, if_neg fun e => h e.1]
  have left := (sess_stopSeating (s.leaveReady i (some .custody)) i).trans (sess_leaveReady ..)
  generalize (s.leaveReady i (some .custody)).stopSeating i = u at left ⊢
  split <;> exact left

@[simp] theorem sess_askBolt (s : State) (i : BayIx) (d : Dir) : (s.askBolt i d).sess = s.sess := by
  unfold State.askBolt
  split
  · rfl
  · split <;> rfl
  · rfl

@[simp] theorem sess_dropBolt (s : State) (i : BayIx) : (s.dropBolt i).sess = s.sess := by
  unfold State.dropBolt
  split <;> rfl

@[simp] theorem sess_engageBay (s : State) (i : BayIx) : (s.engageBay i).sess = s.sess := by
  unfold State.engageBay
  split <;> simp

@[simp] theorem sess_secureBay (s : State) (i : BayIx) : (s.secureBay i).sess = s.sess := by
  unfold State.secureBay
  rw [sess_engageBay, sess_become _ _ (by simp)]

theorem sess_windowEnds (s : State) (i : BayIx) : (s.windowEnds i).sess = s.sess := by
  simp [State.windowEnds]

theorem drainMind_idle {s : State} (h : s.power.drain = none) (i : BayIx) : s.drainMind i = s := by
  unfold State.drainMind
  rw [h]

theorem unjamTo_ne_locked (d : Dir) (o : JamOrigin) (p : Option Bool) : unjamTo d o p ≠ .locked := by
  unfold unjamTo
  repeat' split
  all_goals simp

end Sys2Proof.Machine


/-! Who writes what (O60): the power state, the loop power and the rebuild, which the endings of a client's transactions
leave; the custody fields and the pulses, which the endings of a GRANT and a LAMP leave; the sessions, which the
transactions dropped leave. -/

namespace Sys2Proof.Machine

/-! ### The decisions of reconciliation leave the ground -/

@[simp] theorem ground_leaveEmpty (s : State) (i : BayIx) (bolt : Bolt) : (s.leaveEmpty i bolt).ground = s.ground := by
  unfold State.leaveEmpty
  split <;> simp

@[simp] theorem ground_mendHeld (s : State) (i : BayIx) (bolt : Bolt) : (s.mendHeld i bolt).ground = s.ground := by
  unfold State.mendHeld
  split <;> simp

@[simp] theorem ground_mismatch (s : State) (i : BayIx) (why : Reason) : (s.mismatch i why).ground = s.ground := by
  simp [State.mismatch]

@[simp] theorem ground_foundGone (s : State) (i : BayIx) (bolt : Bolt) : (s.foundGone i bolt).ground = s.ground := by
  simp [State.foundGone]

@[simp] theorem ground_foundSwapped (s : State) (i : BayIx) (bolt : Bolt) (r : HeldReason) (read : Option AssetId) :
    (s.foundSwapped i bolt r read).ground = s.ground := by
  simp [State.foundSwapped]

@[simp] theorem ground_foundTaken (s : State) (i : BayIx) (bolt : Bolt) : (s.foundTaken i bolt).ground = s.ground := by
  simp [State.foundTaken]

@[simp] theorem ground_decideKept (s : State) (i : BayIx) (presence : Bool) (bolt : Bolt) (read : Option AssetId) :
    (s.decideKept i presence bolt read).ground = s.ground := by
  unfold State.decideKept
  dsimp only
  repeat' split
  all_goals simp

@[simp] theorem ground_decideHeld (s : State) (i : BayIx) (presence : Bool) (bolt : Bolt) (read : Option AssetId) :
    (s.decideHeld i presence bolt read).ground = s.ground := by
  unfold State.decideHeld
  repeat' split
  all_goals simp

@[simp] theorem ground_decideEmpty (s : State) (i : BayIx) (presence : Bool) (bolt : Bolt) :
    (s.decideEmpty i presence bolt).ground = s.ground := by
  unfold State.decideEmpty
  dsimp only
  repeat' split
  all_goals simp

@[simp] theorem ground_decideOpen (s : State) (i : BayIx) (presence : Bool) (bolt : Bolt) :
    (s.decideOpen i presence bolt).ground = s.ground := by
  unfold State.decideOpen
  split <;> simp

@[simp] theorem ground_decideWarm (s : State) (i : BayIx) (presence : Bool) (bolt : Bolt) (read : Option AssetId) :
    (s.decideWarm i presence bolt read).ground = s.ground := by
  unfold State.decideWarm
  repeat' split
  all_goals simp

@[simp] theorem ground_decideCold (s : State) (i : BayIx) (presence : Bool) (bolt : Bolt) :
    (s.decideCold i presence bolt).ground = s.ground := by
  unfold State.decideCold
  repeat' split
  all_goals simp

/-! ### The works of the endings -/

@[simp] theorem works_modBay (s : State) (i : BayIx) (f : Bay → Bay) : (s.modBay i f).works = s.works := rfl
@[simp] theorem works_place (s : State) (t : Txn) : (s.place t).works = s.works := works_of_ground (ground_place s t)
@[simp] theorem works_compareLamp (s : State) (i : BayIx) : (s.compareLamp i).works = s.works :=
  works_of_ground (ground_compareLamp s i)
@[simp] theorem works_setGrants (s : State) (i : BayIx) (a c : Nat) : (s.setGrants i a c).works = s.works := by
  unfold State.setGrants
  split <;> rfl
@[simp] theorem works_setSlot (s : State) (k : PulseSlot) (p : Option Pulse) : (s.setSlot k p).works = s.works := by
  cases k <;> rfl
@[simp] theorem works_markPending (s : State) : s.markPending.works = s.works := rfl
@[simp] theorem works_refreshShare (s : State) (i : BayIx) : (s.refreshShare i).works = s.works :=
  works_of_ground (ground_refreshShare s i)
@[simp] theorem works_dispatch (s : State) : s.dispatch.works = s.works := works_of_ground (ground_dispatch s)
@[simp] theorem works_leaveReady (s : State) (i : BayIx) (why : Option Reason) : (s.leaveReady i why).works = s.works :=
  works_of_ground (ground_leaveReady s i why)
@[simp] theorem works_raise (s : State) (k : NoticeKind) (bay : Option BayIx) (asset : Option AssetId)
    (session : Option Nat) (value : Option Nat) (reason : Option Reason) :
    (s.raise k bay asset session value reason).works = s.works := works_of_ground (ground_raise ..)
@[simp] theorem works_faultGrant (s : State) (i : BayIx) : (s.faultGrant i).works = s.works :=
  works_of_ground (ground_faultGrant s i)
@[simp] theorem works_attemptFailed (s : State) (k : PulseSlot) (p : Pulse) : (s.attemptFailed k p).works = s.works :=
  works_of_ground (ground_attemptFailed s k p)
@[simp] theorem works_clearOutstanding (s : State) (i : BayIx) : (s.clearOutstanding i).works = s.works :=
  works_of_ground (ground_clearOutstanding s i)
@[simp] theorem works_grantEnded (s : State) (k : GrantKind) (i : BayIx) : (s.grantEnded k i).works = s.works :=
  works_of_ground (ground_grantEnded s k i)

theorem works_decide (s : State) (i : BayIx) (read : Option AssetId) : (s.decide i read).works = s.works := by
  have begun : (((s.dropBolt i).stopSeating i).modBay i fun b => { b with admission := false, recon := .none }).works =
      s.works := by
    rw [works_modBay]
    exact works_of_ground (by simp)
  unfold State.decide
  dsimp only
  rw [works_compareLamp]
  generalize (((s.dropBolt i).stopSeating i).modBay i fun b => { b with admission := false, recon := .none }) = u
    at begun ⊢
  split
  · exact (works_of_ground (ground_decideWarm ..)).trans begun
  · exact (works_of_ground (ground_decideCold ..)).trans begun

theorem works_reconReport (s : State) (i : BayIx) : (s.reconReport i).works = s.works := by
  unfold State.reconReport
  dsimp only
  repeat' split
  · simp
  · rfl
  · exact works_decide ..

theorem works_custodyReport (s : State) (i : BayIx) (k : Block) : (s.custodyReport i k).works = s.works := by
  unfold State.custodyReport
  dsimp only
  split
  · exact (works_of_ground ((ground_buttonPress ..).trans (ground_judge ..))).trans (works_modBay s i _)
  · exact (works_reconReport ..).trans (works_modBay s i _)

theorem works_takeOverdraw (s : State) (i : BayIx) (why : Reason) : (s.takeOverdraw i why).works = s.works := by
  simp [State.takeOverdraw]

theorem works_applyCharge (s : State) (i : BayIx) (k : Block) : (s.applyCharge i k).works = s.works := by
  have stored : (s.storeCharge i k).works = s.works := by simp [State.storeCharge]
  have overdrawn : ∀ u : State, (u.testOverdraw i).works = u.works := fun u => by
    unfold State.testOverdraw
    dsimp only
    repeat' split
    all_goals simp [works_takeOverdraw]
  have shorted : ∀ u : State, (u.testShort i).works = u.works := fun u => by
    unfold State.testShort
    split <;> simp [works_takeOverdraw]
  have heated : ∀ u : State, (u.testHot i).works = u.works := fun u => by
    unfold State.testHot State.takeHot
    dsimp only
    repeat' split
    all_goals simp
  unfold State.applyCharge
  dsimp only
  have all : ((((s.storeCharge i k).testOverdraw i).testShort i).testHot i).works = s.works := by
    rw [heated, shorted, overdrawn, stored]
  generalize (((s.storeCharge i k).testOverdraw i).testShort i).testHot i = u at all ⊢
  split <;> simp [all]

theorem works_linkOf (s : State) (t : Txn) (e : Ending) : (s.linkOf t e).works = s.works := by
  have heard : ∀ i, (s.heard i).works = s.works := fun i => by
    unfold State.heard State.relink
    split
    · exact (works_of_ground (ground_grantSlots _)).trans (works_dispatch _)
    · rfl
  have missed : ∀ i, (s.missed i).works = s.works := fun i => by
    unfold State.missed State.linkLost
    dsimp only
    split
    · split
      · rw [works_leaveReady, works_of_ground (ground_stopSeating _ _), works_raise]
        rfl
      · rfl
    · rfl
  unfold State.linkOf
  split
  · rfl
  · split
    · exact heard _
    · exact missed _
    · rfl

theorem works_shareOut (s : State) (t : Txn) (e : Ending) : (s.shareOut t e).works = s.works := by
  unfold State.shareOut
  split
  · split
    · unfold State.distribute
      rw [works_compareLamp, works_applyCharge, works_custodyReport]
    · rfl
  · rfl

theorem works_tagTold (s : State) (i : BayIx) (recon : Bool) (e : Ending) : (s.tagTold i recon e).works = s.works := by
  have ends : ∀ id, (s.readEnds i recon id).works = s.works := fun id => by
    unfold State.readEnds
    split
    · exact works_decide ..
    · exact works_of_ground (ground_identified ..)
  unfold State.tagTold
  repeat' split
  all_goals simp [ends]

theorem works_grantTold (s : State) (k : GrantKind) (i : BayIx) (e : Ending) : (s.grantTold k i e).works = s.works := by
  unfold State.grantTold
  dsimp only
  repeat' split
  all_goals simp

theorem works_reconTold (s : State) (i : BayIx) (e : Ending) : (s.reconTold i e).works = s.works := by
  unfold State.reconTold
  repeat' split
  all_goals simp

theorem works_lampTold (s : State) (i : BayIx) (c : Colour) (e : Ending) : (s.lampTold i c e).works = s.works := by
  unfold State.lampTold
  repeat' split
  all_goals simp

/-- A transaction addressed to a bay ends without a change of the power state, the loop power or the rebuild. -/
theorem works_ended (s : State) {t : Txn} {i : BayIx} (bay : t.bay? = some i) (stale : Bool) (e : Ending) :
    (s.ended t stale e).works = s.works := by
  have told : ∀ u : State, (u.told t stale e).works = u.works := fun u => by
    unfold State.told
    cases t with
    | lock k j d ms => exact works_of_ground (ground_lockTold ..)
    | verify k j => exact works_of_ground (ground_verifyTold ..)
    | grant k j w => exact works_grantTold ..
    | tag j recon =>
      dsimp only
      split
      · rfl
      · exact works_tagTold ..
    | scan j => rfl
    | recon j => exact works_reconTold ..
    | lamp j c => exact works_lampTold ..
    | _ => cases bay
  unfold State.ended
  rw [told, works_shareOut, works_linkOf]

/-! ### GRANT and LAMP answered: custody and the pulses -/

@[simp] theorem papers_setGrants (s : State) (i : BayIx) (a c : Nat) : (s.setGrants i a c).papers = s.papers := by
  unfold State.setGrants
  split
  · rfl
  · exact papers_modBay s i (fun b => { b with applied := a, commanded := c }) rfl

@[simp] theorem papers_clearOutstanding (s : State) (i : BayIx) : (s.clearOutstanding i).papers = s.papers := by
  unfold State.clearOutstanding
  split
  · rfl
  · exact papers_modBay _ _ _ rfl

@[simp] theorem papers_grantEnded (s : State) (k : GrantKind) (i : BayIx) : (s.grantEnded k i).papers = s.papers := by
  unfold State.grantEnded
  repeat' split
  all_goals rfl

theorem papers_heard (s : State) (i : BayIx) : (s.heard i).papers = s.papers := by
  unfold State.heard State.relink
  split
  · rw [papers_of_still (still_grantSlots _), papers_of_shared (shared_dispatch _), papers_modBay _ _ _ rfl]
  · exact papers_modBay _ _ _ rfl

theorem samePulses_heard (s : State) (i : BayIx) : s.SamePulses (s.heard i) := by
  unfold State.heard State.relink
  split
  · refine State.SamePulses.trans ?_ (samePulses_grantSlots _)
    exact samePulses_of_arb ((arb_of_apart (apart_dispatch _)).trans rfl)
  · exact samePulses_of_arb rfl

theorem papers_grantTold (s : State) (k : GrantKind) (i : BayIx) (e : Ending) :
    (s.grantTold k i e).papers = s.papers := by
  unfold State.grantTold
  dsimp only
  repeat' split
  all_goals simp

theorem arb_grantTold (s : State) (k : GrantKind) (i : BayIx) (e : Ending) : (s.grantTold k i e).arb = s.arb := by
  have ended : ∀ u : State, (u.grantEnded k i).arb = u.arb := fun u => by
    unfold State.grantEnded
    repeat' split
    all_goals rfl
  have cleared : ∀ u : State, (u.clearOutstanding i).arb = u.arb := fun u => by
    unfold State.clearOutstanding
    split <;> rfl
  unfold State.grantTold
  dsimp only
  rw [ended, cleared]
  repeat' split
  all_goals simp [setGrants_arb]

theorem blocks_lampTold (s : State) (i : BayIx) (c : Colour) (e : Ending) :
    (s.lampTold i c e).papers = s.papers ∧ (s.lampTold i c e).arb = s.arb := by
  have same : ∀ f : Bay → Bay, (f (s.bay i)).papers = (s.bay i).papers →
      (s.modBay i f).papers = s.papers ∧ (s.modBay i f).arb = s.arb := fun f h => ⟨papers_modBay s i f h, rfl⟩
  have compared : ∀ u : State, (u.compareLamp i).papers = u.papers ∧ (u.compareLamp i).arb = u.arb := fun u =>
    ⟨papers_of_aside (aside_compareLamp u i), arb_of_aside (aside_compareLamp u i)⟩
  unfold State.lampTold
  split
  · split
    · obtain ⟨papers, arb⟩ := compared (s.modBay i fun b => { b with lampShown := some c })
      exact ⟨papers.trans (same _ rfl).1, arb.trans (same _ rfl).2⟩
    · exact same _ rfl
  · exact same _ rfl
  · exact ⟨rfl, rfl⟩

/-- A GRANT or a LAMP answered leaves custody and the pulses (R39, R76). -/
theorem custody_ended (s : State) {t : Txn} (op : t.opCode = 0x06 ∨ t.opCode = 0x08) (stale : Bool) (a : Answer) :
    (s.ended t stale (.answer a)).papers = s.papers ∧ s.SamePulses (s.ended t stale (.answer a)) := by
  have papers := papers_heard s
  have pulses := samePulses_heard s
  cases t with
  | grant k i w =>
    have e : s.ended (.grant k i w) stale (.answer a) = (s.heard i).grantTold k i (.answer a) := rfl
    rw [e]
    exact ⟨(papers_grantTold ..).trans (papers i), (pulses i).trans (samePulses_of_arb (arb_grantTold ..))⟩
  | lamp i c =>
    have e : s.ended (.lamp i c) stale (.answer a) = (s.heard i).lampTold i c (.answer a) := rfl
    rw [e]
    obtain ⟨papers', arb⟩ := blocks_lampTold (s.heard i) i c (.answer a)
    exact ⟨papers'.trans (papers i), (pulses i).trans (samePulses_of_arb arb)⟩
  | _ => simp [Txn.opCode] at op

/-! ### Transactions dropped: the sessions -/

@[simp] theorem sess_setSlot (s : State) (k : PulseSlot) (p : Option Pulse) : (s.setSlot k p).sess = s.sess := by
  cases k <;> rfl

theorem sess_attemptFailed (s : State) (k : PulseSlot) (p : Pulse) : (s.attemptFailed k p).sess = s.sess := by
  unfold State.attemptFailed State.endPulse State.pulseReport
  split
  · simp
  · rw [if_neg (by simp), sess_become _ _ (by simp)]
    simp

/-- A transaction dropped leaves the sessions (R143). -/
theorem sess_dropped (s : State) {t : Txn} {i : BayIx} (bay : t.bay? = some i) (stale : Bool) :
    (s.ended t stale .dropped).sess = s.sess := by
  have linked : s.linkOf t .dropped = s := by
    unfold State.linkOf
    rw [bay]
  have shared : s.shareOut t .dropped = s := by
    unfold State.shareOut
    rw [bay]
  unfold State.ended
  rw [linked, shared]
  unfold State.told
  cases t with
  | lock k j d ms =>
    dsimp only
    unfold State.lockTold
    split
    · rfl
    · exact sess_attemptFailed ..
  | verify k j =>
    dsimp only
    unfold State.verifyTold
    split
    · rfl
    · exact sess_attemptFailed ..
  | grant k j w =>
    have cleared : (s.clearOutstanding j).sess = s.sess := by
      unfold State.clearOutstanding
      split <;> rfl
    dsimp only
    unfold State.grantTold State.grantEnded
    dsimp only
    repeat' split
    all_goals exact cleared
  | tag j recon =>
    dsimp only
    split <;> rfl
  | scan j => rfl
  | recon j =>
    dsimp only
    unfold State.reconTold
    split <;> rfl
  | lamp j c => rfl
  | _ => cases bay

/-- What the loop scheduler drops on its way is addressed to a bay (R143). -/
theorem bay_of_dropped {s : State} {t : Txn} (h : ¬ s.mayAddress t = true) : ∃ i, t.bay? = some i := by
  unfold State.mayAddress at h
  cases bay : t.bay? with
  | some i => exact ⟨i, rfl⟩
  | none => simp [bay] at h

/-- The loop scheduler's work leaves the power state, the loop power, the rebuild and the sessions (R143). -/
theorem beginNext_leaves (s : State) (n : Nat) : (s.beginNext n).works = s.works ∧ (s.beginNext n).sess = s.sess := by
  induction n generalizing s with
  | zero => exact ⟨rfl, rfl⟩
  | succ n ih =>
    unfold State.beginNext
    split
    · exact ⟨rfl, rfl⟩
    · split
      · exact ⟨rfl, rfl⟩
      · dsimp only
        split
        · exact ⟨rfl, rfl⟩
        · next may =>
          obtain ⟨i, bay⟩ := bay_of_dropped may
          obtain ⟨works, sess⟩ := ih (State.ended _ _ false .dropped)
          exact ⟨works.trans ((works_ended _ bay ..).trans rfl), sess.trans ((sess_dropped _ bay _).trans rfl)⟩

end Sys2Proof.Machine


/-! Who writes what (O60): the event of every command, as its work and the end of an event after it. -/

namespace Sys2Proof.Machine

section
variable {c : Instr} {s t : State}

theorem State.Event.refl : s.Event c s := .ends (.refl c s)

theorem State.Event.powerful (own : mayMovePower c = true) (roster : t.hold.1 = s.hold.1) : s.Event c t :=
  .ends (.powerful own roster)

/-- An event that leaves every block as it was. -/
theorem State.Event.same (h : t.apart = s.apart) (sess : t.sess = s.sess) : s.Event c t := .ends (.of_blocks h sess)

theorem Footprint.of_like {u : State} (like : u.apart = s.apart) (sess : u.sess = s.sess) (h : Footprint c u t) :
    Footprint c s t where
  roster m := (h.roster m).trans (roster_of_hold (hold_of_apart like))
  power m := ⟨(h.power m).1.trans (congrArg Works.power (works_of_apart like)),
    (h.power m).2.trans (congrArg Works.active (works_of_apart like))⟩
  rebuild m := (h.rebuild m).trans (works_of_apart like)
  line m := (h.line m).trans (line_of_hold (hold_of_apart like))
  sess m calm := (h.sess m (calm_of_works (works_of_apart like) calm)).trans sess
  papers m := (h.papers m).trans (papers_of_apart like)
  pulses m := (samePulses_of_arb (arb_of_apart like)).trans (h.pulses m)

theorem State.Event.of_like {u : State} (like : u.apart = s.apart) (sess : u.sess = s.sess) (h : u.Event c t) :
    s.Event c t := by
  cases h with
  | ends h => exact .ends (h.of_like like sess)
  | settles h => exact .settles (h.of_like like sess)

theorem State.Event.of_atDue {due : Option Nat} {f : State → State} (ends : ∀ u : State, u.Event c (f u)) :
    s.Event c (s.atDue due f) :=
  Machine.of_atDue (P := s.Event c) .refl fun d _ => State.Event.of_like (u := s.reach d) rfl rfl (ends _)

theorem State.Event.of_pulseTimer {k : PulseSlot} {due : Pulse → Option Nat} {f : State → Pulse → State}
    (ends : ∀ (u : State) p, u.slot k = some p → u.Event c (f u p)) : s.Event c (s.pulseTimer k due f) :=
  Machine.of_pulseTimer (P := s.Event c) .refl fun p d h =>
    State.Event.of_like (u := s.reach d) rfl rfl (ends _ p h)

theorem State.Event.of_request {kind : Nat} {act : State → RxFrame → State} (e : s.request kind act = .next t)
    (taken : ∀ f, s.Event c (act s f)) : s.Event c t :=
  Machine.of_request (P := s.Event c) e .refl (fun _ _ => .same rfl rfl) taken

theorem State.Event.of_onSession {f : RxFrame} {act : Session → State} (known : ∀ x, s.Event c (act x)) :
    s.Event c (s.onSession f act) :=
  Machine.of_onSession (P := s.Event c) (.same rfl rfl) fun x _ => known x

theorem State.Event.ite {p : Prop} [Decidable p] {u : State} (yes : p → s.Event c t) (no : s.Event c u) :
    s.Event c (if p then t else u) := by
  split
  · next h => exact yes h
  · exact no
end

variable {s t : State}

/-! ### The loop -/

theorem event_loopTransactionBegin (e : exec .loopTransactionBegin s = .next t) : s.Event .loopTransactionBegin t := by
  refine of_live e .refl (.ite (fun _ => ?_) .refl)
  obtain ⟨works, sess⟩ := beginNext_leaves s s.loop.queued.length
  have roster := roster_beginNext s s.loop.queued.length
  generalize s.beginNext s.loop.queued.length = u at works sess roster ⊢
  exact .settles ⟨fun _ => roster, fun _ => ⟨congrArg Works.power works, congrArg Works.active works⟩, fun _ => works,
    fun m => absurd m (by decide), fun _ _ => sess, fun m => absurd m (by decide), fun m => absurd m (by decide)⟩

/-- The awaited answer of an op: the transaction on the loop ends (R139). -/
theorem event_onAnswer {c : Instr} (op : Nat) (resp : List Byte)
    (ended : ∀ (o : OnLoop) a, o.txn.opCode = op → Footprint c s (s.idleLoop.ended o.txn o.stale (.answer a))) :
    s.Event c (s.onAnswer op resp) := by
  unfold State.onAnswer
  split
  · next o _ =>
    split
    · next same =>
      split
      · next a _ => exact .settles (ended o a same)
      · exact .refl
    · exact .refl
  · exact .refl

theorem bay_of_opCode {t : Txn} (h : t.opCode ∈ [0x04, 0x05, 0x06, 0x07, 0x08]) : ∃ i, t.bay? = some i := by
  cases t <;> first | exact ⟨_, rfl⟩ | simp [Txn.opCode] at h

/-- An answer of a bay's node leaves the power state and the rebuild. -/
theorem footprint_answered {c : Instr} {o : OnLoop} {a : Answer} (client : o.txn.opCode ∈ [0x04, 0x05, 0x06, 0x07, 0x08])
    (line : mayMoveLine c = true) (sess : mayMoveSessions c = true)
    (roster : mayMoveRoster c = false → (s.idleLoop.ended o.txn o.stale (.answer a)).hold.1 = s.hold.1)
    (custody : mayMoveCustody c = false → (s.idleLoop.ended o.txn o.stale (.answer a)).papers = s.papers ∧
      s.idleLoop.SamePulses (s.idleLoop.ended o.txn o.stale (.answer a))) :
    Footprint c s (s.idleLoop.ended o.txn o.stale (.answer a)) := by
  obtain ⟨i, bay⟩ := bay_of_opCode client
  have works : (s.idleLoop.ended o.txn o.stale (.answer a)).works = s.works := (works_ended _ bay ..).trans rfl
  generalize s.idleLoop.ended o.txn o.stale (.answer a) = u at *
  exact ⟨roster, fun _ => ⟨congrArg Works.power works, congrArg Works.active works⟩, fun _ => works,
    fun m => absurd line (by simp [m]), fun m => absurd sess (by simp [m]), fun m => (custody m).1, fun m => (custody m).2⟩

theorem roster_answered {o : OnLoop} {a : Answer} (tag : o.txn.opCode ≠ 0x05) (status : o.txn.opCode ≠ 0x04) :
    (s.idleLoop.ended o.txn o.stale (.answer a)).hold.1 = s.hold.1 :=
  (roster_ended _ _ _ _ (.inl ⟨tag, status⟩)).trans rfl

theorem event_statusAnswer {c : Instr} (resp : List Byte) (key : Bool) (line : mayMoveLine c = true)
    (sess : mayMoveSessions c = true) (custody : mayMoveCustody c = true) (roster : mayMoveRoster c = true) :
    s.Event c (State.onAnswer { s with keyswitch := key } 0x04 resp) :=
  State.Event.of_like (u := { s with keyswitch := key }) rfl rfl
    (event_onAnswer _ _ fun o a op => footprint_answered (by simp [op]) line sess (fun m => absurd roster (by simp [m]))
      fun m => absurd custody (by simp [m]))

theorem event_grant (resp : List Byte) (e : exec (.grant resp) s = .next t) : s.Event (.grant resp) t :=
  of_live e .refl (event_onAnswer _ _ fun o a op => footprint_answered (by simp [op]) rfl rfl
    (fun _ => roster_answered (by simp [op]) (by simp [op])) fun _ => custody_ended _ (.inl op) _ _)

theorem event_lamp (resp : List Byte) (e : exec (.lamp resp) s = .next t) : s.Event (.lamp resp) t :=
  of_live e .refl (event_onAnswer _ _ fun o a op => footprint_answered (by simp [op]) rfl rfl
    (fun _ => roster_answered (by simp [op]) (by simp [op])) fun _ => custody_ended _ (.inr op) _ _)

theorem event_lock (resp : List Byte) (e : exec (.lock resp) s = .next t) : s.Event (.lock resp) t :=
  of_live e .refl (event_onAnswer _ _ fun o a op => footprint_answered (by simp [op]) rfl rfl
    (fun _ => roster_answered (by simp [op]) (by simp [op])) fun m => absurd m (by simp [mayMoveCustody]))

theorem event_tag (resp : List Byte) (e : exec (.tag resp) s = .next t) : s.Event (.tag resp) t :=
  of_live e .refl (event_onAnswer _ _ fun o a op => footprint_answered (by simp [op]) rfl rfl
    (fun m => absurd m (by simp [mayMoveRoster])) fun m => absurd m (by simp [mayMoveCustody]))

/-- ASSIGN answered: discovery goes on (R147 step 2). -/
theorem event_assign (resp : List Byte) (e : exec (.assign resp) s = .next t) : s.Event (.assign resp) t := by
  refine of_live e .refl (event_onAnswer _ _ fun o a op => ?_)
  obtain ⟨txn, attempt, due, stale⟩ := o
  cases txn with
  | discAssign p =>
    have ended : ∀ ok, Footprint (.assign resp) s (s.idleLoop.discAssigned p ok) := fun ok => by
      unfold State.discAssigned
      cases ok with
      | false => exact ⟨fun _ => rfl, fun _ => ⟨rfl, rfl⟩, fun m => absurd m (by simp [mayMoveRebuild]),
          fun m => absurd m (by simp [mayMoveLine, mayMoveRebuild]), fun _ _ => rfl, fun _ => rfl,
          fun _ => samePulses_of_arb rfl⟩
      | true => exact ⟨fun _ => rfl, fun _ => ⟨rfl, rfl⟩, fun m => absurd m (by simp [mayMoveRebuild]),
          fun m => absurd m (by simp [mayMoveLine, mayMoveRebuild]), fun _ _ => rfl,
          fun _ => papers_modBay s p (fun b => { b with miss := 0 }) rfl, fun _ => samePulses_of_arb rfl⟩
    exact ended _
  | _ => simp [Txn.opCode] at op

theorem event_linkLost (e : exec .linkLost s = .next t) : s.Event .linkLost t := by
  refine of_live e .refl ?_
  split
  · next o _ =>
    refine .ite (fun lose => ?_) .refl
    unfold State.failedAttempt
    unfold State.wouldLose at lose
    simp only [Bool.and_eq_true, decide_eq_true_eq] at lose
    obtain ⟨third, bay⟩ := lose
    rw [if_neg (by omega)]
    cases onBay : o.txn.bay? with
    | none => simp [onBay] at bay
    | some i =>
      have works := works_ended (s.reach o.waitDue).idleLoop onBay o.stale .noAnswer
      have roster := roster_ended (s.reach o.waitDue).idleLoop o.txn o.stale .noAnswer (.inr (by simp))
      generalize (s.reach o.waitDue).idleLoop.ended o.txn o.stale .noAnswer = u at works roster ⊢
      exact .settles ⟨fun _ => roster, fun _ => ⟨congrArg Works.power works, congrArg Works.active works⟩,
        fun _ => works, fun m => absurd m (by decide), fun m => absurd m (by decide), fun m => absurd m (by decide),
        fun m => absurd m (by decide)⟩
  · exact .refl

theorem event_shed (e : exec .shed s = .next t) : s.Event .shed t := by
  refine of_live e .refl ?_
  split
  · refine .ite (fun _ => .ends ⟨fun _ => rfl, fun _ => ⟨rfl, rfl⟩, fun _ => rfl, fun m => absurd m (by decide),
      fun _ _ => rfl, fun _ => rfl, fun _ => samePulses_of_arb rfl⟩) .refl
  · exact .refl

theorem blocks_scanPlace (u : State) (i : BayIx) (rest : List BayIx) :
    (u.scanPlace i rest).apart = u.apart ∧ (u.scanPlace i rest).sess = u.sess := by
  unfold State.scanPlace
  rw [apart_place, sess_place]
  exact ⟨rfl, rfl⟩

theorem blocks_startPass (u : State) : u.startPass.apart = u.apart ∧ u.startPass.sess = u.sess := by
  unfold State.startPass
  dsimp only
  split
  · exact ⟨rfl, rfl⟩
  · exact ⟨(blocks_scanPlace ..).1.trans rfl, (blocks_scanPlace ..).2.trans rfl⟩

theorem blocks_scanNext (u : State) : u.scanNext.apart = u.apart ∧ u.scanNext.sess = u.sess := by
  unfold State.scanNext
  split
  · exact ⟨rfl, rfl⟩
  · exact blocks_scanPlace ..

end Sys2Proof.Machine


/-! Who writes what (O60): the events of the timers, the requests, and of every command. -/

namespace Sys2Proof.Machine

variable {s t : State}

/-! ### Timers -/

theorem blocks_beginRound (u : State) : u.beginRound.apart = u.apart ∧ u.beginRound.sess = u.sess := by
  have targets : u.takeTargets.apart = u.apart ∧ u.takeTargets.sess = u.sess := by
    unfold State.takeTargets
    dsimp only
    rw [modBays_sess]
    exact ⟨(apart_foldl _ _ _ fun s i => apart_modBay _ _ _ rfl).trans rfl, rfl⟩
  have aside := aside_beginRound u
  exact ⟨(apart_of_aside aside).trans targets.1, (sess_of_aside aside).trans targets.2⟩

/-- A pulse's own timer moves the pulse to another phase (R102 to R104). -/
theorem event_phase {c : Instr} {k : PulseSlot} {p : Pulse} (h : s.slot k = some p) (attempt ms busy : Nat) (phase : Phase)
    (txn : Txn) : s.Event c ((s.setSlot k (some ⟨p.bay, p.dir, attempt, ms, busy, phase⟩)).place txn) := by
  refine .ends (.of_ground ?_ ?_ (fun _ => ?_) (fun _ _ => ?_) (fun _ => ?_) fun _ => ?_)
  · rw [works_place, works_setSlot]
  · exact line_of_hold ((hold_place ..).trans (hold_setSlot ..))
  · exact roster_of_hold ((hold_place ..).trans (hold_setSlot ..))
  · rw [sess_place, sess_setSlot]
  · rw [papers_of_aside (aside_place ..)]
    cases k <;> rfl
  · have same : s.SamePulses (s.setSlot k (some ⟨p.bay, p.dir, attempt, ms, busy, phase⟩)) := samePulses_setSlot h rfl rfl
    exact same.trans (samePulses_of_arb (arb_of_apart (apart_place ..)))

theorem event_windowEnds (i : BayIx) (u : State) : u.Event (.releaseWindowExpiry i) (u.windowEnds i).settle := by
  have hold := hold_windowEnds u i
  exact .settles (.of_ground (works_of_ground (ground_windowEnds u i)) (line_of_hold hold) (fun _ => roster_of_hold hold)
    (fun _ _ => sess_windowEnds u i) (fun m => absurd m (by simp [mayMoveCustody]))
    fun m => absurd m (by simp [mayMoveCustody]))

theorem apart_goStandalone (u : State) : u.goStandalone.apart = u.apart := by
  unfold State.goStandalone
  rw [apart_endSessionsIn, apart_raise]
  rfl

theorem blocks_senseHoldup (u : State) (charge : Nat) :
    (u.senseHoldup charge).apart = u.apart ∧ (u.senseHoldup charge).sess = u.sess := by
  unfold State.senseHoldup
  split_ifs
  · rw [apart_raise, sess_raise]
    exact ⟨rfl, rfl⟩
  · exact ⟨rfl, rfl⟩
  · exact ⟨rfl, rfl⟩

theorem blocks_receive (u : State) (b : Byte) (gap : Nat) :
    (u.receive b gap).apart = u.apart ∧ (u.receive b gap).sess = u.sess := by
  unfold State.receive State.arrive
  dsimp only
  split
  · split <;> exact ⟨rfl, rfl⟩
  · exact ⟨rfl, rfl⟩

theorem event_replySent (x : Int) (ordinary : ∀ y, s.link.tx = some y → y.after ≠ .restart)
    (e : exec (.replySent x) s = .next t) : s.Event (.replySent x) t := by
  refine of_live e .refl ?_
  cases sent : s.sendable with
  | none => exact .refl
  | some y =>
    have after := ordinary y (Option.eq_some_of_filter_eq_some sent)
    dsimp only
    unfold State.replyGone
    dsimp only
    split
    · exact .same rfl rfl
    · exact .same rfl rfl
    · next restart => exact absurd restart after

theorem event_resetPinAssert (e : exec .resetPinAssert s = .next t) : s.Event .resetPinAssert t :=
  of_live e .refl (.ends ⟨fun _ => rfl, fun _ => ⟨rfl, rfl⟩, fun m => absurd m (by decide), fun m => absurd m (by decide),
    fun m => absurd m (by decide), fun m => absurd m (by decide), fun m => absurd m (by decide)⟩)

/-! ### Requests -/

/-- Work of custody and of the sessions together. -/
theorem Footprint.custodial {c : Instr} (own : mayMoveCustody c = true) (moves : mayMoveSessions c = true)
    (ground : t.ground = s.ground) (hold : t.hold = s.hold) : Footprint c s t :=
  .of_ground (works_of_ground ground) (line_of_hold hold) (fun _ => roster_of_hold hold)
    (fun m => absurd moves (by simp [m])) (fun m => absurd own (by simp [m])) fun m => absurd own (by simp [m])

theorem event_grantRelease {c : Instr} (own : mayMoveCustody c = true) (moves : mayMoveSessions c = true) (f : RxFrame)
    (i : BayIx) (w : Nat) (holder : Option Badge) : s.Event c (s.grantRelease f i w holder) := by
  unfold State.grantRelease
  dsimp only
  have ground := ground_acceptRelease s i (s.windowTaken w) holder .host
  have hold := hold_acceptRelease s i (s.windowTaken w) holder .host
  generalize s.acceptRelease i (s.windowTaken w) holder .host = u at ground hold ⊢
  exact .settles (.custodial own moves ((ground_drainMind ..).trans ground) ((hold_drainMind ..).trans hold))

theorem event_releaseNumber {c : Instr} (own : mayMoveCustody c = true) (moves : mayMoveSessions c = true) (f : RxFrame)
    (n w : Nat) (holder : Option Badge) (force : Bool) : s.Event c (s.releaseNumber f n w holder force) := by
  unfold State.releaseNumber
  split
  · exact .same rfl rfl
  · split
    · exact .same rfl rfl
    · exact event_grantRelease own moves ..

theorem event_releaseBay (e : exec .releaseBay s = .next t) : s.Event .releaseBay t := by
  refine .of_request (show execReleaseBay s = _ from e) fun f => ?_
  dsimp only
  split
  · exact .same rfl rfl
  · exact event_releaseNumber rfl rfl ..

theorem event_releaseAsset (e : exec .releaseAsset s = .next t) : s.Event .releaseAsset t := by
  refine .of_request (show execReleaseAsset s = _ from e) fun f => ?_
  dsimp only
  split
  · exact .same rfl rfl
  · refine .ite (fun _ => .same rfl rfl) (.ite (fun _ => .same rfl rfl) ?_)
    split
    · exact .same rfl rfl
    · exact event_releaseNumber rfl rfl ..

theorem event_releaseBest (e : exec .releaseBest s = .next t) : s.Event .releaseBest t := by
  refine .of_request (show execReleaseBest s = _ from e) fun f => ?_
  dsimp only
  split
  · exact .same rfl rfl
  · refine .ite (fun _ => .same rfl rfl) ?_
    split
    · exact .same rfl rfl
    · exact event_grantRelease rfl rfl ..

theorem event_cancelRelease (e : exec .cancelRelease s = .next t) : s.Event .cancelRelease t := by
  refine .of_request (show execCancelRelease s = _ from e) fun f => ?_
  split
  · exact .same rfl rfl
  · next i _ =>
    split
    · exact .same rfl rfl
    · have ground : (s.cancelRelease i).ground = s.ground := by
        unfold State.cancelRelease
        repeat' split
        all_goals simp [seen_eq]
      have hold := hold_cancelRelease s i
      generalize s.cancelRelease i = u at ground hold ⊢
      exact .settles (.custodial rfl rfl ground hold)

/-- A bay admitted: the roster takes its asset in, and nothing moves of the sessions or the loop (R67). -/
theorem admitBay_leaves (i : BayIx) : (s.admitBay i).works = s.works ∧ (s.admitBay i).line = s.line ∧
    (s.admitBay i).sess = s.sess := by
  have secured : ∀ u : State, ((u.secureBay i).modBay i fun b => { b with admission := true }).works = u.works ∧
      ((u.secureBay i).modBay i fun b => { b with admission := true }).line = u.line ∧
      ((u.secureBay i).modBay i fun b => { b with admission := true }).sess = u.sess := fun u =>
    ⟨(works_of_ground (ground_secureBay u i) :), (line_of_hold (hold_secureBay u i) :), sess_secureBay u i⟩
  unfold State.admitBay
  dsimp only
  split <;> exact secured _

theorem event_admitBay (e : exec .admitBay s = .next t) : s.Event .admitBay t := by
  refine .of_request (show execAdmitBay s = _ from e) fun f => ?_
  split
  · exact .same rfl rfl
  · next i _ =>
    split
    · exact .same rfl rfl
    · obtain ⟨works, line, sess⟩ := admitBay_leaves (s := s) i
      generalize s.admitBay i = u at works line sess ⊢
      exact .settles (.of_ground works line (fun m => absurd m (by decide)) (fun _ _ => sess)
        (fun m => absurd m (by decide)) fun m => absurd m (by decide))

theorem event_rosterPut (e : exec .rosterPut s = .next t) : s.Event .rosterPut t := by
  refine .of_request (show execRosterPut s = _ from e) fun f => ?_
  have moved : ∀ u : State, u.works = s.works → u.line = s.line → u.sess = s.sess → s.Event .rosterPut u :=
    fun u works line sess => .ends (.of_ground works line (fun m => absurd m (by decide)) (fun _ _ => sess)
      (fun m => absurd m (by decide)) fun m => absurd m (by decide))
  refine .ite (fun _ => .same rfl rfl) (.ite (fun _ => moved _ rfl rfl rfl) (.ite (fun _ => .same rfl rfl) ?_))
  dsimp only
  unfold State.addEntry
  cases s.adoptable? (payAsset f.payload 0) <;> exact moved _ rfl rfl rfl

theorem event_rosterDrop (e : exec .rosterDrop s = .next t) : s.Event .rosterDrop t := by
  refine .of_request (show execRosterDrop s = _ from e) fun f => .ite (fun _ => .same rfl rfl) (.ite (fun _ => .same rfl rfl) ?_)
  have dropped : ∀ a, (s.dropEntry a).works = s.works ∧ (s.dropEntry a).line = s.line ∧ (s.dropEntry a).sess = s.sess :=
    fun a => by
    unfold State.dropEntry State.works State.line
    dsimp only
    rw [modBays_power, modBays_cust, modBays_loop, modBays_sess]
    exact ⟨rfl, rfl, rfl⟩
  obtain ⟨works, line, sess⟩ := dropped (payAsset f.payload 0)
  generalize s.dropEntry (payAsset f.payload 0) = u at works line sess ⊢
  exact .ends (.of_ground works line (fun m => absurd m (by decide)) (fun _ _ => sess)
    (fun m => absurd m (by decide)) fun m => absurd m (by decide))

theorem event_openSession (e : exec .openSession s = .next t) : s.Event .openSession t := by
  refine .of_request (show execOpenSession s = _ from e) fun f => ?_
  dsimp only
  split
  · exact .same rfl rfl
  · split
    · exact .same rfl rfl
    · split
      · exact .same rfl rfl
      · next k _ _ i _ _ _ =>
        unfold State.openSession
        dsimp only
        have apart := apart_admitSession s i k (minimumTaken k (payByte f.payload 2)) (idleTaken (payNat f.payload 3 2))
        generalize s.admitSession i k _ _ = u at apart ⊢
        exact .settles (.of_apart apart rfl)

theorem event_linkUp (e : exec .linkUp s = .next t) : s.Event .linkUp t :=
  .of_request (show execLinkUp s = _ from e) fun _ => .of_onSession fun x =>
    .ite (fun _ => .ends (.of_apart (apart_linkUpSession s x) rfl)) (.same rfl rfl)

theorem event_progress (e : exec .progress s = .next t) : s.Event .progress t :=
  .of_request (show execProgress s = _ from e) fun _ => .of_onSession fun _ => .ite (fun _ => .ends (.of_apart rfl rfl)) (.same rfl rfl)

theorem event_finishSession (e : exec .finishSession s = .next t) : s.Event .finishSession t :=
  .of_request (show execFinishSession s = _ from e) fun _ => .of_onSession fun x => .ite (fun _ => .same rfl rfl)
    (.ite (fun _ => .ends (.of_apart (apart_finishActive s x _) rfl)) (.same rfl rfl))

theorem event_abortSession (e : exec .abortSession s = .next t) : s.Event .abortSession t :=
  .of_request (show execAbortSession s = _ from e) fun _ => .of_onSession fun x => .ite (fun _ => .same rfl rfl)
    (.settles (.of_apart (apart_endSession s x.id .aborted) rfl))

/-- A bay's fault cleared: with no drain in progress the bay that leaves Jammed meets no drain, and it does not become
Locked (R69). -/
theorem clearBayFault_leaves (calm : s.Calm) (i : BayIx) : (s.clearBayFault i).sess = s.sess := by
  have unjammed : ∀ u : State, u.power.drain = none → (u.unjam i).sess = u.sess := fun u idle => by
    unfold State.unjam
    split
    · next d o _ =>
      dsimp only
      have asked : ((u.become i (unjamTo d o (u.bay i).presence)).askBolt i d).sess = u.sess := by
        rw [sess_askBolt, sess_become _ _ (unjamTo_ne_locked _ _ _)]
      have ground : ((u.become i (unjamTo d o (u.bay i).presence)).askBolt i d).ground = u.ground := by simp
      generalize (u.become i (unjamTo d o (u.bay i).presence)).askBolt i d = v at asked ground ⊢
      have still : v.power.drain = none := (congrArg (fun g => g.power.drain) ground).trans idle
      split
      · rw [drainMind_idle]
        · split <;> exact asked
        · split <;> exact still
      · split <;> exact asked
    · rfl
  unfold State.clearBayFault
  dsimp only
  split
  · split
    · exact unjammed _ calm.2
    · rfl
  · split
    · exact unjammed _ calm.2
    · rfl

theorem works_clearBayFault (i : BayIx) : (s.clearBayFault i).works = s.works := by
  have unjammed : ∀ u : State, (u.unjam i).works = u.works := fun u => works_of_ground (ground_unjam u i)
  unfold State.clearBayFault
  dsimp only
  split
  · split
    · exact unjammed _
    · rfl
  · split
    · exact unjammed _
    · rfl

theorem event_clearFault (e : exec .clearFault s = .next t) : s.Event .clearFault t := by
  refine .of_request (show execClearFault s = _ from e) fun f => .ite (fun _ => ?_) ?_
  · have apart : s.clearLatch.apart = s.apart := (apart_recomputePool _).trans rfl
    have sess : s.clearLatch.sess = s.sess := (sess_recomputePool _).trans rfl
    generalize s.clearLatch = u at apart sess ⊢
    exact .settles (.of_blocks apart sess)
  · split
    · exact .same rfl rfl
    · next i _ =>
      refine .ite (fun _ => ?_) (.same rfl rfl)
      have works := works_clearBayFault (s := s) i
      have hold := hold_clearBayFault s i
      have sess := fun calm => clearBayFault_leaves (s := s) calm i
      generalize s.clearBayFault i = u at works hold sess ⊢
      exact .settles (.of_ground works (line_of_hold hold) (fun _ => roster_of_hold hold) (fun _ => sess)
        (fun m => absurd m (by decide)) fun m => absurd m (by decide))

end Sys2Proof.Machine


/-! Who writes what (O60): the event of every command. -/

namespace Sys2Proof.Machine

variable {s t : State}

theorem event_setSetting (e : exec .setSetting s = .next t) : s.Event .setSetting t := by
  refine .of_request (show execSetSetting s = _ from e) fun f => ?_
  dsimp only
  split
  · exact .powerful rfl (roster_setNumbered ..)
  · exact .powerful rfl (roster_setChannel ..)
  · exact .same rfl rfl

theorem event_setQuiet (e : exec .setQuiet s = .next t) : s.Event .setQuiet t := by
  refine .of_request (show execSetQuiet s = _ from e) fun f => ?_
  split
  · exact .same rfl rfl
  · next on _ =>
    have aside := aside_recomputePool { s with pool := { s.pool with quiet := on } }
    generalize State.recomputePool _ = u at aside ⊢
    exact .settles (.of_blocks ((apart_of_aside aside).trans rfl) ((sess_of_aside aside).trans rfl))

theorem event_prepareReadySet (e : exec .prepareReadySet s = .next t) : s.Event .prepareReadySet t := by
  refine .of_request (show execPrepareReadySet s = _ from e) fun f => .ite (fun _ => .same rfl rfl) ?_
  obtain ⟨apart, sess⟩ := blocks_prepareReady s (min (max (payByte f.payload 0) 1) 36)
  dsimp only
  generalize s.prepareReady _ = u at apart sess ⊢
  exact .settles (.of_blocks apart sess)

theorem event_clearReadySet (e : exec .clearReadySet s = .next t) : s.Event .clearReadySet t := by
  refine .of_request (show execClearReadySet s = _ from e) fun f => ?_
  obtain ⟨apart, sess⟩ := blocks_emptyReady s .host
  generalize s.emptyReady _ = u at apart sess ⊢
  exact .settles (.of_blocks apart sess)

theorem event_setBayCharge (e : exec .setBayCharge s = .next t) : s.Event .setBayCharge t := by
  refine .of_request (show execSetBayCharge s = _ from e) fun f => ?_
  split
  · exact .same rfl rfl
  · next on _ =>
    split
    · exact .same rfl rfl
    · next i _ => exact .settles (.of_blocks (apart_modBay s i (fun b => { b with chargeOn := on }) rfl) rfl)

theorem event_rebuildLoop (e : exec .rebuildLoop s = .next t) : s.Event .rebuildLoop t := by
  refine .of_request (show execRebuildLoop s = _ from e) fun f =>
    .ite (fun _ => .same rfl rfl) (.ite (fun _ => .same rfl rfl) (.powerful rfl ?_))
  rw [roster_settle, hold_reply, roster_startRebuild]

/-! ### The requests that only serve -/

theorem event_bayStatus (e : exec .bayStatus s = .next t) : s.Event .bayStatus t := by
  refine .of_request (show execBayStatus s = _ from e) fun f => ?_
  split <;> exact .same rfl rfl

theorem event_baySummary (e : exec .baySummary s = .next t) : s.Event .baySummary t := by
  refine .of_request (show execBaySummary s = _ from e) fun f => ?_
  split <;> exact .same rfl rfl

theorem event_getSetting (e : exec .getSetting s = .next t) : s.Event .getSetting t := by
  refine .of_request (show execGetSetting s = _ from e) fun f => ?_
  dsimp only
  split <;> exact .same rfl rfl

theorem event_saveSettings (w : StoreWrite) (e : exec (.saveSettings w) s = .next t) : s.Event (.saveSettings w) t := by
  refine .of_request (show execSaveSettings w s = _ from e) fun f => ?_
  cases w <;> exact .same rfl rfl

theorem event_rosterGet (e : exec .rosterGet s = .next t) : s.Event .rosterGet t := by
  refine .of_request (show execRosterGet s = _ from e) fun f => .ite (fun _ => .same rfl rfl) ?_
  split <;> exact .same rfl rfl

theorem event_sessionStatus (e : exec .sessionStatus s = .next t) : s.Event .sessionStatus t :=
  .of_request (show execSessionStatus s = _ from e) fun _ =>
    .ite (fun _ => .same rfl rfl) (.of_onSession fun _ => .same rfl rfl)

theorem event_setNoticeLevel (e : exec .setNoticeLevel s = .next t) : s.Event .setNoticeLevel t := by
  refine .of_request (show execSetNoticeLevel s = _ from e) fun f => ?_
  split
  · exact .same rfl rfl
  · exact .ite (fun _ => .same rfl rfl) (.same rfl rfl)

theorem event_unknownKind (e : exec .unknownKind s = .next t) : s.Event .unknownKind t := by
  refine of_live e .refl ?_
  split
  · exact .ite (fun _ => .same rfl rfl) .refl
  · exact .refl

/-! ### The commands of the inlet and the power state -/

theorem event_temperatureReading (x : Int) (e : exec (.temperatureReading x) s = .next t) :
    s.Event (.temperatureReading x) t := by
  refine of_live e .refl (.of_atDue fun u => ?_)
  obtain ⟨apart, sess⟩ := blocks_takeTemperature { u with inlet := { u.inlet with tempDue := u.inlet.tempDue + 1000 } } x
  generalize State.takeTemperature _ x = v at apart sess ⊢
  exact .settles (.of_blocks apart sess)

theorem event_poolRecompute (e : exec .poolRecompute s = .next t) : s.Event .poolRecompute t := by
  refine of_live e .refl (.of_atDue fun u => ?_)
  have aside := aside_recomputePool { u with pool := { u.pool with recomputeDue := u.pool.recomputeDue + 1000 } }
  generalize State.recomputePool _ = v at aside ⊢
  exact .settles (.of_blocks ((apart_of_aside aside).trans rfl) ((sess_of_aside aside).trans rfl))

theorem event_trimAudit (e : exec .trimAudit s = .next t) : s.Event .trimAudit t := by
  refine of_live e .refl (.of_atDue fun u => .ite (fun _ => ?_) (.same rfl rfl))
  obtain ⟨apart, sess⟩ := blocks_audit { u with inlet := { u.inlet with auditDue := u.inlet.auditDue + 4000 } }
  generalize State.audit _ = v at apart sess ⊢
  exact .settles (.of_blocks apart sess)

theorem event_roundBegin (e : exec .roundBegin s = .next t) : s.Event .roundBegin t := by
  refine of_live e .refl (.of_atDue fun u => ?_)
  obtain ⟨apart, sess⟩ := blocks_beginRound u
  generalize u.beginRound = v at apart sess ⊢
  exact .settles (.of_blocks apart sess)

theorem event_rebuildPowerOffEnd (e : exec .rebuildPowerOffEnd s = .next t) : s.Event .rebuildPowerOffEnd t := by
  refine of_live e .refl ?_
  split
  · exact .ends ⟨fun _ => rfl, fun _ => ⟨rfl, rfl⟩, fun m => absurd m (by decide), fun m => absurd m (by decide),
      fun _ _ => rfl, fun _ => rfl, fun _ => samePulses_of_arb rfl⟩
  · exact .refl

theorem event_rebuildBootEnd (e : exec .rebuildBootEnd s = .next t) : s.Event .rebuildBootEnd t := by
  refine of_live e .refl ?_
  split
  · exact .ends ⟨fun _ => rfl, fun _ => ⟨rfl, rfl⟩, fun m => absurd m (by decide), fun m => absurd m (by decide),
      fun _ _ => rfl, fun _ => rfl, fun _ => samePulses_of_arb rfl⟩
  · exact .refl

theorem roster_awaitedFailed (u : State) (o : OnLoop) : ((u.reach o.waitDue).failedAttempt o).hold.1 = u.hold.1 :=
  roster_failedAttempt ..

theorem event_responseWaitExpiry (e : exec .responseWaitExpiry s = .next t) : s.Event .responseWaitExpiry t := by
  refine of_live e .refl ?_
  split
  · exact .powerful rfl (roster_awaitedFailed ..)
  · exact .refl

theorem event_responseNotValid (resp : List Byte) (e : exec (.responseNotValid resp) s = .next t) :
    s.Event (.responseNotValid resp) t := by
  refine of_live e .refl ?_
  split
  · exact .ite (fun _ => .powerful rfl (roster_failedAttempt ..)) .refl
  · exact .refl

theorem event_seatSettleExpiry (i : BayIx) (e : exec (.seatSettleExpiry i) s = .next t) : s.Event (.seatSettleExpiry i) t :=
  of_live e .refl (.of_atDue fun u => .same
    ((apart_place _ _).trans (apart_modBay u i (fun b => { b with seatDue := none, tagTries := 1 }) rfl))
    (sess_place _ _))

theorem event_tagRetryDelayExpiry (i : BayIx) (e : exec (.tagRetryDelayExpiry i) s = .next t) :
    s.Event (.tagRetryDelayExpiry i) t :=
  of_live e .refl (.of_atDue fun u => .same
    ((apart_place _ _).trans (apart_modBay u i (fun b => { b with tagRetryDue := none, tagTries := b.tagTries + 1 }) rfl))
    (sess_place _ _))

theorem event_refusedDisplayEnd (i : BayIx) (e : exec (.refusedDisplayEnd i) s = .next t) :
    s.Event (.refusedDisplayEnd i) t :=
  of_live e .refl (.of_atDue fun u =>
    .settles (.of_blocks (apart_modBay u i (fun b => { b with displayDue := none }) rfl) rfl))

theorem takePlace_rest (l : Loop) :
    { l.takePlace with queued := [], waiting := [], heldBack := [] } =
      { l with queued := [], waiting := [], heldBack := [] } := by
  unfold Loop.takePlace
  split
  · split
    · exact reflow_rest _
    · rfl
  · rfl

/-- The end of a session by one of its timers. -/
theorem event_sessionTimer {c : Instr} (own : mayMoveSessions c = true) {due : Option Nat} {id : Nat}
    {outcome : State → SessOutcome} : s.Event c (s.atDue due fun u => (u.endSession id (outcome u)).settle) :=
  .of_atDue fun u => .settles (.of_apart (apart_endSession u id (outcome u)) own)

/-- The event of every command that is no start. -/
theorem event_exec {c : Instr} (e : exec c s = .next t) (on : ∀ k x, c ≠ .powerOn k x)
    (release : ∀ x, c ≠ .resetPinRelease x)
    (ordinary : ∀ x, c = .replySent x → ∀ y, s.link.tx = some y → y.after ≠ .restart) : s.Event c t := by
  cases c with
  | voltageSample v a => exact of_live e .refl (.powerful rfl (roster_sample s v a))
  | inletRestored v a => exact of_live e .refl (.ite (fun _ => .powerful rfl (roster_sample s v a)) .refl)
  | strike v a => exact of_live e .refl (.ite (fun _ => .powerful rfl (roster_sample s v a)) .refl)
  | strikeAgeOut => exact of_live e .refl (.of_atDue fun _ => .same rfl rfl)
  | strikeHoldoffExpiry => exact of_live e .refl (.of_atDue fun _ => .same rfl rfl)
  | temperatureReading x => exact event_temperatureReading x e
  | poolRecompute => exact event_poolRecompute e
  | trimAudit => exact event_trimAudit e
  | rideThroughExpiry =>
    exact of_live e .refl (.of_atDue fun u => .powerful rfl ((roster_settle _).trans (roster_rideOut u)))
  | drainLimitExpiry =>
    exact of_live e .refl (.of_atDue fun u => .powerful rfl ((roster_settle _).trans (roster_endDrain u)))
  | settleExpiry =>
    exact of_live e .refl (.of_atDue fun u => .powerful rfl ((roster_settle _).trans (roster_startRebuild _ _)))
  | roundBegin => exact event_roundBegin e
  | loopTransactionBegin => exact event_loopTransactionBegin e
  | placementAppended =>
    exact of_live e .refl (.same (apart_of_aside (aside_mk s _ _ _ (takePlace_rest s.loop))) rfl)
  | responseWaitExpiry => exact event_responseWaitExpiry e
  | linkLost => exact event_linkLost e
  | status resp key => exact of_live e .refl (event_statusAnswer resp key rfl rfl rfl rfl)
  | grant resp => exact event_grant resp e
  | tag resp => exact event_tag resp e
  | lock resp => exact event_lock resp e
  | lamp resp => exact event_lamp resp e
  | shed => exact event_shed e
  | identify resp => exact of_live e .refl (.powerful rfl (roster_onAnswer s resp (by decide) (by decide)))
  | assign resp => exact event_assign resp e
  | pass resp => exact of_live e .refl (.powerful rfl (roster_onAnswer s resp (by decide) (by decide)))
  | nodereset resp => exact of_live e .refl (.powerful rfl (roster_onAnswer s resp (by decide) (by decide)))
  | scanPassStart =>
    exact of_live e .refl (.ite (fun _ => .of_atDue fun u => .same (blocks_startPass u).1 (blocks_startPass u).2) .refl)
  | scanStatusPlace =>
    exact of_live e .refl (.ite (fun _ => .of_atDue fun u => .same (blocks_scanNext u).1 (blocks_scanNext u).2) .refl)
  | rebuildPowerOffEnd => exact event_rebuildPowerOffEnd e
  | rebuildBootEnd => exact event_rebuildBootEnd e
  | autoRebuildCheck =>
    exact of_live e .refl (.of_atDue fun u => .powerful rfl ((roster_settle _).trans (roster_autoCheck _)))
  | travelWaitExpiry k => exact of_live e .refl (.of_pulseTimer fun _ _ h => event_phase h ..)
  | busyRetryExpiry k => exact of_live e .refl (.of_pulseTimer fun _ _ h => event_phase h ..)
  | cooldownExpiry k => exact of_live e .refl (.of_pulseTimer fun _ _ h => event_phase h ..)
  | seatSettleExpiry i => exact event_seatSettleExpiry i e
  | tagRetryDelayExpiry i => exact event_tagRetryDelayExpiry i e
  | refusedDisplayEnd i => exact event_refusedDisplayEnd i e
  | releaseWindowExpiry i => exact of_live e .refl (.of_atDue fun u => event_windowEnds i u)
  | overdrawFault resp key =>
    exact of_live e .refl (.ite (fun _ => event_statusAnswer resp key rfl rfl rfl rfl) .refl)
  | linkTimerExpiry id => exact of_live e .refl (event_sessionTimer (outcome := fun _ => .linkTimeout) rfl)
  | idleTimerExpiry id => exact of_live e .refl (event_sessionTimer (outcome := fun _ => .expired) rfl)
  | drainSettleExpiry id => exact of_live e .refl (event_sessionTimer (outcome := fun u => u.drainOutcome id) rfl)
  | frameArrival b gap =>
    exact of_live e .refl (.ite (fun _ => .same (blocks_receive s b gap).1 (blocks_receive s b gap).2) .refl)
  | replySent x => exact event_replySent x (ordinary x rfl) e
  | hostSilenceExpiry => exact of_live e .refl (.of_atDue fun u => .ends (.of_apart (apart_goStandalone u) rfl))
  | holdupSense charge =>
    exact of_live e .refl (.of_atDue fun u =>
      .same ((blocks_senseHoldup _ charge).1.trans rfl) ((blocks_senseHoldup _ charge).2.trans rfl))
  | secondsTick => exact of_live e .refl (.of_atDue fun _ => .same rfl rfl)
  | powerOn k x => exact absurd rfl (on k x)
  | resetPinAssert => exact event_resetPinAssert e
  | resetPinRelease x => exact absurd rfl (release x)
  | unknownKind => exact event_unknownKind e
  | identifyRequest => exact .of_request (show execIdentifyRequest s = _ from e) fun _ => .same rfl rfl
  | cartStatus key => exact .of_request (show execCartStatus key s = _ from e) fun _ => .same rfl rfl
  | bayStatus => exact event_bayStatus e
  | baySummary => exact event_baySummary e
  | poolStatus => exact .of_request (show execPoolStatus s = _ from e) fun _ => .same rfl rfl
  | setSetting => exact event_setSetting e
  | getSetting => exact event_getSetting e
  | saveSettings w => exact event_saveSettings w e
  | setQuiet => exact event_setQuiet e
  | rosterPut => exact event_rosterPut e
  | rosterDrop => exact event_rosterDrop e
  | rosterGet => exact event_rosterGet e
  | rosterList => exact .of_request (show execRosterList s = _ from e) fun _ => .same rfl rfl
  | releaseBay => exact event_releaseBay e
  | releaseAsset => exact event_releaseAsset e
  | releaseBest => exact event_releaseBest e
  | cancelRelease => exact event_cancelRelease e
  | admitBay => exact event_admitBay e
  | prepareReadySet => exact event_prepareReadySet e
  | clearReadySet => exact event_clearReadySet e
  | readySetStatus => exact .of_request (show execReadySetStatus s = _ from e) fun _ => .same rfl rfl
  | openSession => exact event_openSession e
  | linkUp => exact event_linkUp e
  | progress => exact event_progress e
  | finishSession => exact event_finishSession e
  | abortSession => exact event_abortSession e
  | sessionStatus => exact event_sessionStatus e
  | setBayCharge => exact event_setBayCharge e
  | clearFault => exact event_clearFault e
  | rebuildLoop => exact event_rebuildLoop e
  | restart => exact .of_request (show execRestart s = _ from e) fun _ => .same rfl rfl
  | fetchNotices => exact .of_request (show execFetchNotices s = _ from e) fun _ => .same rfl rfl
  | setNoticeLevel => exact event_setNoticeLevel e
  | byteReceived b gap => exact of_live e .refl (.same (blocks_receive s b gap).1 (blocks_receive s b gap).2)
  | lineError => exact of_live e .refl (.same rfl rfl)
  | clearLineChange level begun => exact of_live e .refl (.ite (fun _ => .refl) (.same rfl rfl))
  | responseNotValid resp => exact event_responseNotValid resp e

end Sys2Proof.Machine


/-! Who writes what (O60): what lasts beyond an event (the settings and the image, the levels, the roster's assets, the
inlet's records, the flags and counters), and the commands that write each. -/

namespace Sys2Proof.Machine

/-- What an event leaves but where its command is one that writes it. -/
structure Lasting where
  settings : Settings
  image : Option SettingsImage
  levels : Levels
  assets : List AssetId
  trim : Int
  voltRing : List Nat
  currRing : List Nat
  cond : InletCond
  strikes : List Strike
  latch : Bool
  quiet : Bool
  seconds : Secs
  rx : RxState
  cause : StartCause
  fromImage : Bool

def Kept.lasting (k : Kept) : Lasting where
  settings := k.settings
  image := k.image
  levels := k.levels
  assets := k.assets
  trim := k.inlet.trim
  voltRing := k.inlet.voltRing
  currRing := k.inlet.currRing
  cond := k.inlet.cond
  strikes := k.inlet.strikes
  latch := k.inlet.latch
  quiet := k.quiet
  seconds := k.retained.seconds
  rx := k.rx
  cause := k.cause
  fromImage := k.fromImage

def State.lasting (s : State) : Lasting := s.kept.lasting

/-- What lasts, with what a command writes taken from the state after it. -/
def Lasting.written (c : Instr) (old new : Lasting) : Lasting :=
  match c with
  | .setSetting => { old with settings := new.settings }
  | .saveSettings _ => { old with image := new.image }
  | .setNoticeLevel => { old with levels := new.levels }
  | .rosterPut | .rosterDrop => { old with assets := new.assets }
  | .trimAudit => { old with trim := new.trim }
  | .voltageSample _ _ | .inletRestored _ _ | .strike _ _ =>
    { old with
      voltRing := new.voltRing, currRing := new.currRing, cond := new.cond, strikes := new.strikes
      latch := new.latch }
  | .strikeAgeOut => { old with strikes := new.strikes }
  | .clearFault => { old with strikes := new.strikes, latch := new.latch }
  | .setQuiet => { old with quiet := new.quiet }
  | .secondsTick => { old with seconds := new.seconds }
  | .frameArrival _ _ | .byteReceived _ _ | .lineError => { old with rx := new.rx }
  | _ => old

/-- A command writes, of what lasts, its own alone. -/
def Writes (c : Instr) (s t : State) : Prop := t.lasting = Lasting.written c s.lasting t.lasting

theorem lasting_of_kept {s t : State} (h : t.kept = s.kept) : t.lasting = s.lasting := congrArg Kept.lasting h

section
variable {c : Instr} {s t u : State}

theorem written_self (c : Instr) (l : Lasting) : Lasting.written c l l = l := by
  unfold Lasting.written
  split <;> rfl

/-- A command that leaves it all. -/
theorem Writes.keeps (h : t.lasting = s.lasting) : Writes c s t := by
  unfold Writes
  rw [h, written_self]

theorem Writes.refl : Writes c s s := .keeps rfl

theorem Writes.after (h : Writes c s t) (same : u.lasting = t.lasting) : Writes c s u := by
  unfold Writes at *
  rw [same]
  exact h

theorem Writes.of_kept (same : u.kept = t.kept) (h : Writes c s t) : Writes c s u := h.after (lasting_of_kept same)

theorem Writes.settle (h : Writes c s t) : Writes c s t.settle := .of_kept (kept_settle t) h

theorem Writes.of_atDue {due : Option Nat} {f : State → State} (ends : ∀ u : State, Writes c u (f u)) :
    Writes c s (s.atDue due f) :=
  Machine.of_atDue (P := Writes c s) .refl fun d _ => ends (s.reach d)

theorem Writes.of_pulseTimer {k : PulseSlot} {due : Pulse → Option Nat} {f : State → Pulse → State}
    (ends : ∀ (u : State) p, Writes c u (f u p)) : Writes c s (s.pulseTimer k due f) :=
  Machine.of_pulseTimer (P := Writes c s) .refl fun p d _ => ends (s.reach d) p

theorem Writes.of_request {kind : Nat} {act : State → RxFrame → State} (e : s.request kind act = .next t)
    (taken : ∀ f, Writes c s (act s f)) : Writes c s t :=
  Machine.of_request (P := Writes c s) e .refl (fun _ _ => .keeps rfl) taken

theorem Writes.of_onSession {f : RxFrame} {act : Session → State} (known : ∀ x, Writes c s (act x)) :
    Writes c s (s.onSession f act) :=
  Machine.of_onSession (P := Writes c s) (.keeps rfl) fun x _ => known x

theorem Writes.ite {p : Prop} [Decidable p] (yes : Writes c s t) (no : Writes c s u) :
    Writes c s (if p then t else u) := by
  split
  · exact yes
  · exact no

end

variable {s t : State}

/-! ### The inlet -/

theorem writes_sample (u : State) (v a : Nat) : (u.sample v a).lasting =
    Lasting.written (.voltageSample v a) u.lasting (u.sample v a).lasting := by
  unfold State.lasting
  rw [kept_sample]
  rfl

/-! ### The loop -/

theorem writes_onAnswer {c : Instr} (op : Nat) (resp : List Byte) : Writes c s (s.onAnswer op resp) := by
  unfold State.onAnswer
  split
  · next o _ =>
    split
    · split
      · exact .keeps (lasting_of_kept (kept_answered ..))
      · exact .refl
    · exact .refl
  · exact .refl

theorem writes_failedAttempt {c : Instr} (u : State) (o : OnLoop) : Writes c u (u.failedAttempt o) :=
  .keeps (lasting_of_kept (kept_failedAttempt ..))

/-! ### The host line -/

theorem lasting_goStandalone (u : State) : u.goStandalone.lasting = u.lasting := by
  unfold State.goStandalone
  exact lasting_of_kept (kept_endSessionsIn ..) |>.trans (lasting_of_kept (kept_raise ..)) |>.trans rfl

theorem lasting_senseHoldup (u : State) (charge : Nat) : (u.senseHoldup charge).lasting = u.lasting := by
  unfold State.senseHoldup
  split_ifs
  · exact (lasting_of_kept (kept_raise ..)).trans rfl
  · rfl
  · rfl

theorem lasting_receive (u : State) (b : Byte) (gap : Nat) :
    (u.receive b gap).lasting = { u.lasting with rx := (u.receive b gap).lasting.rx } := by
  unfold State.receive State.arrive
  dsimp only
  split
  · split <;> rfl
  · rfl

theorem writes_replySent (x : Int) (ordinary : ∀ y, s.link.tx = some y → y.after ≠ .restart)
    (e : exec (.replySent x) s = .next t) : Writes (.replySent x) s t := by
  refine of_live e .refl ?_
  cases sent : s.sendable with
  | none => exact .refl
  | some y =>
    have after := ordinary y (Option.eq_some_of_filter_eq_some sent)
    dsimp only
    unfold State.replyGone
    dsimp only
    split
    · exact .keeps rfl
    · exact .keeps rfl
    · next restart => exact absurd restart after

end Sys2Proof.Machine


/-! Who writes what (O60): each command writes, of what lasts, its own alone. -/

namespace Sys2Proof.Machine

variable {s t : State}

/-! ### Requests -/

theorem lasting_putSetting (u : State) (i : SettingId) (v : Nat) :
    (u.putSetting i v).lasting = { u.lasting with settings := (u.putSetting i v).lasting.settings } := by
  unfold State.putSetting
  split
  · rfl
  · by_cases e : i = .silence
    · subst e; rfl
    · rw [lasting_of_kept (kept_settingActs _ i e)]
      rfl

/-- A request whose work keeps all that lasts, and the end of its event. -/
theorem writes_answered {c : Instr} {u : State} (h : u.kept = s.kept) (f : RxFrame) (r : Result) (p : List Byte) :
    Writes c s (u.reply f r p).settle := .settle (.keeps (show u.lasting = s.lasting from lasting_of_kept h))

theorem writes_setSetting (e : exec .setSetting s = .next t) : Writes .setSetting s t := by
  refine .of_request (show execSetSetting s = _ from e) fun f => ?_
  dsimp only
  split
  · next i _ =>
    unfold State.setNumbered
    refine .ite (.keeps rfl) ?_
    dsimp only
    have put : Writes .setSetting s (s.putSetting i (settingTaken i (payNat f.payload 1 2))) := lasting_putSetting ..
    generalize s.putSetting i _ = u at put ⊢
    exact .settle (put.after rfl)
  · next c field _ _ =>
    unfold State.setChannel
    dsimp only
    split
    · exact .keeps rfl
    · next new _ =>
      have same := kept_configure s c new
      generalize s.configure c new = u at same ⊢
      exact writes_answered same ..
  · exact .keeps rfl

theorem writes_grantRelease {c : Instr} (f : RxFrame) (i : BayIx) (w : Nat) (holder : Option Badge) :
    Writes c s (s.grantRelease f i w holder) := by
  unfold State.grantRelease
  dsimp only
  have same := kept_acceptRelease s i (s.windowTaken w) holder .host
  generalize s.acceptRelease i (s.windowTaken w) holder .host = u at same ⊢
  exact .settle (.of_kept (kept_drainMind ..) (.keeps (show u.lasting = s.lasting from lasting_of_kept same)))

theorem writes_releaseNumber {c : Instr} (f : RxFrame) (n w : Nat) (holder : Option Badge) (force : Bool) :
    Writes c s (s.releaseNumber f n w holder force) := by
  unfold State.releaseNumber
  split
  · exact .keeps rfl
  · split
    · exact .keeps rfl
    · exact writes_grantRelease ..

theorem writes_releaseBay (e : exec .releaseBay s = .next t) : Writes .releaseBay s t := by
  refine .of_request (show execReleaseBay s = _ from e) fun f => ?_
  dsimp only
  split
  · exact .keeps rfl
  · exact writes_releaseNumber ..

theorem writes_releaseAsset (e : exec .releaseAsset s = .next t) : Writes .releaseAsset s t := by
  refine .of_request (show execReleaseAsset s = _ from e) fun f => ?_
  dsimp only
  split
  · exact .keeps rfl
  · refine .ite (.keeps rfl) (.ite (.keeps rfl) ?_)
    split
    · exact .keeps rfl
    · exact writes_releaseNumber ..

theorem writes_releaseBest (e : exec .releaseBest s = .next t) : Writes .releaseBest s t := by
  refine .of_request (show execReleaseBest s = _ from e) fun f => ?_
  dsimp only
  split
  · exact .keeps rfl
  · refine .ite (.keeps rfl) ?_
    split
    · exact .keeps rfl
    · exact writes_grantRelease ..

theorem writes_cancelRelease (e : exec .cancelRelease s = .next t) : Writes .cancelRelease s t := by
  refine .of_request (show execCancelRelease s = _ from e) fun f => ?_
  split
  · exact .keeps rfl
  · next i _ =>
    split
    · exact .keeps rfl
    · refine writes_answered ?_ ..
      unfold State.cancelRelease
      repeat' split
      all_goals simp

theorem writes_admitBay (e : exec .admitBay s = .next t) : Writes .admitBay s t := by
  refine .of_request (show execAdmitBay s = _ from e) fun f => ?_
  split
  · exact .keeps rfl
  · next i _ =>
    split
    · exact .keeps rfl
    · refine writes_answered ?_ ..
      unfold State.admitBay
      dsimp only
      split <;> simp

theorem writes_rosterPut (e : exec .rosterPut s = .next t) : Writes .rosterPut s t := by
  refine .of_request (show execRosterPut s = _ from e) fun f =>
    .ite (.keeps rfl) (.ite (show Writes .rosterPut s _ from rfl) (.ite (.keeps rfl) ?_))
  dsimp only
  unfold State.addEntry
  cases s.adoptable? (payAsset f.payload 0) <;> exact (rfl : _ = _)

theorem writes_rosterDrop (e : exec .rosterDrop s = .next t) : Writes .rosterDrop s t := by
  refine .of_request (show execRosterDrop s = _ from e) fun f => .ite (.keeps rfl) (.ite (.keeps rfl) ?_)
  have dropped : ∀ a, Writes .rosterDrop s (s.dropEntry a) := fun a => by
    unfold State.dropEntry
    exact .of_kept (kept_modBays ..) (rfl : _ = _)
  have work := dropped (payAsset f.payload 0)
  generalize s.dropEntry (payAsset f.payload 0) = u at work ⊢
  exact work.after rfl

theorem writes_openSession (e : exec .openSession s = .next t) : Writes .openSession s t := by
  refine .of_request (show execOpenSession s = _ from e) fun f => ?_
  dsimp only
  split
  · exact .keeps rfl
  · split
    · exact .keeps rfl
    · split
      · exact .keeps rfl
      · exact writes_answered (kept_admitSession ..) ..

theorem writes_linkUp (e : exec .linkUp s = .next t) : Writes .linkUp s t := by
  refine .of_request (show execLinkUp s = _ from e) fun f => .of_onSession fun x => ?_
  have linked : Writes .linkUp s (s.linkUpSession x) := .keeps (lasting_of_kept (kept_linkUpSession s x))
  split
  · generalize s.linkUpSession x = u at linked ⊢
    exact linked.after rfl
  · exact .keeps rfl

theorem writes_progress (e : exec .progress s = .next t) : Writes .progress s t := by
  refine .of_request (show execProgress s = _ from e) fun _ => .of_onSession fun x => ?_
  dsimp only
  exact .ite (.keeps rfl) (.keeps rfl)

theorem writes_abortSession (e : exec .abortSession s = .next t) : Writes .abortSession s t :=
  .of_request (show execAbortSession s = _ from e) fun _ => .of_onSession fun x =>
    .ite (.keeps rfl) (writes_answered (kept_endSession s x.id .aborted) ..)

theorem writes_sessionStatus (e : exec .sessionStatus s = .next t) : Writes .sessionStatus s t := by
  refine .of_request (show execSessionStatus s = _ from e) fun f => ?_
  split
  · exact .keeps rfl
  · exact .of_onSession fun _ => .keeps rfl

theorem writes_rebuildLoop (e : exec .rebuildLoop s = .next t) : Writes .rebuildLoop s t := by
  refine .of_request (show execRebuildLoop s = _ from e) fun f => .ite (.keeps rfl) (.ite (.keeps rfl) ?_)
  exact writes_answered (kept_startRebuild s .host) ..

theorem writes_finishSession (e : exec .finishSession s = .next t) : Writes .finishSession s t := by
  refine .of_request (show execFinishSession s = _ from e) fun f => .of_onSession fun x => ?_
  dsimp only
  have finished : ∀ ok, Writes .finishSession s (s.finishActive x ok) := fun ok =>
    .keeps (lasting_of_kept (kept_finishActive s x ok))
  split
  · exact .keeps rfl
  · split
    · have work := finished (decide (payByte f.payload 1 = 0))
      generalize s.finishActive x _ = u at work ⊢
      exact work.after rfl
    · exact .keeps rfl

theorem writes_clearFault (e : exec .clearFault s = .next t) : Writes .clearFault s t := by
  refine .of_request (show execClearFault s = _ from e) fun f => .ite ?_ ?_
  · have cleared : Writes .clearFault s s.clearLatch := Writes.of_kept (kept_recomputePool _) (rfl : _ = _)
    generalize s.clearLatch = u at cleared ⊢
    exact .settle (cleared.after rfl)
  · split
    · exact .keeps rfl
    · next i _ =>
      refine .ite (writes_answered ?_ ..) (.keeps rfl)
      unfold State.clearBayFault
      dsimp only
      repeat' split
      all_goals simp

theorem writes_setQuiet (e : exec .setQuiet s = .next t) : Writes .setQuiet s t := by
  refine .of_request (show execSetQuiet s = _ from e) fun f => ?_
  split
  · exact .keeps rfl
  · have set : ∀ on, Writes .setQuiet s (State.recomputePool { s with pool := { s.pool with quiet := on } }) := fun on =>
      Writes.of_kept (kept_recomputePool _) (rfl : _ = _)
    next on _ =>
    have work := set on
    generalize State.recomputePool _ = u at work ⊢
    exact .settle (work.after rfl)

theorem writes_prepareReadySet (e : exec .prepareReadySet s = .next t) : Writes .prepareReadySet s t := by
  refine .of_request (show execPrepareReadySet s = _ from e) fun f => ?_
  dsimp only
  exact .ite (.keeps rfl) (writes_answered (kept_prepareReady ..) ..)

theorem writes_setBayCharge (e : exec .setBayCharge s = .next t) : Writes .setBayCharge s t := by
  refine .of_request (show execSetBayCharge s = _ from e) fun f => ?_
  split
  · exact .keeps rfl
  · split
    · exact .keeps rfl
    · exact writes_answered ((kept_markPending _).trans (kept_modBay ..)) ..

theorem writes_setNoticeLevel (e : exec .setNoticeLevel s = .next t) : Writes .setNoticeLevel s t := by
  refine .of_request (show execSetNoticeLevel s = _ from e) fun f => ?_
  split
  · exact .keeps rfl
  · exact .ite (.keeps rfl) (rfl : _ = _)

theorem writes_saveSettings (w : StoreWrite) (e : exec (.saveSettings w) s = .next t) :
    Writes (.saveSettings w) s t := by
  refine .of_request (show execSaveSettings w s = _ from e) fun f => ?_
  cases w <;> exact (rfl : _ = _)

/-- A request that reports. -/
theorem writes_bayStatus (e : exec .bayStatus s = .next t) : Writes .bayStatus s t := by
  refine .of_request (show execBayStatus s = _ from e) fun f => ?_
  split <;> exact .keeps rfl

theorem writes_baySummary (e : exec .baySummary s = .next t) : Writes .baySummary s t := by
  refine .of_request (show execBaySummary s = _ from e) fun f => ?_
  split <;> exact .keeps rfl

theorem writes_getSetting (e : exec .getSetting s = .next t) : Writes .getSetting s t := by
  refine .of_request (show execGetSetting s = _ from e) fun f => ?_
  dsimp only
  split <;> exact .keeps rfl

theorem writes_rosterGet (e : exec .rosterGet s = .next t) : Writes .rosterGet s t := by
  refine .of_request (show execRosterGet s = _ from e) fun f => .ite (.keeps rfl) ?_
  split <;> exact .keeps rfl

theorem writes_unknownKind (e : exec .unknownKind s = .next t) : Writes .unknownKind s t := by
  refine of_live e .refl ?_
  split
  · exact .ite (.keeps rfl) .refl
  · exact .refl

/-! ### The commands that no request makes -/

theorem writes_trimAudit (e : exec .trimAudit s = .next t) : Writes .trimAudit s t := by
  refine of_live e .refl (.of_atDue fun u => .ite (.settle ?_) (.keeps rfl))
  have audited := congrArg Kept.lasting
    (kept_audit { u with inlet := { u.inlet with auditDue := u.inlet.auditDue + 4000 } })
  generalize State.audit _ = v at audited ⊢
  refine Eq.trans audited ?_
  rw [show v.lasting = _ from audited]
  rfl

theorem writes_temperatureReading (x : Int) (e : exec (.temperatureReading x) s = .next t) :
    Writes (.temperatureReading x) s t := by
  refine of_live e .refl (.of_atDue fun u => .settle (.keeps ?_))
  exact (congrArg Kept.lasting (kept_takeTemperature _ x)).trans rfl

theorem writes_linkLost (e : exec .linkLost s = .next t) : Writes .linkLost s t := by
  refine of_live e .refl ?_
  split
  · exact .ite (writes_failedAttempt (s.reach _) _) .refl
  · exact .refl

theorem writes_responseWaitExpiry (e : exec .responseWaitExpiry s = .next t) : Writes .responseWaitExpiry s t := by
  refine of_live e .refl ?_
  split
  · exact writes_failedAttempt (s.reach _) _
  · exact .refl

theorem writes_responseNotValid (resp : List Byte) (e : exec (.responseNotValid resp) s = .next t) :
    Writes (.responseNotValid resp) s t := by
  refine of_live e .refl ?_
  split
  · exact .ite (writes_failedAttempt ..) .refl
  · exact .refl

theorem writes_shed (e : exec .shed s = .next t) : Writes .shed s t := by
  refine of_live e .refl ?_
  split
  · exact .ite (.keeps rfl) .refl
  · exact .refl

theorem writes_rebuildPowerOffEnd (e : exec .rebuildPowerOffEnd s = .next t) : Writes .rebuildPowerOffEnd s t := by
  refine of_live e .refl ?_
  split
  · exact .keeps rfl
  · exact .refl

theorem writes_rebuildBootEnd (e : exec .rebuildBootEnd s = .next t) : Writes .rebuildBootEnd s t := by
  refine of_live e .refl ?_
  split
  · exact .keeps rfl
  · exact .refl

theorem lasting_scanNext (u : State) : u.scanNext.lasting = u.lasting := by
  unfold State.scanNext
  split
  · rfl
  · exact lasting_of_kept (kept_scanPlace ..)

/-- The work of an event that keeps all that lasts, and its end. -/
theorem writes_settled {c : Instr} {u v : State} (h : v.kept = u.kept) : Writes c u v.settle :=
  .settle (.keeps (lasting_of_kept h))

theorem writes_placed {c : Instr} {u v : State} (txn : Txn) (h : v.kept = u.kept) : Writes c u (v.place txn) :=
  .keeps (lasting_of_kept ((kept_place ..).trans h))

theorem writes_exec {c : Instr} (e : exec c s = .next t) (on : ∀ k x, c ≠ .powerOn k x)
    (release : ∀ x, c ≠ .resetPinRelease x)
    (ordinary : ∀ x, c = .replySent x → ∀ y, s.link.tx = some y → y.after ≠ .restart) : Writes c s t := by
  cases c with
  | voltageSample v a => exact of_live e .refl (writes_sample s v a)
  | inletRestored v a => exact of_live e .refl (.ite (writes_sample s v a) .refl)
  | strike v a => exact of_live e .refl (.ite (writes_sample s v a) .refl)
  | strikeAgeOut => exact of_live e .refl (.of_atDue fun _ => (rfl : _ = _))
  | strikeHoldoffExpiry => exact of_live e .refl (.of_atDue fun _ => .keeps rfl)
  | temperatureReading x => exact writes_temperatureReading x e
  | poolRecompute => exact of_live e .refl (.of_atDue fun u => writes_settled ((kept_recomputePool _).trans rfl))
  | trimAudit => exact writes_trimAudit e
  | rideThroughExpiry => exact of_live e .refl (.of_atDue fun u => writes_settled (kept_rideOut u))
  | drainLimitExpiry => exact of_live e .refl (.of_atDue fun u => writes_settled (kept_endDrain u))
  | settleExpiry => exact of_live e .refl (.of_atDue fun u => writes_settled ((kept_startRebuild _ _).trans rfl))
  | roundBegin => exact of_live e .refl (.of_atDue fun u => writes_settled (kept_beginRound u))
  | loopTransactionBegin => exact of_live e .refl (.ite (writes_settled (kept_beginNext _ s)) .refl)
  | placementAppended => exact of_live e .refl (.keeps rfl)
  | responseWaitExpiry => exact writes_responseWaitExpiry e
  | linkLost => exact writes_linkLost e
  | status resp key => exact of_live e .refl (writes_onAnswer (s := { s with keyswitch := key }) _ resp)
  | grant resp => exact of_live e .refl (writes_onAnswer _ resp)
  | tag resp => exact of_live e .refl (writes_onAnswer _ resp)
  | lock resp => exact of_live e .refl (writes_onAnswer _ resp)
  | lamp resp => exact of_live e .refl (writes_onAnswer _ resp)
  | shed => exact writes_shed e
  | identify resp => exact of_live e .refl (writes_onAnswer _ resp)
  | assign resp => exact of_live e .refl (writes_onAnswer _ resp)
  | pass resp => exact of_live e .refl (writes_onAnswer _ resp)
  | nodereset resp => exact of_live e .refl (writes_onAnswer _ resp)
  | scanPassStart => exact of_live e .refl (.ite (.of_atDue fun u => .keeps (lasting_of_kept (kept_startPass u))) .refl)
  | scanStatusPlace => exact of_live e .refl (.ite (.of_atDue fun u => .keeps (lasting_scanNext u)) .refl)
  | rebuildPowerOffEnd => exact writes_rebuildPowerOffEnd e
  | rebuildBootEnd => exact writes_rebuildBootEnd e
  | autoRebuildCheck => exact of_live e .refl (.of_atDue fun u => writes_settled ((kept_autoCheck _).trans rfl))
  | travelWaitExpiry k => exact of_live e .refl (.of_pulseTimer fun _ _ => writes_placed _ (kept_setSlot ..))
  | busyRetryExpiry k => exact of_live e .refl (.of_pulseTimer fun _ _ => writes_placed _ (kept_setSlot ..))
  | cooldownExpiry k => exact of_live e .refl (.of_pulseTimer fun _ _ => .keeps (lasting_of_kept (kept_startAttempt ..)))
  | seatSettleExpiry i => exact of_live e .refl (.of_atDue fun u => writes_placed _ rfl)
  | tagRetryDelayExpiry i => exact of_live e .refl (.of_atDue fun u => writes_placed _ rfl)
  | refusedDisplayEnd i => exact of_live e .refl (.of_atDue fun u => writes_settled rfl)
  | releaseWindowExpiry i => exact of_live e .refl (.of_atDue fun u => writes_settled (kept_windowEnds u i))
  | overdrawFault resp key =>
    exact of_live e .refl (.ite (writes_onAnswer (s := { s with keyswitch := key }) _ resp) .refl)
  | linkTimerExpiry id => exact of_live e .refl (.of_atDue fun u => writes_settled (kept_endSession u id _))
  | idleTimerExpiry id => exact of_live e .refl (.of_atDue fun u => writes_settled (kept_endSession u id _))
  | drainSettleExpiry id => exact of_live e .refl (.of_atDue fun u => writes_settled (kept_endSession u id _))
  | frameArrival b gap => exact of_live e .refl (.ite (lasting_receive s b gap) .refl)
  | replySent x => exact writes_replySent x (ordinary x rfl) e
  | hostSilenceExpiry => exact of_live e .refl (.of_atDue fun u => .keeps (lasting_goStandalone u))
  | holdupSense charge => exact of_live e .refl (.of_atDue fun u => .keeps ((lasting_senseHoldup _ charge).trans rfl))
  | secondsTick => exact of_live e .refl (.of_atDue fun _ => (rfl : _ = _))
  | powerOn k x => exact absurd rfl (on k x)
  | resetPinAssert => exact of_live e .refl (.keeps rfl)
  | resetPinRelease x => exact absurd rfl (release x)
  | unknownKind => exact writes_unknownKind e
  | identifyRequest => exact .of_request (show execIdentifyRequest s = _ from e) fun _ => .keeps rfl
  | cartStatus key => exact .of_request (show execCartStatus key s = _ from e) fun _ => .keeps rfl
  | bayStatus => exact writes_bayStatus e
  | baySummary => exact writes_baySummary e
  | poolStatus => exact .of_request (show execPoolStatus s = _ from e) fun _ => .keeps rfl
  | setSetting => exact writes_setSetting e
  | getSetting => exact writes_getSetting e
  | saveSettings w => exact writes_saveSettings w e
  | setQuiet => exact writes_setQuiet e
  | rosterPut => exact writes_rosterPut e
  | rosterDrop => exact writes_rosterDrop e
  | rosterGet => exact writes_rosterGet e
  | rosterList => exact .of_request (show execRosterList s = _ from e) fun _ => .keeps rfl
  | releaseBay => exact writes_releaseBay e
  | releaseAsset => exact writes_releaseAsset e
  | releaseBest => exact writes_releaseBest e
  | cancelRelease => exact writes_cancelRelease e
  | admitBay => exact writes_admitBay e
  | prepareReadySet => exact writes_prepareReadySet e
  | clearReadySet => exact .of_request (show execClearReadySet s = _ from e) fun _ =>
      writes_answered (kept_emptyReady ..) ..
  | readySetStatus => exact .of_request (show execReadySetStatus s = _ from e) fun _ => .keeps rfl
  | openSession => exact writes_openSession e
  | linkUp => exact writes_linkUp e
  | progress => exact writes_progress e
  | finishSession => exact writes_finishSession e
  | abortSession => exact writes_abortSession e
  | sessionStatus => exact writes_sessionStatus e
  | setBayCharge => exact writes_setBayCharge e
  | clearFault => exact writes_clearFault e
  | rebuildLoop => exact writes_rebuildLoop e
  | restart => exact .of_request (show execRestart s = _ from e) fun _ => .keeps rfl
  | fetchNotices => exact .of_request (show execFetchNotices s = _ from e) fun _ => .keeps rfl
  | setNoticeLevel => exact writes_setNoticeLevel e
  | byteReceived b gap => exact of_live e .refl (lasting_receive s b gap)
  | lineError => exact of_live e .refl (rfl : _ = _)
  | clearLineChange level begun => exact of_live e .refl (.ite .refl (.keeps rfl))
  | responseNotValid resp => exact writes_responseNotValid resp e

end Sys2Proof.Machine


/-! Who writes what (O60): the commands that only serve leave the eight blocks, the commands at which no phase of a round
begins leave the round and the grants. -/

namespace Sys2Proof.Machine

/-- The blocks that the host line, the reports and the counters leave. -/
structure Served where
  power : Power
  round : Round
  arb : Arbiter
  sess : Sessions
  loop : Loop
  bays : Vector Bay 36
  cust : CustodyUnit
  pool : Pool

def State.served (s : State) : Served := ⟨s.power, s.round, s.arb, s.sess, s.loop, s.bays, s.cust, s.pool⟩

/-- The state at the end of an event of a command, with what a frame has to say of it. -/
def State.Serves (s t : State) : Prop := t.served = s.served

section
variable {s t u : State}

theorem State.Serves.ite {p : Prop} [Decidable p] (yes : s.Serves t) (no : s.Serves u) :
    s.Serves (if p then t else u) := by
  split
  · exact yes
  · exact no

theorem State.Serves.of_request {kind : Nat} {act : State → RxFrame → State} (e : s.request kind act = .next t)
    (taken : ∀ f, s.Serves (act s f)) : s.Serves t :=
  Machine.of_request (P := s.Serves) e rfl (fun _ _ => rfl) taken

theorem State.Serves.of_atDue {due : Option Nat} {f : State → State} (ends : ∀ u : State, u.Serves (f u)) :
    s.Serves (s.atDue due f) :=
  Machine.of_atDue (P := s.Serves) rfl fun d _ => ends (s.reach d)

theorem serves_senseHoldup (u : State) (charge : Nat) : (u.senseHoldup charge).served = u.served := by
  unfold State.senseHoldup
  split_ifs
  · obtain ⟨n, e, -⟩ := raise_spec { u with retained := { u.retained with lowEpisode := true } } .holdupLow none none none
      (some charge) none
    rw [e]
    rfl
  · rfl
  · rfl

theorem serves_receive (u : State) (b : Byte) (gap : Nat) : (u.receive b gap).served = u.served := by
  unfold State.receive State.arrive
  dsimp only
  split
  · split <;> rfl
  · rfl

theorem serves_replySent (x : Int) (ordinary : ∀ y, s.link.tx = some y → y.after ≠ .restart)
    (e : exec (.replySent x) s = .next t) : s.Serves t := by
  refine of_live e rfl ?_
  cases sent : s.sendable with
  | none => exact (rfl : _ = _)
  | some y =>
    have after := ordinary y (Option.eq_some_of_filter_eq_some sent)
    dsimp only
    unfold State.replyGone
    dsimp only
    split
    · exact (rfl : _ = _)
    · exact (rfl : _ = _)
    · next restart => exact absurd restart after

/-- The requests that only serve. -/
theorem serves_request {c : Instr} (e : exec c s = .next t)
    (m : c ∈ [.identifyRequest, .bayStatus, .baySummary, .poolStatus, .getSetting, .rosterGet, .rosterList,
      .readySetStatus, .sessionStatus, .restart, .fetchNotices, .setNoticeLevel]) : s.Serves t := by
  simp only [List.mem_cons, List.not_mem_nil, or_false] at m
  obtain rfl | rfl | rfl | rfl | rfl | rfl | rfl | rfl | rfl | rfl | rfl | rfl := m
  · exact .of_request (show execIdentifyRequest s = _ from e) fun _ => rfl
  · refine .of_request (show execBayStatus s = _ from e) fun _ => ?_
    split <;> exact (rfl : _ = _)
  · refine .of_request (show execBaySummary s = _ from e) fun _ => ?_
    split <;> exact (rfl : _ = _)
  · exact .of_request (show execPoolStatus s = _ from e) fun _ => rfl
  · refine .of_request (show execGetSetting s = _ from e) fun _ => ?_
    dsimp only
    split <;> exact (rfl : _ = _)
  · refine .of_request (show execRosterGet s = _ from e) fun _ => .ite rfl ?_
    split <;> exact (rfl : _ = _)
  · exact .of_request (show execRosterList s = _ from e) fun _ => rfl
  · exact .of_request (show execReadySetStatus s = _ from e) fun _ => rfl
  · exact .of_request (show execSessionStatus s = _ from e) fun _ =>
      .ite rfl (Machine.of_onSession (P := s.Serves) rfl fun _ _ => rfl)
  · exact .of_request (show execRestart s = _ from e) fun _ => rfl
  · exact .of_request (show execFetchNotices s = _ from e) fun _ => rfl
  · refine .of_request (show execSetNoticeLevel s = _ from e) fun _ => ?_
    split
    · exact (rfl : _ = _)
    · exact .ite rfl rfl

/-- A command that only serves leaves the blocks. -/
theorem serves_exec {c : Instr} (e : exec c s = .next t) (own : onlyServes c = true)
    (ordinary : ∀ x, c = .replySent x → ∀ y, s.link.tx = some y → y.after ≠ .restart) : s.Serves t := by
  cases c with
  | strikeAgeOut => exact of_live e rfl (.of_atDue fun _ => rfl)
  | frameArrival b gap => exact of_live e rfl (.ite (serves_receive s b gap) rfl)
  | byteReceived b gap => exact of_live e rfl (serves_receive s b gap)
  | lineError => exact of_live e rfl rfl
  | clearLineChange level begun => exact of_live e rfl (.ite rfl rfl)
  | replySent x => exact serves_replySent x (ordinary x rfl) e
  | holdupSense charge => exact of_live e rfl (.of_atDue fun u => (serves_senseHoldup _ charge).trans rfl)
  | secondsTick => exact of_live e rfl (.of_atDue fun _ => rfl)
  | unknownKind =>
    refine of_live e rfl ?_
    split
    · exact .ite rfl rfl
    · exact (rfl : _ = _)
  | cartStatus key => exact .of_request (show execCartStatus key s = _ from e) fun _ => rfl
  | saveSettings w =>
    refine .of_request (show execSaveSettings w s = _ from e) fun _ => ?_
    cases w <;> exact (rfl : _ = _)
  | identifyRequest | bayStatus | baySummary | poolStatus | getSetting | rosterGet | rosterList | readySetStatus
  | sessionStatus | restart | fetchNotices | setNoticeLevel => exact serves_request e (by decide)
  | _ => simp [onlyServes] at own

end

end Sys2Proof.Machine


/-! Who writes what (O60): the round and the grants, which the commands at which no phase of a round begins leave; and the
obligation. -/

namespace Sys2Proof.Machine

/-! ### The round and the grants -/

/-- The round, and every bay's commanded grant, applied grant and outstanding GRANT. -/
def State.rounds (s : State) : Round × (BayIx → Nat × Nat × Option Outstanding) :=
  (s.round, fun i => ((s.bay i).commanded, (s.bay i).applied, (s.bay i).outstanding))

def State.SameRounds (s t : State) : Prop := t.rounds = s.rounds

section
variable {s t u : State}

theorem State.SameRounds.ite {p : Prop} [Decidable p] (yes : s.SameRounds t) (no : s.SameRounds u) :
    s.SameRounds (if p then t else u) := by
  split
  · exact yes
  · exact no

theorem State.SameRounds.of_request {kind : Nat} {act : State → RxFrame → State} (e : s.request kind act = .next t)
    (taken : ∀ f, s.SameRounds (act s f)) : s.SameRounds t :=
  Machine.of_request (P := s.SameRounds) e rfl (fun _ _ => rfl) taken

theorem State.SameRounds.of_onSession {f : RxFrame} {act : Session → State} (known : ∀ x, s.SameRounds (act x)) :
    s.SameRounds (s.onSession f act) :=
  Machine.of_onSession (P := s.SameRounds) rfl fun x _ => known x

theorem State.SameRounds.of_atDue {due : Option Nat} {f : State → State} (ends : ∀ u : State, u.SameRounds (f u)) :
    s.SameRounds (s.atDue due f) :=
  Machine.of_atDue (P := s.SameRounds) rfl fun d _ => ends (s.reach d)

theorem State.SameRounds.of_pulseTimer {k : PulseSlot} {due : Pulse → Option Nat} {f : State → Pulse → State}
    (ends : ∀ (u : State) p, u.SameRounds (f u p)) : s.SameRounds (s.pulseTimer k due f) :=
  Machine.of_pulseTimer (P := s.SameRounds) rfl fun p d _ => ends (s.reach d) p

theorem sameRounds_modBay (u : State) (i : BayIx) (f : Bay → Bay) (commanded : ∀ b, (f b).commanded = b.commanded)
    (applied : ∀ b, (f b).applied = b.applied) (outstanding : ∀ b, (f b).outstanding = b.outstanding) :
    u.SameRounds (u.modBay i f) := by
  unfold State.SameRounds State.rounds
  refine congrArg (Prod.mk u.round) (funext fun j => ?_)
  rw [bay_modBay]
  split
  · next e => rw [e, commanded, applied, outstanding]
  · rfl

theorem sameRounds_setSlot (u : State) (k : PulseSlot) (p : Option Pulse) : u.SameRounds (u.setSlot k p) := by
  cases k <;> exact (rfl : _ = _)

theorem sameRounds_startPass (u : State) : u.SameRounds u.startPass := by
  unfold State.startPass
  dsimp only
  split <;> exact (rfl : _ = _)

theorem sameRounds_scanNext (u : State) : u.SameRounds u.scanNext := by
  unfold State.scanNext
  split <;> exact (rfl : _ = _)

theorem sameRounds_chanOf (u : State) (x : Session) (f : Channel → Channel) : u.SameRounds (u.chanOf x f) := by
  unfold State.chanOf
  split <;> exact (rfl : _ = _)

theorem sameRounds_raise (u : State) (k : NoticeKind) (bay : Option BayIx) (asset : Option AssetId)
    (session : Option Nat) (value : Option Nat) (reason : Option Reason) :
    u.SameRounds (u.raise k bay asset session value reason) := by
  obtain ⟨n, e, -⟩ := raise_spec u k bay asset session value reason
  rw [e]
  exact (rfl : _ = _)

theorem sameRounds_linkUpSession (u : State) (x : Session) : u.SameRounds (u.linkUpSession x) := by
  unfold State.linkUpSession
  exact (sameRounds_raise ..).trans ((sameRounds_chanOf ..).trans rfl)

theorem sameRounds_finishActive (u : State) (x : Session) (ok : Bool) : u.SameRounds (u.finishActive x ok) := by
  unfold State.finishActive
  exact (sameRounds_chanOf ..).trans rfl

theorem sameRounds_rosterPut (e : exec .rosterPut s = .next t) : s.SameRounds t := by
  refine .of_request (show execRosterPut s = _ from e) fun f => .ite rfl (.ite rfl (.ite rfl ?_))
  dsimp only
  unfold State.addEntry
  cases s.adoptable? (payAsset f.payload 0) with
  | none => exact (rfl : _ = _)
  | some i =>
    exact sameRounds_modBay s i (fun b => { b with standing := some .docked }) (fun _ => rfl) (fun _ => rfl) fun _ => rfl

theorem sameRounds_rosterDrop (e : exec .rosterDrop s = .next t) : s.SameRounds t := by
  refine .of_request (show execRosterDrop s = _ from e) fun f => .ite rfl (.ite rfl ?_)
  have dropped : ∀ a, s.SameRounds (s.dropEntry a) := fun a => by
    unfold State.dropEntry State.SameRounds State.rounds
    dsimp only
    rw [modBays_round]
    refine congrArg (Prod.mk s.round) (funext fun j => ?_)
    rw [bay_modBays]
    split <;> rfl
  have work := dropped (payAsset f.payload 0)
  generalize s.dropEntry (payAsset f.payload 0) = u at work ⊢
  exact work

theorem sameRounds_linkUp (e : exec .linkUp s = .next t) : s.SameRounds t := by
  refine .of_request (show execLinkUp s = _ from e) fun f => .of_onSession fun x => ?_
  have linked := sameRounds_linkUpSession s x
  generalize s.linkUpSession x = u at linked ⊢
  split
  · exact linked
  · exact (rfl : _ = _)

theorem sameRounds_progress (e : exec .progress s = .next t) : s.SameRounds t := by
  refine .of_request (show execProgress s = _ from e) fun f => .of_onSession fun x => ?_
  dsimp only
  split <;> exact (rfl : _ = _)

theorem sameRounds_finishSession (e : exec .finishSession s = .next t) : s.SameRounds t := by
  refine .of_request (show execFinishSession s = _ from e) fun f => .of_onSession fun x => ?_
  dsimp only
  split
  · exact (rfl : _ = _)
  · split
    · have finished := sameRounds_finishActive s x (payByte f.payload 1 = 0)
      generalize s.finishActive x _ = u at finished ⊢
      exact finished
    · exact (rfl : _ = _)

/-- A command at whose event no phase of a round begins leaves the round and the grants (R34 to R41). -/
theorem sameRounds_exec {c : Instr} (e : exec c s = .next t) (own : leavesRound c = true)
    (ordinary : ∀ x, c = .replySent x → ∀ y, s.link.tx = some y → y.after ≠ .restart) : s.SameRounds t := by
  by_cases serves : onlyServes c = true
  · exact congrArg (fun v : Served =>
      (v.round, fun i : BayIx => (v.bays[i.1].commanded, v.bays[i.1].applied, v.bays[i.1].outstanding)))
      (serves_exec e serves ordinary)
  · cases c with
    | placementAppended => exact of_live e rfl rfl
    | shed =>
      refine of_live e rfl ?_
      split
      · exact .ite rfl rfl
      · exact (rfl : _ = _)
    | scanPassStart => exact of_live e rfl (.ite (.of_atDue sameRounds_startPass) rfl)
    | scanStatusPlace => exact of_live e rfl (.ite (.of_atDue sameRounds_scanNext) rfl)
    | rebuildPowerOffEnd =>
      refine of_live e rfl ?_
      split <;> exact (rfl : _ = _)
    | rebuildBootEnd =>
      refine of_live e rfl ?_
      split <;> exact (rfl : _ = _)
    | travelWaitExpiry k => exact of_live e rfl (.of_pulseTimer fun u _ => (sameRounds_setSlot u k _).trans rfl)
    | busyRetryExpiry k => exact of_live e rfl (.of_pulseTimer fun u _ => (sameRounds_setSlot u k _).trans rfl)
    | cooldownExpiry k => exact of_live e rfl (.of_pulseTimer fun u _ => (sameRounds_setSlot u k _).trans rfl)
    | seatSettleExpiry i => exact of_live e rfl (.of_atDue fun u => (sameRounds_modBay u i
        (fun b => { b with seatDue := none, tagTries := 1 }) (fun _ => rfl) (fun _ => rfl) fun _ => rfl).trans rfl)
    | tagRetryDelayExpiry i => exact of_live e rfl (.of_atDue fun u => (sameRounds_modBay u i
        (fun b => { b with tagRetryDue := none, tagTries := b.tagTries + 1 }) (fun _ => rfl) (fun _ => rfl)
        fun _ => rfl).trans rfl)
    | rosterPut => exact sameRounds_rosterPut e
    | rosterDrop => exact sameRounds_rosterDrop e
    | linkUp => exact sameRounds_linkUp e
    | progress => exact sameRounds_progress e
    | finishSession => exact sameRounds_finishSession e
    | _ => simp [leavesRound, onlyServes] at own serves
end

/-! ### What a command writes of what lasts, field by field -/

section
variable {c : Instr} (old new : Lasting)

theorem written_settings (h : c ≠ .setSetting) : (Lasting.written c old new).settings = old.settings := by
  unfold Lasting.written; split <;> simp_all

theorem written_image (h : ∀ w, c ≠ .saveSettings w) : (Lasting.written c old new).image = old.image := by
  unfold Lasting.written; split <;> simp_all

theorem written_levels (h : c ≠ .setNoticeLevel) : (Lasting.written c old new).levels = old.levels := by
  unfold Lasting.written; split <;> simp_all

theorem written_assets (put : c ≠ .rosterPut) (drop : c ≠ .rosterDrop) :
    (Lasting.written c old new).assets = old.assets := by
  unfold Lasting.written; split <;> simp_all

theorem written_trim (h : c ≠ .trimAudit) : (Lasting.written c old new).trim = old.trim := by
  unfold Lasting.written; split <;> simp_all

theorem written_inlet (sample : ∀ v a, c ≠ .voltageSample v a) (restored : ∀ v a, c ≠ .inletRestored v a)
    (strike : ∀ v a, c ≠ .strike v a) : (Lasting.written c old new).voltRing = old.voltRing ∧
      (Lasting.written c old new).currRing = old.currRing ∧ (Lasting.written c old new).cond = old.cond ∧
      (c ≠ .strikeAgeOut → c ≠ .clearFault → (Lasting.written c old new).strikes = old.strikes) ∧
      (c ≠ .clearFault → (Lasting.written c old new).latch = old.latch) := by
  unfold Lasting.written; split <;> simp_all

theorem written_quiet (h : c ≠ .setQuiet) : (Lasting.written c old new).quiet = old.quiet := by
  unfold Lasting.written; split <;> simp_all

theorem written_seconds (h : c ≠ .secondsTick) : (Lasting.written c old new).seconds = old.seconds := by
  unfold Lasting.written; split <;> simp_all

theorem written_rx (arrival : ∀ b g, c ≠ .frameArrival b g) (received : ∀ b g, c ≠ .byteReceived b g)
    (error : c ≠ .lineError) : (Lasting.written c old new).rx = old.rx := by
  unfold Lasting.written; split <;> simp_all

theorem written_cause : (Lasting.written c old new).cause = old.cause ∧
    (Lasting.written c old new).fromImage = old.fromImage := by
  unfold Lasting.written; split <;> simp
end

/-! ### The obligation -/

/-- With no drain and no reconciliation in progress, each of the moving blocks is left by the commands not its own. -/
theorem Footprint.clauses {c : Instr} {s t : State} (foot : mayMovePower c = false → Footprint c s t) (calm : s.Calm) :
    (mayMovePower c = false → t.power = s.power) ∧
    (mayMoveRebuild c = false → t.loop.power = s.loop.power ∧ t.loop.rebuild = s.loop.rebuild ∧
      t.loop.bayCount = s.loop.bayCount) ∧
    (mayMoveLine c = false → t.loop.onLoop.map (·.txn) = s.loop.onLoop.map (·.txn)) ∧
    (mayMoveSessions c = false → t.sess = s.sess) ∧
    (mayMoveCustody c = false →
      (∀ i, (t.bay i).custody = (s.bay i).custody ∧ (t.bay i).assetId = (s.bay i).assetId ∧
        (t.bay i).standing = (s.bay i).standing ∧ (t.bay i).release = (s.bay i).release) ∧
      (s.arb.Sound → ∀ i d, t.hasPulse i d ↔ s.hasPulse i d)) := by
  have rebuildToo : mayMoveRebuild c = false → mayMovePower c = false := fun m =>
    Bool.eq_false_iff.2 fun p => absurd (mayMoveRebuild_of_power p) (by simp [m])
  have lineToo : mayMoveLine c = false → mayMovePower c = false := fun m =>
    Bool.eq_false_iff.2 fun p => absurd (mayMoveLine_of_rebuild (mayMoveRebuild_of_power p)) (by simp [m])
  have sessToo : mayMoveSessions c = false → mayMovePower c = false := fun m =>
    Bool.eq_false_iff.2 fun p => absurd (mayMoveSessions_of_power p) (by simp [m])
  have custodyToo : mayMoveCustody c = false → mayMovePower c = false := fun m =>
    Bool.eq_false_iff.2 fun p => absurd (mayMoveCustody_of_power p) (by simp [m])
  refine ⟨fun m => ((foot m).power m).1, fun m => ?_, fun m => (foot (lineToo m)).line m,
    fun m => (foot (sessToo m)).sess m calm, fun m => ⟨fun i => ?_, fun sound => ?_⟩⟩
  · have works := (foot (rebuildToo m)).rebuild m
    exact ⟨congrArg Works.loopPower works, congrArg Works.rebuild works, congrArg Works.bayCount works⟩
  · have papers := congrFun ((foot (custodyToo m)).papers m) i
    exact ⟨congrArg Papers.custody papers, congrArg Papers.assetId papers, congrArg Papers.standing papers,
      congrArg Papers.release papers⟩
  · exact ((foot (custodyToo m)).pulses m sound.once).2

/-- Settles O60: what lasts by `writes_exec`, the moving blocks by `event_exec`, the rest by `serves_exec` and
`sameRounds_exec`. -/
theorem eachBlockIsWrittenByItsOwnCommands : Obligations.EachBlockIsWrittenByItsOwnCommands := by
  intro c s t e on release ordinary
  have writes : t.lasting = Lasting.written c s.lasting t.lasting := writes_exec e on release ordinary
  have event := event_exec e on release ordinary
  refine ⟨fun h => (congrArg Lasting.settings writes).trans (written_settings _ _ h),
    fun h => (congrArg Lasting.image writes).trans (written_image _ _ h),
    fun h => (congrArg Lasting.levels writes).trans (written_levels _ _ h),
    fun put drop => (congrArg Lasting.assets writes).trans (written_assets _ _ put drop),
    fun h => (congrArg Lasting.trim writes).trans (written_trim _ _ h), fun sample restored strike => ?_,
    fun h => (congrArg Lasting.quiet writes).trans (written_quiet _ _ h),
    fun h => (congrArg Lasting.seconds writes).trans (written_seconds _ _ h),
    fun arrival received error => (congrArg Lasting.rx writes).trans (written_rx _ _ arrival received error),
    (congrArg Lasting.cause writes).trans (written_cause _ _).1,
    (congrArg Lasting.fromImage writes).trans (written_cause _ _).2, fun own => ?_, fun own => ?_,
    fun own => event.roster own, fun calm => Footprint.clauses (event.footprint calm) calm⟩
  · obtain ⟨volts, amps, cond, strikes, latch⟩ := written_inlet s.lasting t.lasting sample restored strike
    exact ⟨(congrArg Lasting.voltRing writes).trans volts, (congrArg Lasting.currRing writes).trans amps,
      (congrArg Lasting.cond writes).trans cond,
      fun age clear => (congrArg Lasting.strikes writes).trans (strikes age clear),
      fun clear => (congrArg Lasting.latch writes).trans (latch clear)⟩
  · have served : t.served = s.served := serves_exec e own ordinary
    exact ⟨congrArg Served.power served, congrArg Served.round served, congrArg Served.arb served,
      congrArg Served.sess served, congrArg Served.loop served, congrArg Served.bays served, congrArg Served.cust served,
      congrArg Served.pool served⟩
  · have rounds : t.rounds = s.rounds := sameRounds_exec e own ordinary
    refine ⟨congrArg Prod.fst rounds, fun i => ?_⟩
    have grants := congrFun (congrArg Prod.snd rounds) i
    exact ⟨congrArg Prod.fst grants, congrArg (·.2.1) grants, congrArg (·.2.2) grants⟩

end Sys2Proof.Machine


/-! Reconciliation (O34): what the rest of an event leaves of a bay's decision. -/

namespace Sys2Proof.Machine

/-! ### The docket: what a decision writes of the roster and the bays -/

/-- The fields of a bay that its decision at reconciliation writes or reads. -/
structure Case where
  link : LinkState
  custody : Custody
  admission : Bool
  assetId : Option AssetId
  standing : Option Standing
  release : Option Release
  seatDue : Option Nat
  tagTries : Nat
  tagRetryDue : Option Nat
  lampShown : Option Colour
  displayDue : Option Nat
  recon : ReconMark
  lastOutcome : Option (SessOutcome × Nat)

def Bay.case (b : Bay) : Case where
  link := b.link
  custody := b.custody
  admission := b.admission
  assetId := b.assetId
  standing := b.standing
  release := b.release
  seatDue := b.seatDue
  tagTries := b.tagTries
  tagRetryDue := b.tagRetryDue
  lampShown := b.lampShown
  displayDue := b.displayDue
  recon := b.recon
  lastOutcome := b.lastOutcome

/-- The roster and the bays' cases. -/
structure Docket where
  roster : List Entry
  case : BayIx → Case

def State.docket (s : State) : Docket := ⟨s.cust.roster, fun i => (s.bay i).case⟩

def Docket.put (d : Docket) (i : BayIx) (c : Case) : Docket := { d with case := Function.update d.case i c }

@[simp] theorem put_case_self (d : Docket) (i : BayIx) (c : Case) : (d.put i c).case i = c := by simp [Docket.put]
@[simp] theorem put_case_ne {d : Docket} {i j : BayIx} (c : Case) (h : j ≠ i) : (d.put i c).case j = d.case j := by
  simp [Docket.put, h]
@[simp] theorem put_roster (d : Docket) (i : BayIx) (c : Case) : (d.put i c).roster = d.roster := rfl
@[simp] theorem put_put (d : Docket) (i : BayIx) (a b : Case) : (d.put i a).put i b = d.put i b := by simp [Docket.put]
@[simp] theorem put_self (d : Docket) (i : BayIx) : d.put i (d.case i) = d := by simp [Docket.put]

theorem docket_of {s t : State} (roster : t.cust.roster = s.cust.roster) (case : ∀ i, (t.bay i).case = (s.bay i).case) :
    t.docket = s.docket := by
  unfold State.docket
  rw [roster, funext case]

theorem case_of_docket {s t : State} (h : t.docket = s.docket) (i : BayIx) : (t.bay i).case = (s.bay i).case :=
  congrFun (congrArg Docket.case h) i

theorem docket_of_core {s t : State} (cust : t.cust = s.cust) (core : ∀ i, (t.bay i).core = (s.bay i).core) :
    t.docket = s.docket :=
  docket_of (congrArg CustodyUnit.roster cust) fun i =>
    congrArg (a₁ := (t.bay i).core) (a₂ := (s.bay i).core) Bay.case (core i)

theorem docket_of_aside {s t : State} (h : t.aside = s.aside) : t.docket = s.docket :=
  docket_of_core (cust_of_aside h) (core_of_aside h)

theorem docket_of_still {s t : State} (h : t.still = s.still) : t.docket = s.docket :=
  docket_of_core (cust_of_still h) (core_of_still h)

theorem docket_of_shared {s t : State} (h : s.Shared t) : t.docket = s.docket := by
  obtain ⟨sess, round, bays, e, share⟩ := h
  refine docket_of (by rw [e]) fun i => ?_
  obtain ⟨n, en⟩ := share i
  rw [en]
  rfl

theorem docket_modBay (s : State) (i : BayIx) (f : Bay → Bay) :
    (s.modBay i f).docket = s.docket.put i (f (s.bay i)).case := by
  have case : (fun j => ((s.modBay i f).bay j).case) = Function.update s.docket.case i (f (s.bay i)).case := by
    funext j
    rw [bay_modBay]
    by_cases e : j = i
    · subst e; simp
    · simp [e, State.docket]
  show Docket.mk .. = Docket.mk ..
  rw [case]
  rfl

theorem docket_modBay_same (s : State) (i : BayIx) (f : Bay → Bay) (h : (f (s.bay i)).case = (s.bay i).case) :
    (s.modBay i f).docket = s.docket := by
  rw [docket_modBay, h]
  exact put_self s.docket i

@[simp] theorem docket_raise (s : State) (k : NoticeKind) (bay : Option BayIx) (asset : Option AssetId)
    (session : Option Nat) (value : Option Nat) (reason : Option Reason) :
    (s.raise k bay asset session value reason).docket = s.docket := by
  obtain ⟨n, e, -⟩ := raise_spec s k bay asset session value reason
  rw [e]; rfl

@[simp] theorem docket_place (s : State) (t : Txn) : (s.place t).docket = s.docket := docket_of_aside (aside_place s t)
@[simp] theorem docket_dispatch (s : State) : s.dispatch.docket = s.docket := docket_of_shared (shared_dispatch s)

/-! ### A pulse asked for -/

/-- A pulse is queued for the bay in this direction, or one is in flight. -/
def State.Wants (s : State) (i : BayIx) (d : Dir) : Prop := (i, d) ∈ s.arb.queue ∨ s.pulseInFlight i = true

theorem wants_of_arb {s t : State} (h : t.arb = s.arb) {i : BayIx} {d : Dir} (asks : s.Wants i d) : t.Wants i d := by
  unfold State.Wants at *
  rw [pulseInFlight_iff] at *
  rw [h]
  exact asks

theorem holds_isSome {p : Option Pulse} {i : BayIx} : (holds p i).isSome = true ↔ ∃ q, p = some q ∧ q.bay = i := by
  cases p with
  | none => simp [holds]
  | some q => by_cases e : q.bay = i <;> simp [holds, e]

theorem pulseInFlight_slot {s : State} {i : BayIx} : s.pulseInFlight i = true ↔ ∃ k p, s.slot k = some p ∧ p.bay = i := by
  rw [pulseInFlight_iff, Bool.or_eq_true, holds_isSome, holds_isSome]
  constructor
  · rintro (⟨p, h⟩ | ⟨p, h⟩)
    · exact ⟨.a, p, h⟩
    · exact ⟨.b, p, h⟩
  · rintro ⟨k, p, h⟩
    cases k with
    | a => exact .inl ⟨p, h⟩
    | b => exact .inr ⟨p, h⟩

/-- A slot granted to the bay's entry holds its pulse (R100). -/
theorem wants_grantSlot {s : State} {i : BayIx} {d : Dir} (asks : s.Wants i d) : s.grantSlot.Wants i d := by
  unfold State.grantSlot
  split
  case isFalse => exact asks
  case isTrue room =>
    split
    case h_1 => exact asks
    case h_2 e found =>
      have free := granted_free room
      dsimp only
      generalize (if s.arb.slotA.isNone then PulseSlot.a else .b) = k at free ⊢
      unfold State.Wants at *
      rw [queue_startAttempt]
      rw [pulseInFlight_slot] at *
      by_cases own : e.1 = i
      · exact .inr ⟨k, _, by rw [slot_startAttempt, if_pos rfl], own⟩
      · obtain queued | ⟨j, p, here, bay⟩ := asks
        · exact .inl (List.mem_filter.2 ⟨queued, decide_eq_true fun h => own h.symm⟩)
        · refine .inr ⟨j, p, ?_, bay⟩
          rw [slot_startAttempt, if_neg]
          · exact here
          · rintro rfl
            rw [free] at here
            cases here

theorem wants_grantSlots {s : State} {i : BayIx} {d : Dir} (asks : s.Wants i d) : s.grantSlots.Wants i d :=
  wants_grantSlot (wants_grantSlot asks)

/-! ### Sessions dispatched -/

/-- Sessions are dispatched and no more: their identifiers stand, and those that run are left as they are. -/
def Sessions.Dispatched (x y : Sessions) : Prop :=
  y.queue.map (·.id) = x.queue.map (·.id) ∧
    ((x.queue.map (·.id)).Nodup → ∀ z ∈ x.queue, z.state ≠ .queued → z ∈ y.queue)

theorem Sessions.Dispatched.refl (x : Sessions) : x.Dispatched x := ⟨rfl, fun _ _ h _ => h⟩

theorem Sessions.Dispatched.trans {x y z : Sessions} (h : x.Dispatched y) (k : y.Dispatched z) : x.Dispatched z := by
  obtain ⟨ids, busy⟩ := h
  obtain ⟨ids', busy'⟩ := k
  exact ⟨ids'.trans ids, fun once w mem st => busy' (by rw [ids]; exact once) w (busy once w mem st) st⟩

theorem dispatched_dispatchTo (s : State) (c : ChanIx) {x : Session} (mem : x ∈ s.sess.queue) (queued : x.state = .queued) :
    s.sess.Dispatched (s.dispatchTo c x).sess := by
  unfold State.dispatchTo
  dsimp only
  rw [refreshShare_sess]
  constructor
  · refine (List.map_map ..).trans (List.map_congr_left ?_)
    intro y _
    dsimp only [Function.comp]
    split <;> rfl
  · intro once z here running
    refine List.mem_map.2 ⟨z, here, if_neg fun same => ?_⟩
    have : z = x := List.inj_on_of_nodup_map once here mem same
    exact running (this ▸ queued)

theorem dispatched_dispatch (s : State) : s.sess.Dispatched s.dispatch.sess := by
  have one : ∀ (u : State) c, u.sess.Dispatched (u.dispatchChan c).sess := fun u c => by
    unfold State.dispatchChan
    split
    · split
      · next x found =>
        have st := List.find?_some found
        simp only [Bool.and_eq_true, decide_eq_true_eq] at st
        exact dispatched_dispatchTo u c (List.mem_of_find?_eq_some found) st.1.1
      · exact .refl _
    · exact .refl _
  have all : ∀ (l : List ChanIx) (u : State), u.sess.Dispatched (l.foldl State.dispatchChan u).sess := by
    intro l
    induction l with
    | nil => exact fun u => .refl _
    | cons c l ih => exact fun u => (one u c).trans (ih _)
  exact all _ s

theorem session?_none {s : State} {id : Nat} : s.session? id = none ↔ id ∉ s.sess.queue.map (·.id) := by
  unfold State.session?
  simp [List.find?_eq_none]

/-! ### What follows a decision in its event -/

/-- What the rest of the event leaves of a decision, with at most so many notices more. -/
structure State.Follows (k : Nat) (s t : State) : Prop where
  kept : t.kept = s.kept
  docket : t.docket = s.docket
  asks : ∀ i d, s.Wants i d → t.Wants i d
  grown : s.notices.Grown k t.notices
  sess : s.sess.Dispatched t.sess

section
variable {k : Nat} {s t u : State}

theorem State.Follows.refl (k : Nat) (s : State) : s.Follows k s := ⟨rfl, rfl, fun _ _ h => h, .refl _ _, .refl _⟩

theorem State.Follows.trans {j : Nat} (h : s.Follows j t) (h' : t.Follows k u) : s.Follows (j + k) u :=
  ⟨h'.kept.trans h.kept, h'.docket.trans h.docket, fun i d a => h'.asks i d (h.asks i d a), h.grown.trans h'.grown,
    h.sess.trans h'.sess⟩

theorem State.Follows.of_aside (h : t.aside = s.aside) (kept : t.kept = s.kept) : s.Follows 0 t where
  kept := kept
  docket := docket_of_aside h
  asks _ _ a := wants_of_arb (arb_of_aside h) a
  grown := by rw [notices_of_aside h]; exact .refl _ _
  sess := by rw [sess_of_aside h]; exact .refl _

theorem follows_dispatch (s : State) : s.Follows 0 s.dispatch := by
  have shared := shared_dispatch s
  have sess := dispatched_dispatch s
  have kept := kept_dispatch s
  have docket := docket_of_shared shared
  generalize s.dispatch = t at *
  obtain ⟨x, round, bays, e, -⟩ := shared
  exact ⟨kept, docket, fun _ _ a => wants_of_arb (by rw [e]) a, by rw [e]; exact .refl _ _, sess⟩

theorem follows_refreshShare (s : State) (i : BayIx) : s.Follows 0 (s.refreshShare i) := by
  have shared := shared_refreshShare s i
  have sess := refreshShare_sess s i
  have kept := kept_refreshShare s i
  have docket := docket_of_shared shared
  generalize s.refreshShare i = t at *
  obtain ⟨x, round, bays, e, -⟩ := shared
  exact ⟨kept, docket, fun _ _ a => wants_of_arb (by rw [e]) a, by rw [e]; exact .refl _ _, by rw [sess]; exact .refl _⟩

theorem follows_raise (s : State) (n : NoticeKind) (bay : Option BayIx) (asset : Option AssetId)
    (session : Option Nat) (value : Option Nat) (reason : Option Reason) :
    s.Follows 1 (s.raise n bay asset session value reason) := by
  have kept := kept_raise s n bay asset session value reason
  obtain ⟨m, e, grown⟩ := raise_spec s n bay asset session value reason
  rw [e] at kept ⊢
  exact ⟨kept, rfl, fun _ _ a => a, grown, .refl _⟩

theorem follows_modBay (s : State) (i : BayIx) (f : Bay → Bay) (h : (f (s.bay i)).case = (s.bay i).case) :
    s.Follows 0 (s.modBay i f) :=
  ⟨kept_modBay s i f, docket_modBay_same s i f h, fun _ _ a => a, .refl _ _, .refl _⟩

end

end Sys2Proof.Machine


/-! Reconciliation (O34): the charge part of the report, the lamp, the scanner, and the end of the event. -/

namespace Sys2Proof.Machine

section
variable {j k : Nat} {s t u : State}

theorem Notices.Grown.mono {n m : Notices} (h : n.Grown j m) (le : j ≤ k) : n.Grown k m := fun room => by
  obtain ⟨l, short, e⟩ := h (by omega)
  exact ⟨l, by omega, e⟩

theorem State.Follows.mono (h : s.Follows j t) (le : j ≤ k) : s.Follows k t :=
  ⟨h.kept, h.docket, h.asks, h.grown.mono le, h.sess⟩

theorem State.Follows.ite {p : Prop} [Decidable p] (yes : s.Follows k t) (no : s.Follows k u) :
    s.Follows k (if p then t else u) := by
  split
  · exact yes
  · exact no

/-- An update of what a decision's event leaves. -/
theorem State.Follows.of_eq (kept : t.kept = s.kept) (docket : t.docket = s.docket) (arb : t.arb = s.arb)
    (notices : t.notices = s.notices) (sess : t.sess = s.sess) : s.Follows 0 t :=
  ⟨kept, docket, fun _ _ a => wants_of_arb arb a, by rw [notices]; exact .refl _ _, by rw [sess]; exact .refl _⟩
end

/-! ### The charge part of a report (R24, R44 to R46) -/

theorem follows_leaveReady (s : State) (i : BayIx) (why : Option Reason) : s.Follows 1 (s.leaveReady i why) := by
  unfold State.leaveReady
  refine .ite ?_ (.refl _ _)
  dsimp only
  have left : s.Follows 0 { s with cust := { s.cust with readySet := s.cust.readySet.filter (· ≠ i) } } :=
    .of_eq rfl rfl rfl rfl rfl
  generalize { s with cust := { s.cust with readySet := s.cust.readySet.filter (· ≠ i) } } = u at left ⊢
  cases why with
  | none => exact (left.trans (follows_refreshShare u i)).mono (by omega)
  | some r => exact (left.trans ((follows_raise u ..).trans (follows_refreshShare _ i))).mono (by omega)

theorem follows_setGrants (s : State) (i : BayIx) (a c : Nat) : s.Follows 0 (s.setGrants i a c) := by
  unfold State.setGrants
  have set := follows_modBay s i (fun b => { b with applied := a, commanded := c }) rfl
  refine .ite (.refl _ _) ?_
  dsimp only
  generalize s.modBay i _ = u at set ⊢
  have stamped : u.Follows 0 { u with round := { s.round with lastGrantChange := s.now } } := .of_eq rfl rfl rfl rfl rfl
  exact set.trans stamped

theorem follows_faultGrant (s : State) (i : BayIx) : s.Follows 0 (s.faultGrant i) :=
  .of_aside (aside_faultGrant s i) (kept_faultGrant s i)

theorem follows_takeOverdraw (s : State) (i : BayIx) (why : Reason) : s.Follows 2 (s.takeOverdraw i why) := by
  unfold State.takeOverdraw
  dsimp only
  have marked := follows_modBay s i (fun b => { b with overdraw := true, overdrawCount := 0 }) rfl
  exact marked.trans ((follows_faultGrant ..).trans ((follows_raise ..).trans (follows_leaveReady ..)))

theorem follows_testOverdraw (s : State) (i : BayIx) : s.Follows 2 (s.testOverdraw i) := by
  unfold State.testOverdraw
  dsimp only
  refine .ite (.refl _ _) (.ite (.ite (follows_takeOverdraw ..) ?_) ?_)
  · exact (follows_modBay s i (fun b => { b with overdrawCount := b.overdrawCount + 1 }) rfl).mono (by omega)
  · exact (follows_modBay s i (fun b => { b with overdrawCount := 0 }) rfl).mono (by omega)

theorem follows_testShort (s : State) (i : BayIx) : s.Follows 2 (s.testShort i) :=
  .ite (follows_takeOverdraw ..) (.refl _ _)

theorem follows_takeHot (s : State) (i : BayIx) : s.Follows 2 (s.takeHot i) := by
  unfold State.takeHot
  dsimp only
  have marked := follows_modBay s i (fun b => { b with hot := true }) rfl
  exact marked.trans ((follows_faultGrant ..).trans ((follows_raise ..).trans (follows_leaveReady ..)))

theorem follows_testHot (s : State) (i : BayIx) : s.Follows 2 (s.testHot i) := by
  unfold State.testHot
  dsimp only
  have timed := follows_modBay s i (fun b => { b with hotTime := some s.retained.seconds }) rfl
  have cooled := follows_modBay s i (fun b => { b with hot := false }) rfl
  refine .ite (.ite (timed.mono (by omega)) (timed.trans (follows_takeHot ..))) (.ite ?_ (.refl _ _))
  have pending : ∀ u : State, u.Follows 0 u.markPending := fun u => .of_eq rfl rfl rfl rfl rfl
  exact (cooled.trans (pending _)).mono (by omega)

theorem follows_storeCharge (s : State) (i : BayIx) (k : Block) : s.Follows 0 (s.storeCharge i k) := by
  unfold State.storeCharge
  exact (follows_setGrants ..).trans (follows_modBay _ i (fun b =>
    { b with
      resync := false
      soc := k.soc
      pneg := pnegTaken k.pneg
      measured := min k.measured 60
      overTemp := k.overTemp
      short := k.short }) rfl)

theorem follows_applyCharge (s : State) (i : BayIx) (k : Block) : s.Follows 6 (s.applyCharge i k) := by
  unfold State.applyCharge
  dsimp only
  have tested := (follows_storeCharge s i k).trans ((follows_testOverdraw _ i).trans ((follows_testShort _ i).trans
    (follows_testHot _ i)))
  have shared := tested.trans (follows_refreshShare _ i)
  exact .ite (shared.trans (follows_dispatch _)) shared

/-! ### The lamp and the scanner -/

theorem follows_compareLamp (s : State) (i : BayIx) : s.Follows 0 (s.compareLamp i) :=
  .of_aside (aside_compareLamp s i) (kept_compareLamp s i)

theorem follows_scanTold (s : State) : s.Follows 0 s.scanTold := .of_eq rfl rfl rfl rfl rfl

/-! ### The end of the event (R165) -/

theorem autoCheck_none {s : State} (h : ∀ j, (s.bay j).link ≠ .lost) : s.autoCheck = s := by
  have never : allBays.any s.lostLong = false :=
    List.any_eq_false.2 fun j _ => by simp [State.lostLong, h j]
  exact if_neg (by simp [State.autoDue, never])

theorem follows_leaveTransit (s : State) : s.Follows 1 s.leaveTransit := by
  have ended : s.Follows 1
      (State.raise { s with power := { s.power with state := .serving } } .transitLeft).recomputePool := by
    have serving : s.Follows 0 { s with power := { s.power with state := .serving } } := .of_eq rfl rfl rfl rfl rfl
    exact serving.trans ((follows_raise ..).trans (.of_aside (aside_recomputePool _) (kept_recomputePool _)))
  unfold State.leaveTransit
  split
  · exact ended
  · exact ended
  · exact .refl _ _
  · exact .refl _ _

/-- The state as reconciliation ends, before the power state, the lamps and the rebuild (R165). -/
def State.released (s : State) : State :=
  { s with
    cust := { s.cust with reconActive := false }
    arb := { s.arb with held := false }
    round := { s.round with suspended := false, pending := true } }

theorem follows_released (s : State) : s.Follows 0 s.released := by
  refine ⟨rfl, rfl, fun i d a => ?_, .refl _ _, .refl _⟩
  unfold State.Wants at *
  rw [pulseInFlight_iff] at *
  exact a

theorem follows_compareLamps (s : State) : s.Follows 0 (allBays.foldl State.compareLamp s) :=
  .of_aside (aside_foldl _ _ _ aside_compareLamp) (kept_foldl _ _ _ kept_compareLamp)

theorem links_of_follows {k : Nat} {s t : State} (h : s.Follows k t) (j : BayIx) : (t.bay j).link = (s.bay j).link :=
  congrArg Case.link (case_of_docket h.docket j)

theorem power_leaveTransit (s : State) :
    (s.cust.reconCause = .host ∨ s.cust.reconCause = .auto → s.leaveTransit.power = s.power) ∧
    (s.cust.reconCause = .start ∨ s.cust.reconCause = .settle →
      s.leaveTransit.power = { s.power with state := .serving }) ∧
    s.leaveTransit.power.drain = s.power.drain := by
  have served : (State.raise { s with power := { s.power with state := .serving } } .transitLeft).recomputePool.power =
      { s.power with state := .serving } :=
    (power_of_aside (aside_recomputePool _)).trans (congrArg Ground.power (ground_raise ..))
  unfold State.leaveTransit
  cases s.cust.reconCause with
  | start | settle => exact ⟨fun h => by simp at h, fun _ => served, by rw [served]⟩
  | host | auto => exact ⟨fun _ => rfl, fun h => by simp at h, rfl⟩

theorem power_lampsCompared (s : State) : (allBays.foldl State.compareLamp s.dispatch).power = s.power := by
  have ground := ground_dispatch s
  generalize s.dispatch = u at ground ⊢
  have aside : (allBays.foldl State.compareLamp u).aside = u.aside := aside_foldl _ _ _ aside_compareLamp
  rw [power_of_aside aside]
  exact congrArg Ground.power ground

/-- With no link Lost no rebuild follows, and the end of reconciliation leaves the decisions (R152, R165). -/
theorem endRecon_eq {s : State} (back : ∀ j, (s.bay j).link ≠ .lost) :
    s.endRecon = allBays.foldl State.compareLamp s.released.leaveTransit.dispatch := by
  have follows := (follows_released s).trans ((follows_leaveTransit _).trans
    ((follows_dispatch _).trans (follows_compareLamps _)))
  have parts : s.endRecon = (allBays.foldl State.compareLamp s.released.leaveTransit.dispatch).autoCheck := rfl
  rw [parts]
  exact autoCheck_none fun j => by rw [links_of_follows follows]; exact back j

theorem follows_endRecon {s : State} (back : ∀ j, (s.bay j).link ≠ .lost) : s.Follows 1 s.endRecon := by
  rw [endRecon_eq back]
  exact (follows_released s).trans ((follows_leaveTransit _).trans
    ((follows_dispatch _).trans (follows_compareLamps _)))

/-- The part of an event's end after reconciliation, with no drain in progress. -/
theorem follows_tail {s : State} (drain : s.power.drain = none) :
    s.Follows 0 s.grantSlots.drainCheck.roundOn.judgeEligible.deriveLamps.lines := by
  have still := still_grantSlots s
  have wants := fun i d => wants_grantSlots (s := s) (i := i) (d := d)
  have kept := kept_grantSlots s
  generalize s.grantSlots = u at still wants kept ⊢
  have idle : u.drainCheck = u := if_neg (by rw [power_of_still still, drain]; simp)
  rw [idle]
  have granted : s.Follows 0 u :=
    ⟨kept, docket_of_still still, wants,
      fun _ => ⟨[], by simp, (congrArg Still.queue still).trans (List.append_nil _).symm⟩,
      by rw [show u.sess = s.sess from congrArg Still.sess still]; exact .refl _⟩
  have aside : u.Follows 0 u.roundOn.judgeEligible.deriveLamps := .of_aside (by simp) (by simp)
  generalize u.roundOn.judgeEligible.deriveLamps = v at aside ⊢
  have lined : v.Follows 0 v.lines :=
    ⟨kept_lines v, rfl, fun _ _ a => a, fun _ => ⟨[], by simp, (List.append_nil _).symm⟩, .refl _⟩
  exact granted.trans (aside.trans lined)

/-- Reconciliation does not end in the event: none is in progress, or a bay is pending. -/
def State.GoesOn (s : State) : Prop := s.cust.reconActive = false ∨ ∃ j, (s.bay j).isPending = true

theorem reconCheck_goesOn {s : State} (h : s.GoesOn) : s.reconCheck = s := by
  refine if_neg fun e => ?_
  simp only [Bool.and_eq_true, List.all_eq_true] at e
  obtain ⟨active, decided⟩ := e
  obtain idle | ⟨j, pending⟩ := h
  · rw [idle] at active
    cases active
  · have := decided j (mem_allBays j)
    rw [pending] at this
    cases this

/-- The end of an event, with no drain in progress and no automatic rebuild to follow reconciliation. -/
theorem follows_settle {s : State} (drain : s.power.drain = none) (quiet : s.GoesOn ∨ ∀ j, (s.bay j).link ≠ .lost) :
    s.Follows 1 s.settle := by
  have checked : s.Follows 1 s.reconCheck ∧ s.reconCheck.power.drain = none := by
    by_cases on : s.GoesOn
    · rw [reconCheck_goesOn on]
      exact ⟨(State.Follows.refl 0 s).mono (by omega), drain⟩
    · have back := quiet.resolve_left on
      unfold State.reconCheck
      split
      · refine ⟨follows_endRecon back, ?_⟩
        rw [endRecon_eq back, power_lampsCompared]
        obtain ⟨-, -, same⟩ := power_leaveTransit s.released
        exact same.trans drain
      · exact ⟨(State.Follows.refl 0 s).mono (by omega), drain⟩
  obtain ⟨follows, drain⟩ := checked
  unfold State.settle
  generalize s.reconCheck = u at follows drain ⊢
  exact follows.trans (follows_tail drain)

end Sys2Proof.Machine


/-! Reconciliation (O34): the placements of the Custody Unit that still wait at the end of an event, and its lamps. -/

namespace Sys2Proof.Machine

/-! ### What waits keeps waiting (R142) -/

theorem replaceIn_keeps {t y : Txn} (h : ∀ z, t.replaces? y = some z → z = y) : ∀ {l l' : List Txn},
    replaceIn t l = some l' → y ∈ l → y ∈ l'
  | [], _, e, _ => by simp [replaceIn] at e
  | x :: l, l', e, mem => by
    unfold replaceIn at e
    split at e
    · next x' r =>
      cases e
      rcases List.mem_cons.1 mem with rfl | mem
      · exact h _ r ▸ List.mem_cons_self
      · exact List.mem_cons_of_mem _ mem
    · obtain ⟨m, em, rfl⟩ := Option.map_eq_some_iff.1 e
      rcases List.mem_cons.1 mem with rfl | mem
      · exact List.mem_cons_self
      · exact List.mem_cons_of_mem _ (replaceIn_keeps h em mem)

theorem replaceIn_self {t : Txn} (no : t.client ≠ .allocator) : ∀ {l l' : List Txn},
    replaceIn t l = some l' → t ∈ l'
  | [], _, e => by simp [replaceIn] at e
  | x :: l, l', e => by
    unfold replaceIn at e
    split at e
    · next x' r =>
      cases e
      exact replaces_of_no_grant no r ▸ List.mem_cons_self
    · obtain ⟨m, em, rfl⟩ := Option.map_eq_some_iff.1 e
      exact List.mem_cons_of_mem _ (replaceIn_self no em)

theorem mem_put_of_mem {l : Loop} {t y : Txn} (h : ∀ z, t.replaces? y = some z → z = y) (mem : y ∈ l.unsent) :
    y ∈ (l.put t).unsent := by
  unfold Loop.put
  split
  · next e =>
    have := replaceIn_keeps h e
    simp only [Loop.unsent, List.mem_append] at mem ⊢
    tauto
  · next e =>
    have := replaceIn_keeps h e
    simp only [Loop.unsent, List.mem_append] at mem ⊢
    tauto
  · next e =>
    have := replaceIn_keeps h e
    simp only [Loop.unsent, List.mem_append] at mem ⊢
    tauto
  · exact (mem_append_unsent l t y).2 (.inr mem)

/-- What is placed waits, a GRANT but for what it replaces. -/
theorem mem_put_self (l : Loop) {t : Txn} (no : t.client ≠ .allocator) : t ∈ (l.put t).unsent := by
  unfold Loop.put
  split
  · next e =>
    have := replaceIn_self no e
    simp only [Loop.unsent, List.mem_append]
    tauto
  · next e =>
    have := replaceIn_self no e
    simp only [Loop.unsent, List.mem_append]
    tauto
  · next e =>
    have := replaceIn_self no e
    simp only [Loop.unsent, List.mem_append]
    tauto
  · exact (mem_append_unsent l t t).2 (.inl rfl)

theorem mem_place_self (s : State) {t : Txn} (no : t.client ≠ .allocator) : t ∈ (s.place t).loop.unsent :=
  mem_put_self s.loop no

/-- The Custody Unit's placements that wait go on waiting. -/
structure State.Keeps (s t : State) : Prop where
  mem : ∀ y ∈ s.loop.unsent, y.client = .custody → y ∈ t.loop.unsent

section
variable {s t u : State}

theorem State.Keeps.refl (s : State) : s.Keeps s := ⟨fun _ h _ => h⟩

theorem State.Keeps.trans (h : s.Keeps t) (k : t.Keeps u) : s.Keeps u :=
  ⟨fun y m c => k.mem y (h.mem y m c) c⟩

theorem State.Keeps.of_loop (h : t.loop.unsent = s.loop.unsent) : s.Keeps t := ⟨fun _ m _ => h ▸ m⟩

/-- The round is no part of the loop. -/
theorem State.Keeps.round (h : s.Keeps t) (r : Round) : s.Keeps { t with round := r } := ⟨h.mem⟩

theorem State.Keeps.ite {p : Prop} [Decidable p] (yes : s.Keeps t) (no : s.Keeps u) : s.Keeps (if p then t else u) := by
  split
  · exact yes
  · exact no

theorem State.Keeps.foldl {α : Type} (f : State → α → State) (h : ∀ (s : State) a, s.Keeps (f s a)) (l : List α) (s : State) :
    s.Keeps (l.foldl f s) := by
  induction l generalizing s with
  | nil => exact .refl s
  | cons a l ih => exact (h s a).trans (ih _)

/-- A placement of another client replaces none of the Custody Unit's. -/
theorem replaces_of_other {t y : Txn} (own : y.client = .custody) (other : t.client ≠ .custody) : t.replaces? y = none := by
  cases t with
  | lamp i c => exact absurd rfl other
  | grant k i w => cases y <;> first | rfl | cases own
  | _ => cases y <;> rfl

theorem keeps_place (s : State) {t : Txn} (other : t.client ≠ .custody) : s.Keeps (s.place t) :=
  ⟨fun _ m c => mem_put_of_mem (fun _ r => by rw [replaces_of_other c other] at r; cases r) m⟩

theorem keeps_setGrants (s : State) (i : BayIx) (a c : Nat) : s.Keeps (s.setGrants i a c) :=
  .of_loop (by rw [setGrants_loop])

theorem isGrantFor_custody {y : Txn} (c : y.client = .custody) (i : BayIx) : y.isGrantFor i = false := by
  cases y <;> first | rfl | cases c

theorem keeps_withdrawGrant (s : State) (i : BayIx) : s.Keeps (s.withdrawGrant i) :=
  ⟨fun y m c => (mem_withdrawGrant s i y).2 ⟨m, isGrantFor_custody c i⟩⟩

theorem keeps_issueGrant (s : State) (k : GrantKind) (i : BayIx) (w : Nat) : s.Keeps (s.issueGrant k i w) := by
  unfold State.issueGrant
  dsimp only
  refine State.Keeps.trans ?_ (keeps_place _ (by simp [Txn.client]))
  refine ⟨fun y m c => (mem_drop_unsent _ _ y).2 ⟨?_, by simp [isGrantFor_custody c]⟩⟩
  exact (keeps_setGrants s i _ w).mem y m c

theorem keeps_faultGrant (s : State) (i : BayIx) : s.Keeps (s.faultGrant i) := by
  unfold State.faultGrant
  refine .ite ?_ (.refl _)
  dsimp only
  split
  · have withdrawn := (keeps_withdrawGrant s i).round
      { (s.withdrawGrant i).round with raising := (s.withdrawGrant i).round.raising.filter (· ≠ i) }
    generalize State.mk .. = u at withdrawn ⊢
    exact .ite withdrawn (withdrawn.trans (keeps_issueGrant u _ _ _))
  · exact .ite (.refl s) (keeps_issueGrant s _ _ _)

theorem keeps_raiseBay (u : State) (i : BayIx) : u.Keeps (u.raiseBay i) := by
  unfold State.raiseBay
  dsimp only
  exact .ite (.of_loop rfl) (.ite (.of_loop rfl) (.ite (.of_loop rfl) ((keeps_issueGrant u _ _ _).round _)))

theorem keeps_roundOn (s : State) : s.Keeps s.roundOn := by
  have begun : s.Keeps s.beginRaising := by
    unfold State.beginRaising
    exact ((State.Keeps.refl s).round _).trans (State.Keeps.foldl _ keeps_raiseBay _ _)
  have first : s.Keeps (if s.round.state = .lowering ∧ s.round.lowering = [] then
      if s.round.cut then s.endRound else s.beginRaising else s) :=
    .ite (.ite ((State.Keeps.refl s).round _) begun) (.refl s)
  unfold State.roundOn
  dsimp only
  generalize (if s.round.state = .lowering ∧ s.round.lowering = [] then
      if s.round.cut then s.endRound else s.beginRaising else s) = u at first ⊢
  exact .ite (first.round _) first

theorem keeps_judgeEligible (s : State) : s.Keeps s.judgeEligible := by
  unfold State.judgeEligible
  dsimp only
  have marked : s.Keeps (s.modBays fun _ b => { b with eligible := eligibleNow b }) := .of_loop (by rw [modBays_loop])
  generalize s.modBays _ = u at marked ⊢
  exact .ite (marked.round _) marked

theorem keeps_grantSlots (s : State) : s.Keeps s.grantSlots := by
  have one : ∀ u : State, u.Keeps u.grantSlot := fun u => by
    unfold State.grantSlot
    refine .ite ?_ (.refl u)
    split
    · exact .refl u
    · next e _ =>
      dsimp only
      unfold State.startAttempt
      refine State.Keeps.trans (.of_loop ?_) (keeps_place _ (by simp [Txn.client]))
      cases (if u.arb.slotA.isNone then PulseSlot.a else .b) <;> rfl
  exact (one s).trans (one _)

theorem keeps_shared (h : s.Shared t) : s.Keeps t := by
  obtain ⟨sess, round, bays, e, -⟩ := h
  exact .of_loop (by rw [e])

theorem keeps_leaveReady (s : State) (i : BayIx) (why : Option Reason) : s.Keeps (s.leaveReady i why) := by
  obtain ⟨loop, -⟩ := leaveReady_rest s i why
  exact .of_loop (by rw [loop])

theorem keeps_raise (s : State) (n : NoticeKind) (bay : Option BayIx) (asset : Option AssetId)
    (session : Option Nat) (value : Option Nat) (reason : Option Reason) :
    s.Keeps (s.raise n bay asset session value reason) := by
  obtain ⟨m, e, -⟩ := raise_spec s n bay asset session value reason
  rw [e]
  exact .of_loop rfl
end

end Sys2Proof.Machine


/-! Reconciliation (O34): the lamps at the end of an event (R75, R76). -/

namespace Sys2Proof.Machine

/-- The colour of a bay, with the SoC from which it is ready. -/
def colourOf (ready : Nat) (b : Bay) : Colour :=
  if b.displayDue.isSome then .redBlinking
  else if b.overdraw || b.hot then .red
  else match b.custody with
    | .held _ | .jammed _ _ => .red
    | .released => .greenBlinking
    | .vacant | .clearing => .off
    | .seating | .securing | .locked | .releasing =>
      match b.soc with
      | some q => if ready ≤ q then .green else .amber
      | none => .amber

section
variable {s t u : State}

theorem lampColour_eq (s : State) (i : BayIx) : s.lampColour i = colourOf (s.cfg .readyThreshold) (s.bay i).core := rfl

theorem lampColour_of (settings : t.settings = s.settings) (core : ∀ j, (t.bay j).core = (s.bay j).core) (i : BayIx) :
    t.lampColour i = s.lampColour i := by
  rw [lampColour_eq, lampColour_eq, core, State.cfg, State.cfg, settings]

/-- The colours stand, and what the Custody Unit has placed goes on waiting, but for a LAMP of another colour. -/
structure State.Shows (s t : State) : Prop where
  colours : ∀ j, t.lampColour j = s.lampColour j
  mem : ∀ y ∈ s.loop.unsent, y.client = .custody → (∀ j c, y = .lamp j c → c = s.lampColour j) → y ∈ t.loop.unsent

theorem State.Shows.refl (s : State) : s.Shows s := ⟨fun _ => rfl, fun _ h _ _ => h⟩

theorem State.Shows.trans (h : s.Shows t) (k : t.Shows u) : s.Shows u where
  colours j := (k.colours j).trans (h.colours j)
  mem y m c lamp := k.mem y (h.mem y m c lamp) c fun j c e => (lamp j c e).trans (h.colours j).symm

theorem State.Shows.foldl {α : Type} (f : State → α → State) (h : ∀ (s : State) a, s.Shows (f s a)) (l : List α) (s : State) :
    s.Shows (l.foldl f s) := by
  induction l generalizing s with
  | nil => exact .refl s
  | cons a l ih => exact (h s a).trans (ih _)

theorem State.Keeps.shows (h : s.Keeps t) (settings : t.settings = s.settings) (core : ∀ j, (t.bay j).core = (s.bay j).core) :
    s.Shows t :=
  ⟨lampColour_of settings core, fun y m c _ => h.mem y m c⟩

theorem State.Keeps.shows_aside (h : s.Keeps t) (aside : t.aside = s.aside) : s.Shows t :=
  h.shows (settings_of_aside aside) (core_of_aside aside)

/-- A LAMP placed in the bay's colour leaves those that wait in theirs. -/
theorem shows_placeLamp (s : State) (i : BayIx) : s.Shows (s.place (.lamp i (s.lampColour i))) where
  colours := lampColour_of (settings_of_aside (aside_place ..)) (core_of_aside (aside_place ..))
  mem y m _ lamp := by
    refine mem_put_of_mem (fun z r => ?_) m
    cases y with
    | lamp j c =>
      simp only [Txn.replaces?] at r
      split at r
      · next same =>
        subst same
        rw [← Option.some.inj r, lamp i c rfl]
      · cases r
    | _ => cases r

theorem shows_compareLamp (s : State) (i : BayIx) : s.Shows (s.compareLamp i) := by
  unfold State.compareLamp
  dsimp only
  split_ifs
  · exact .refl s
  · exact shows_placeLamp s i
  · exact shows_placeLamp s i
  · exact .refl s

/-- A decided bay whose lamp shows Off gets a LAMP of another colour (R76). -/
structure State.Dim (s : State) (i : BayIx) : Prop where
  idle : s.cust.reconActive = false
  decided : (s.bay i).recon = .none
  off : (s.bay i).lampShown = some .off
  linked : (s.bay i).link = .linked
  free : s.loop.onLoop = none

theorem dim_of_aside {i : BayIx} (h : s.Dim i) (aside : t.aside = s.aside) : t.Dim i := by
  have core := core_of_aside aside i
  obtain ⟨idle, decided, off, linked, free⟩ := h
  refine ⟨?_, ?_, ?_, ?_, ?_⟩
  · rw [cust_of_aside aside]; exact idle
  · exact (congrArg (a₁ := (t.bay i).core) (a₂ := (s.bay i).core) Bay.recon core).trans decided
  · exact (congrArg (a₁ := (t.bay i).core) (a₂ := (s.bay i).core) Bay.lampShown core).trans off
  · exact (congrArg (a₁ := (t.bay i).core) (a₂ := (s.bay i).core) Bay.link core).trans linked
  · exact (congrArg (a₁ := t.aside) (a₂ := s.aside) (fun x : State => x.loop.onLoop) aside).trans free

theorem lamp_compared {i : BayIx} (h : s.Dim i) (colour : s.lampColour i ≠ .off) :
    .lamp i (s.lampColour i) ∈ (s.compareLamp i).loop.unsent := by
  obtain ⟨idle, decided, off, linked, free⟩ := h
  have placed := mem_place_self s (t := .lamp i (s.lampColour i)) (by simp [Txn.client])
  unfold State.compareLamp State.lampOnLoop
  dsimp only
  rw [if_neg (by simp [idle, decided]), free, off]
  split
  · exact placed
  · rw [if_pos ⟨by simpa using colour.symm, linked, rfl⟩]
    exact placed

/-- Every decided bay gets its LAMP where all are compared (R165). -/
theorem lamps_compared (l : List BayIx) {s : State} {i : BayIx} (mem : i ∈ l) (h : s.Dim i)
    (colour : s.lampColour i ≠ .off) : .lamp i (s.lampColour i) ∈ (l.foldl State.compareLamp s).loop.unsent := by
  induction l generalizing s with
  | nil => cases mem
  | cons j l ih =>
    have step := shows_compareLamp s j
    have aside := aside_compareLamp s j
    rw [List.foldl_cons]
    by_cases e : j = i
    · subst e
      refine (State.Shows.foldl _ shows_compareLamp l _).mem _ (lamp_compared h colour) rfl fun k c e => ?_
      cases e
      exact (step.colours _).symm
    · have rest := ih (s := s.compareLamp j) ((List.mem_cons.1 mem).resolve_left fun h => e h.symm) (dim_of_aside h aside)
        (by rw [step.colours]; exact colour)
      rw [step.colours] at rest
      exact rest

/-! ### The end of the event -/

theorem shows_deriveLamps (s : State) : s.Shows s.deriveLamps := by
  refine State.Shows.foldl _ (fun u i => ?_) allBays s
  unfold State.deriveLamp
  dsimp only
  split
  · exact .refl u
  · have keeps : u.Keeps (u.modBay i fun b => { b with lampDerived := u.lampColour i }) := .of_loop rfl
    have derived := keeps.shows_aside (aside_modBay u i (fun b => { b with lampDerived := u.lampColour i }) rfl)
    exact derived.trans (shows_compareLamp _ i)

theorem shows_tail {s : State} (drain : s.power.drain = none) :
    s.Shows s.grantSlots.drainCheck.roundOn.judgeEligible.deriveLamps.lines := by
  have still := still_grantSlots s
  have kept := kept_grantSlots s
  have keeps := keeps_grantSlots s
  generalize s.grantSlots = u at still kept keeps ⊢
  have idle : u.drainCheck = u := if_neg (by rw [power_of_still still, drain]; simp)
  rw [idle]
  have granted : s.Shows u := keeps.shows (congrArg Kept.settings kept) (core_of_still still)
  have on : u.Shows u.roundOn := (keeps_roundOn u).shows_aside (aside_roundOn u)
  have judged := (keeps_judgeEligible u.roundOn).shows_aside (aside_judgeEligible u.roundOn)
  have lit := shows_deriveLamps u.roundOn.judgeEligible
  have all := granted.trans (on.trans (judged.trans lit))
  generalize u.roundOn.judgeEligible.deriveLamps = v at all ⊢
  exact all.trans ⟨fun _ => rfl, fun _ m _ _ => m⟩

/-- The end of an event that reconciliation outlasts. -/
theorem shows_settle {s : State} (drain : s.power.drain = none) (on : s.GoesOn) : s.Shows s.settle := by
  unfold State.settle
  rw [reconCheck_goesOn on]
  exact shows_tail drain

end

end Sys2Proof.Machine


/-! Reconciliation (O34): the end of reconciliation (R165). -/

namespace Sys2Proof.Machine

/-! ### The round reopened (R52) -/

/-- Recompute pending stays marked, and the suspension as it is. -/
structure State.Marked (s t : State) : Prop where
  pending : s.round.pending = true → t.round.pending = true
  suspended : t.round.suspended = s.round.suspended

section
variable {s t u : State}

theorem State.Marked.of_round (h : t.round = s.round) : s.Marked t := ⟨fun p => by rw [h]; exact p, by rw [h]⟩

theorem State.Marked.refl (s : State) : s.Marked s := .of_round rfl

theorem State.Marked.trans (h : s.Marked t) (k : t.Marked u) : s.Marked u :=
  ⟨fun p => k.pending (h.pending p), k.suspended.trans h.suspended⟩

theorem State.Marked.ite {p : Prop} [Decidable p] (yes : s.Marked t) (no : s.Marked u) : s.Marked (if p then t else u) := by
  split
  · exact yes
  · exact no

theorem State.Marked.foldl {α : Type} (f : State → α → State) (h : ∀ (s : State) a, s.Marked (f s a)) (l : List α)
    (s : State) : s.Marked (l.foldl f s) := by
  induction l generalizing s with
  | nil => exact .refl s
  | cons a l ih => exact (h s a).trans (ih _)

theorem marked_setGrants (s : State) (i : BayIx) (a c : Nat) : s.Marked (s.setGrants i a c) := by
  unfold State.setGrants
  exact .ite (.refl s) ⟨id, rfl⟩

theorem marked_issueGrant (s : State) (k : GrantKind) (i : BayIx) (w : Nat) : s.Marked (s.issueGrant k i w) := by
  unfold State.issueGrant
  exact (marked_setGrants s i _ w).trans (.of_round rfl)

theorem marked_withdrawGrant (s : State) (i : BayIx) : s.Marked (s.withdrawGrant i) := by
  unfold State.withdrawGrant
  split
  · exact (marked_setGrants s i _ _).trans (.of_round rfl)
  · exact .of_round rfl

theorem marked_cutRound (s : State) : s.Marked s.cutRound := by
  have cut : ∀ (u : State) i, u.Marked (u.cutGrant i) := fun u i => .ite (marked_withdrawGrant u i) (.refl _)
  have all := State.Marked.foldl _ cut allBays s
  unfold State.cutRound
  dsimp only
  generalize allBays.foldl State.cutGrant s = u at all ⊢
  exact .ite ⟨all.pending, all.suspended⟩ (.refl s)

theorem marked_recomputePool (s : State) : s.Marked s.recomputePool := by
  have pooled : s.Marked { s with pool := { s.pool with inForce := s.poolNow } } := .of_round rfl
  unfold State.recomputePool
  dsimp only
  generalize { s with pool := { s.pool with inForce := s.poolNow } } = u at pooled ⊢
  have fallen : s.Marked (if s.poolNow < u.countedSum then u.fallBelow else u) := by
    have marked : u.Marked u.markAtOnce := ⟨fun _ => rfl, rfl⟩
    exact .ite (pooled.trans (marked.trans (marked_cutRound _))) pooled
  generalize (if s.poolNow < u.countedSum then u.fallBelow else u) = v at fallen ⊢
  exact .ite ⟨fun _ => rfl, fallen.suspended⟩ fallen

theorem marked_raiseBay (u : State) (i : BayIx) : u.Marked (u.raiseBay i) := by
  have left : u.Marked u.leaveRaise := ⟨fun _ => rfl, rfl⟩
  have issued := marked_issueGrant u .raise i
  unfold State.raiseBay
  dsimp only
  exact .ite left (.ite left (.ite left ⟨(issued _).pending, (issued _).suspended⟩))

theorem marked_roundOn (s : State) : s.Marked s.roundOn := by
  have begun : s.Marked s.beginRaising := by
    unfold State.beginRaising
    exact State.Marked.trans (t := { s with round := { s.round with state := .raising, toRaise := [] } }) ⟨id, rfl⟩
      (State.Marked.foldl _ marked_raiseBay _ _)
  have ended : ∀ u : State, u.Marked u.endRound := fun u => ⟨fun p => by simp [State.endRound, p], rfl⟩
  have first : s.Marked (if s.round.state = .lowering ∧ s.round.lowering = [] then
      if s.round.cut then s.endRound else s.beginRaising else s) := .ite (.ite (ended s) begun) (.refl s)
  unfold State.roundOn
  dsimp only
  generalize (if s.round.state = .lowering ∧ s.round.lowering = [] then
      if s.round.cut then s.endRound else s.beginRaising else s) = u at first ⊢
  exact .ite (first.trans (ended u)) first

theorem marked_judgeEligible (s : State) : s.Marked s.judgeEligible := by
  obtain ⟨pending, e, marks⟩ := judgeEligible_round s
  exact ⟨fun p => by rw [e]; exact marks p, by rw [e]⟩

theorem marked_compareLamp (s : State) (i : BayIx) : s.Marked (s.compareLamp i) := by
  unfold State.compareLamp
  dsimp only
  exact .ite (.refl s) (.ite (.of_round rfl) (.ite (.of_round rfl) (.refl s)))

theorem marked_deriveLamps (s : State) : s.Marked s.deriveLamps :=
  State.Marked.foldl _ (fun u i => by
    unfold State.deriveLamp
    exact .ite (.refl u) (State.Marked.trans (t := u.modBay i fun b => { b with lampDerived := u.lampColour i }) (.of_round rfl)
      (marked_compareLamp _ i))) allBays s

theorem marked_refreshShare (s : State) (i : BayIx) : s.Marked (s.refreshShare i) := by
  unfold State.refreshShare
  dsimp only
  exact .ite ⟨fun _ => rfl, rfl⟩ (.of_round rfl)

theorem marked_dispatch (s : State) : s.Marked s.dispatch := by
  have one : ∀ (u : State) c, u.Marked (u.dispatchChan c) := fun u c => by
    unfold State.dispatchChan
    refine .ite ?_ (.refl u)
    split
    · unfold State.dispatchTo
      dsimp only
      refine State.Marked.trans ?_ (marked_refreshShare _ _)
      exact .of_round rfl
    · exact .refl u
  exact State.Marked.foldl _ one allChans s

theorem marked_raise (s : State) (n : NoticeKind) (bay : Option BayIx) (asset : Option AssetId)
    (session : Option Nat) (value : Option Nat) (reason : Option Reason) :
    s.Marked (s.raise n bay asset session value reason) := by
  obtain ⟨m, e, -⟩ := raise_spec s n bay asset session value reason
  rw [e]
  exact .of_round rfl

theorem marked_leaveTransit (s : State) : s.Marked s.leaveTransit := by
  have served : s.Marked (State.raise { s with power := { s.power with state := .serving } } .transitLeft).recomputePool :=
    State.Marked.trans (t := { s with power := { s.power with state := .serving } }) (.of_round rfl)
      ((marked_raise ..).trans (marked_recomputePool _))
  unfold State.leaveTransit
  split
  · exact served
  · exact served
  · exact .refl s
  · exact .refl s

/-! ### What the end of reconciliation leaves (R165) -/

/-- After a rebuild of cause Start or Settle the cart serves, with the pool of R6. -/
structure State.LeavesTransit (s t : State) : Prop where
  host : s.cust.reconCause = .host ∨ s.cust.reconCause = .auto → t.power = s.power
  start : s.cust.reconCause = .start ∨ s.cust.reconCause = .settle →
    t.power = { s.power with state := .serving } ∧ t.pool.inForce = t.poolNow

/-- The pool of R6 reads the settings, the inlet, the quiet flag and the power state. -/
theorem poolNow_of (settings : t.settings = s.settings) (inlet : t.inlet = s.inlet) (power : t.power = s.power)
    (quiet : t.pool.quiet = s.pool.quiet) : t.poolNow = s.poolNow := by
  have cfg : t.cfg = s.cfg := funext fun i => by unfold State.cfg; rw [settings]
  unfold State.poolNow State.pder State.pact State.vin
  rw [cfg, inlet, power, quiet]

theorem poolNow_recomputePool (s : State) : s.recomputePool.poolNow = s.poolNow := by
  have aside := aside_recomputePool s
  have quiet := congrArg Kept.quiet (kept_recomputePool s)
  generalize s.recomputePool = t at aside quiet ⊢
  exact poolNow_of (settings_of_aside aside) (inlet_of_aside aside) (power_of_aside aside) quiet

theorem inForce_recomputePool (s : State) : s.recomputePool.pool.inForce = s.recomputePool.poolNow := by
  obtain ⟨-, -, pool⟩ := recomputePool_marks s
  rw [poolNow_recomputePool]
  generalize s.recomputePool = t at pool ⊢
  rw [pool]

theorem leavesTransit_leaveTransit (s : State) : s.LeavesTransit s.leaveTransit := by
  obtain ⟨host, start, -⟩ := power_leaveTransit s
  refine ⟨host, fun cause => ⟨start cause, ?_⟩⟩
  have served := inForce_recomputePool (State.raise { s with power := { s.power with state := .serving } } .transitLeft)
  have parts : s.leaveTransit = (State.raise { s with power := { s.power with state := .serving } } .transitLeft).recomputePool := by
    unfold State.leaveTransit
    rcases cause with e | e <;> rw [e]
  rw [parts]
  exact served

/-- Steps that leave the power state and the pool leave what the end of reconciliation has made of them. -/
theorem State.LeavesTransit.after (h : s.LeavesTransit t) (kept : u.kept = t.kept) (power : u.power = t.power)
    (pool : u.pool.inForce = t.pool.inForce) : s.LeavesTransit u where
  host cause := power.trans (h.host cause)
  start cause := by
    obtain ⟨serving, inForce⟩ := h.start cause
    exact ⟨power.trans serving, pool.trans (inForce.trans (poolNow_of (congrArg Kept.settings kept)
      (congrArg Kept.inlet kept) power (congrArg Kept.quiet kept)).symm)⟩

/-- What the end of reconciliation leaves, and keeps to the end of the event. -/
structure State.Recovers (s t : State) : Prop where
  transit : s.LeavesTransit t
  active : t.cust.reconActive = false
  held : t.arb.held = false
  suspended : t.round.suspended = false
  pending : t.round.pending = true

theorem compareLamps_loop (l : List BayIx) (s : State) : ∃ loop, l.foldl State.compareLamp s = { s with loop := loop } := by
  induction l generalizing s with
  | nil => exact ⟨s.loop, rfl⟩
  | cons i l ih =>
    have one : ∃ loop, s.compareLamp i = { s with loop := loop } := by
      unfold State.compareLamp
      dsimp only
      split_ifs
      · exact ⟨s.loop, rfl⟩
      · exact ⟨_, rfl⟩
      · exact ⟨_, rfl⟩
      · exact ⟨s.loop, rfl⟩
    obtain ⟨loop, e⟩ := one
    obtain ⟨loop', e'⟩ := ih (s.compareLamp i)
    exact ⟨loop', by rw [List.foldl_cons, e', e]⟩

/-- What a step leaves of custody, the arbiter, the transaction on the loop and the bays' own fields. -/
structure State.Blocks (s t : State) : Prop where
  cust : t.cust = s.cust
  arb : t.arb = s.arb
  onLoop : t.loop.onLoop = s.loop.onLoop
  core : ∀ i, (t.bay i).core = (s.bay i).core

theorem State.Blocks.of_aside (h : t.aside = s.aside) : s.Blocks t :=
  ⟨cust_of_aside h, arb_of_aside h, congrArg (a₁ := t.aside) (a₂ := s.aside) (fun x : State => x.loop.onLoop) h,
    fun i => core_of_aside h i⟩

theorem State.Blocks.trans (h : s.Blocks t) (k : t.Blocks u) : s.Blocks u :=
  ⟨k.cust.trans h.cust, k.arb.trans h.arb, k.onLoop.trans h.onLoop, fun i => (k.core i).trans (h.core i)⟩

theorem blocks_served (s : State) (n : NoticeKind) : s.Blocks (s.raise n).recomputePool := by
  have raised : s.Blocks (s.raise n) := by
    obtain ⟨m, e, -⟩ := raise_spec s n none none none none none
    rw [e]
    exact ⟨rfl, rfl, rfl, fun _ => rfl⟩
  exact raised.trans (.of_aside (aside_recomputePool _))

theorem blocks_leaveTransit (s : State) : s.Blocks s.leaveTransit := by
  have power : ∀ p, s.Blocks { s with power := p } := fun p => ⟨rfl, rfl, rfl, fun _ => rfl⟩
  unfold State.leaveTransit
  cases s.cust.reconCause with
  | start => exact (power _).trans (blocks_served _ _)
  | settle => exact (power _).trans (blocks_served _ _)
  | host => exact ⟨rfl, rfl, rfl, fun _ => rfl⟩
  | auto => exact ⟨rfl, rfl, rfl, fun _ => rfl⟩

theorem recovers_endRecon {s : State} (back : ∀ j, (s.bay j).link ≠ .lost) : s.Recovers s.endRecon := by
  rw [endRecon_eq back]
  have transit : s.LeavesTransit s.released.leaveTransit :=
    have h := leavesTransit_leaveTransit s.released
    ⟨h.host, h.start⟩
  obtain ⟨pending, suspended⟩ := marked_leaveTransit s.released
  obtain ⟨cust, arb, -, -⟩ := blocks_leaveTransit s.released
  generalize s.released.leaveTransit = u at *
  have shared := shared_dispatch u
  have kept := kept_dispatch u
  have marked := marked_dispatch u
  generalize u.dispatch = v at *
  obtain ⟨sess, round, bays, e, -⟩ := shared
  obtain ⟨loop, lamps⟩ := compareLamps_loop allBays v
  rw [lamps]
  refine ⟨transit.after kept (by rw [e]) (by rw [e]), ?_, ?_, ?_, ?_⟩
  · rw [e]
    exact congrArg CustodyUnit.reconActive cust
  · rw [e]
    exact congrArg Arbiter.held arb
  · exact marked.suspended.trans suspended
  · exact marked.pending (pending rfl)

theorem recovers_tail {v : State} (drain : s.power.drain = none) (h : v.Recovers s) :
    v.Recovers s.grantSlots.drainCheck.roundOn.judgeEligible.deriveLamps.lines := by
  have still := still_grantSlots s
  have kept := kept_grantSlots s
  have round := round_grantSlots s
  generalize s.grantSlots = u at still kept round ⊢
  have idle : u.drainCheck = u := if_neg (by rw [power_of_still still, drain]; simp)
  rw [idle]
  have marked : u.Marked u.roundOn.judgeEligible.deriveLamps :=
    (marked_roundOn u).trans ((marked_judgeEligible _).trans (marked_deriveLamps _))
  have still' : u.roundOn.judgeEligible.deriveLamps.still = u.still := by simp
  have kept' : u.roundOn.judgeEligible.deriveLamps.kept = u.kept := by simp
  generalize u.roundOn.judgeEligible.deriveLamps = w at *
  have all : w.still = s.still := still'.trans still
  have transit := h.transit.after (kept'.trans kept) (power_of_still all) (congrArg (fun x : Still => x.pool.inForce) all)
  refine ⟨⟨transit.host, transit.start⟩, ?_, ?_, ?_, ?_⟩
  · exact (congrArg (fun x : Still => x.cust.reconActive) all).trans h.active
  · exact (congrArg Still.held all).trans h.held
  · exact marked.suspended.trans (by rw [round]; exact h.suspended)
  · exact marked.pending (by rw [round]; exact h.pending)

theorem reconCheck_ends (active : s.cust.reconActive = true) (decided : ∀ j, (s.bay j).isPending = false) :
    s.reconCheck = s.endRecon :=
  if_pos (by simp [active, decided])

/-- The end of an event with the last bay decided (R165). -/
theorem recovers_settle (drain : s.power.drain = none) (active : s.cust.reconActive = true)
    (decided : ∀ j, (s.bay j).isPending = false) (back : ∀ j, (s.bay j).link ≠ .lost) : s.Recovers s.settle := by
  have ended := recovers_endRecon back
  have still : s.endRecon.power.drain = none := by
    rw [endRecon_eq back, power_lampsCompared]
    obtain ⟨-, -, same⟩ := power_leaveTransit s.released
    exact same.trans drain
  unfold State.settle
  rw [reconCheck_ends active decided]
  exact recovers_tail still ended

/-- Every decided bay gets its LAMP at the end of reconciliation (R165). -/
theorem lamps_settle (drain : s.power.drain = none) (active : s.cust.reconActive = true)
    (decided : ∀ j, (s.bay j).isPending = false) (back : ∀ j, (s.bay j).link ≠ .lost) (free : s.loop.onLoop = none)
    {i : BayIx} (own : (s.bay i).recon = .none) (off : (s.bay i).lampShown = some .off) (linked : (s.bay i).link = .linked)
    (colour : s.settle.lampColour i ≠ .off) : .lamp i (s.settle.lampColour i) ∈ s.settle.loop.unsent := by
  have still : s.endRecon.power.drain = none := by
    rw [endRecon_eq back, power_lampsCompared]
    obtain ⟨-, -, same⟩ := power_leaveTransit s.released
    exact same.trans drain
  have tail := shows_tail still
  have ends : s.settle = s.endRecon.grantSlots.drainCheck.roundOn.judgeEligible.deriveLamps.lines := by
    unfold State.settle
    rw [reconCheck_ends active decided]
  rw [← ends] at tail
  rw [tail.colours] at colour ⊢
  refine tail.mem _ ?_ rfl fun j c e => by cases e; rfl
  rw [endRecon_eq back] at colour ⊢
  obtain ⟨cust, -, onLoop, core⟩ := blocks_leaveTransit s.released
  generalize s.released.leaveTransit = u at *
  have shared := shared_dispatch u
  generalize u.dispatch = v at *
  obtain ⟨sess, round, bays, e, share⟩ := shared
  obtain ⟨n, en⟩ := share i
  have same : (v.bay i).case = (s.bay i).case := by
    rw [en]
    exact congrArg (a₁ := (u.bay i).core) (a₂ := (s.bay i).core) Bay.case (core i)
  have dim : v.Dim i :=
    ⟨by rw [e]; exact congrArg CustodyUnit.reconActive cust, (congrArg Case.recon same).trans own,
      (congrArg Case.lampShown same).trans off, (congrArg Case.link same).trans linked,
      by rw [e]; exact onLoop.trans free⟩
  have lamps := State.Shows.foldl _ shows_compareLamp allBays v
  rw [lamps.colours] at colour ⊢
  exact lamps_compared allBays (mem_allBays i) dim colour

end

end Sys2Proof.Machine


/-! Reconciliation (O34): what a decision leaves, and what it writes of the roster and its own bay's case. -/

namespace Sys2Proof.Machine

section
variable {j k : Nat} {i : BayIx} {s t u : State}

/-! ### The course of reconciliation -/

/-- The power state, the reconciliation and the transaction on the loop. -/
structure Course where
  power : Power
  active : Bool
  case : ReconCase
  cause : RebuildCause
  line : Option Txn

def State.course (s : State) : Course := ⟨s.power, s.cust.reconActive, s.cust.reconCase, s.cust.reconCause, s.line⟩

theorem course_of (ground : t.ground = s.ground) (hold : t.hold = s.hold) : t.course = s.course := by
  have parts : ∀ u : State, u.course =
      ⟨u.ground.power, u.ground.reconActive, u.ground.reconCase, u.ground.reconCause, u.hold.2⟩ := fun _ => rfl
  rw [parts, parts, ground, hold]

theorem power_of_course (h : t.course = s.course) : t.power = s.power := congrArg Course.power h
theorem active_of_course (h : t.course = s.course) : t.cust.reconActive = s.cust.reconActive := congrArg Course.active h
theorem case_of_course (h : t.course = s.course) : t.cust.reconCase = s.cust.reconCase := congrArg Course.case h
theorem cause_of_course (h : t.course = s.course) : t.cust.reconCause = s.cust.reconCause := congrArg Course.cause h
theorem line_of_course (h : t.course = s.course) : t.line = s.line := congrArg Course.line h

theorem onLoop_of_course (h : t.course = s.course) (free : s.loop.onLoop = none) : t.loop.onLoop = none := by
  have line := line_of_course h
  unfold State.line at line
  rw [free] at line
  exact Option.map_eq_none_iff.1 line

@[simp] theorem course_modBay (s : State) (i : BayIx) (f : Bay → Bay) : (s.modBay i f).course = s.course := rfl
@[simp] theorem course_markPending (s : State) : s.markPending.course = s.course := rfl
@[simp] theorem course_setGrants (s : State) (i : BayIx) (a c : Nat) : (s.setGrants i a c).course = s.course := by
  unfold State.setGrants
  split <;> rfl
@[simp] theorem course_raise (s : State) (n : NoticeKind) (bay : Option BayIx) (asset : Option AssetId)
    (session : Option Nat) (value : Option Nat) (reason : Option Reason) :
    (s.raise n bay asset session value reason).course = s.course := course_of (ground_raise ..) (hold_raise ..)
@[simp] theorem course_place (s : State) (t : Txn) : (s.place t).course = s.course := course_of (ground_place s t) (hold_place s t)
@[simp] theorem course_compareLamp (s : State) (i : BayIx) : (s.compareLamp i).course = s.course :=
  course_of (ground_compareLamp s i) (hold_compareLamp s i)
@[simp] theorem course_faultGrant (s : State) (i : BayIx) : (s.faultGrant i).course = s.course :=
  course_of (ground_faultGrant s i) (hold_faultGrant s i)
@[simp] theorem course_leaveReady (s : State) (i : BayIx) (why : Option Reason) : (s.leaveReady i why).course = s.course :=
  course_of (ground_leaveReady s i why) (hold_leaveReady s i why)
@[simp] theorem course_refreshShare (s : State) (i : BayIx) : (s.refreshShare i).course = s.course :=
  course_of (ground_refreshShare s i) (hold_refreshShare s i)
@[simp] theorem course_dispatch (s : State) : s.dispatch.course = s.course := course_of (ground_dispatch s) (hold_dispatch s)

@[simp] theorem course_takeOverdraw (s : State) (i : BayIx) (why : Reason) : (s.takeOverdraw i why).course = s.course := by
  simp [State.takeOverdraw]

@[simp] theorem course_takeHot (s : State) (i : BayIx) : (s.takeHot i).course = s.course := by simp [State.takeHot]

@[simp] theorem course_storeCharge (s : State) (i : BayIx) (b : Block) : (s.storeCharge i b).course = s.course := by
  simp [State.storeCharge]

@[simp] theorem course_testOverdraw (s : State) (i : BayIx) : (s.testOverdraw i).course = s.course := by
  unfold State.testOverdraw
  dsimp only
  split_ifs <;> simp

@[simp] theorem course_testShort (s : State) (i : BayIx) : (s.testShort i).course = s.course := by
  unfold State.testShort
  split <;> simp

@[simp] theorem course_testHot (s : State) (i : BayIx) : (s.testHot i).course = s.course := by
  unfold State.testHot
  dsimp only
  split_ifs <;> simp

@[simp] theorem course_applyCharge (s : State) (i : BayIx) (b : Block) : (s.applyCharge i b).course = s.course := by
  unfold State.applyCharge
  dsimp only
  split <;> simp

/-! ### What every step of a decision leaves -/

/-- What a decision leaves of its bay's case, its marks being cleared. -/
structure Case.Tends (a b : Case) : Prop where
  link : b.link = a.link
  lamp : b.lampShown = a.lampShown
  display : b.displayDue = a.displayDue
  recon : b.recon = a.recon
  admission : a.admission = false → b.admission = false

theorem Case.Tends.refl (a : Case) : a.Tends a := ⟨rfl, rfl, rfl, rfl, id⟩

theorem Case.Tends.trans {a b c : Case} (h : a.Tends b) (k : b.Tends c) : a.Tends c :=
  ⟨k.link.trans h.link, k.lamp.trans h.lamp, k.display.trans h.display, k.recon.trans h.recon,
    fun e => k.admission (h.admission e)⟩

/-- What a step of a bay's decision leaves, with at most so many notices raised. -/
structure State.Tends (k : Nat) (i : BayIx) (s t : State) : Prop where
  kept : t.kept = s.kept
  course : t.course = s.course
  own : (s.docket.case i).Tends (t.docket.case i)
  others : ∀ j, j ≠ i → t.docket.case j = s.docket.case j
  grown : s.notices.Grown k t.notices

theorem State.Tends.refl (k : Nat) (i : BayIx) (s : State) : s.Tends k i s :=
  ⟨rfl, rfl, .refl _, fun _ _ => rfl, .refl _ _⟩

theorem State.Tends.trans (h : s.Tends j i t) (h' : t.Tends k i u) : s.Tends (j + k) i u :=
  ⟨h'.kept.trans h.kept, h'.course.trans h.course, h.own.trans h'.own, fun x ne => (h'.others x ne).trans (h.others x ne),
    h.grown.trans h'.grown⟩

theorem State.Tends.mono (h : s.Tends j i t) (le : j ≤ k) : s.Tends k i t :=
  ⟨h.kept, h.course, h.own, h.others, h.grown.mono le⟩

theorem State.Follows.tends (h : s.Follows k t) (course : t.course = s.course) (i : BayIx) : s.Tends k i t :=
  ⟨h.kept, course, by rw [h.docket]; exact .refl _, fun _ _ => by rw [h.docket], h.grown⟩

/-! ### The docket after each operation of custody -/

@[simp] theorem docket_setAsset (s : State) (i : BayIx) (a : Option AssetId) (st : Option Standing) :
    (s.setAsset i a st).docket = s.docket.put i { s.docket.case i with assetId := a, standing := st } := docket_modBay s i _

@[simp] theorem docket_dropRelease (s : State) (i : BayIx) :
    (s.dropRelease i).docket = s.docket.put i { s.docket.case i with release := none } := docket_modBay s i _

@[simp] theorem docket_markGone (s : State) (i : BayIx) : (s.markGone i).docket = s.docket := docket_modBay_same s i _ rfl

@[simp] theorem docket_dropTag (s : State) (i : BayIx) : (s.dropTag i).docket = s.docket := by
  refine Eq.trans ?_ (docket_of_aside (aside_withdraw s fun t => match t with | .tag j _ => i = j | _ => false))
  unfold State.dropTag
  dsimp only
  split
  · split
    · split <;> rfl
    · rfl
  · rfl

/-- A case with seating stopped (R57). -/
def Case.unseated (a : Case) : Case := { a with seatDue := none, tagTries := 0, tagRetryDue := none }

@[simp] theorem docket_stopSeating (s : State) (i : BayIx) :
    (s.stopSeating i).docket = s.docket.put i (s.docket.case i).unseated := by
  have dropped := docket_dropTag s i
  unfold State.stopSeating
  generalize s.dropTag i = t at dropped ⊢
  rw [docket_modBay, ← dropped]
  rfl

@[simp] theorem docket_leaveReady (s : State) (i : BayIx) (why : Option Reason) : (s.leaveReady i why).docket = s.docket :=
  (follows_leaveReady s i why).docket

/-- A case that reaches a custody state, its seat-settle timer due then (R55, R57, R58, R68, R78). -/
def Case.reach (a : Case) (c : Custody) (due : Nat) : Case :=
  { a.unseated with
    custody := c
    admission := a.admission && !clearsAdmit c
    release := if clearsRelease c then none else a.release
    assetId := if c = .vacant then none else a.assetId
    standing := if c = .vacant then none else a.standing
    seatDue := if c = .seating then some due else none }

theorem docket_become (s : State) (i : BayIx) {c : Custody} (jam : ∀ d o, c ≠ .jammed d o) :
    (s.become i c).docket =
      s.docket.put i ((s.docket.case i).reach c (s.kept.now + s.kept.settings.get .seatSettle * 1000)) := by
  have left : ∀ p : Prop, ∀ [Decidable p], (if p then s else s.leaveReady i (some .custody)).docket = s.docket ∧
      (if p then s else s.leaveReady i (some .custody)).kept = s.kept := fun p _ => by
    split <;> simp
  unfold State.become
  dsimp only
  obtain ⟨docket, kept⟩ := left (c = .locked)
  generalize (if c = .locked then s else s.leaveReady i (some .custody)) = u at docket kept ⊢
  have docket := (docket_stopSeating u i).trans (congrArg (fun d : Docket => d.put i (d.case i).unseated) docket)
  have kept := (kept_stopSeating u i).trans kept
  generalize u.stopSeating i = v at docket kept ⊢
  have put := docket_modBay v i fun b =>
    { b with
      custody := c
      admission := b.admission && !clearsAdmit c
      gone := b.gone && keepsGone c
      release := if clearsRelease c then none else b.release
      assetId := if c = .vacant then none else b.assetId
      standing := if c = .vacant then none else b.standing
      seatDue := if c = .seating then some (v.now + v.cfg .seatSettle * 1000) else none }
  generalize State.modBay v i _ = w at put ⊢
  have own : (v.bay i).case = (s.docket.case i).unseated := (congrFun (congrArg Docket.case docket) i).trans (by simp)
  have now : v.now = s.kept.now := congrArg Kept.now kept
  have cfg : v.cfg .seatSettle = s.kept.settings.get .seatSettle :=
    congrArg (fun x : Kept => x.settings.get .seatSettle) kept
  have all : w.docket =
      s.docket.put i ((s.docket.case i).reach c (s.kept.now + s.kept.settings.get .seatSettle * 1000)) := by
    rw [put, docket, put_put, now, cfg]
    exact congrArg (fun a : Case => s.docket.put i { a with
      custody := c
      admission := a.admission && !clearsAdmit c
      release := if clearsRelease c then none else a.release
      assetId := if c = .vacant then none else a.assetId
      standing := if c = .vacant then none else a.standing
      seatDue := if c = .seating then some (s.kept.now + s.kept.settings.get .seatSettle * 1000) else none }) own
  have sent : ∀ p : Prop, ∀ [Decidable p], (if p then w.dispatch else w).docket = w.docket := fun p _ => by
    split <;> simp
  cases c with
  | jammed d o => exact absurd rfl (jam d o)
  | _ => exact (sent _).trans all

end

end Sys2Proof.Machine


/-! Reconciliation (O34): each operation of custody that a decision uses. -/

namespace Sys2Proof.Machine

section
variable {j k : Nat} {i : BayIx} {s t u : State}

/-! ### Custody reached -/

theorem dropTag_eq (s : State) (i : BayIx) : ∃ loop, s.dropTag i = { s with loop } := by
  unfold State.dropTag State.withdraw
  dsimp only
  split
  · split
    · split
      · exact ⟨_, rfl⟩
      · exact ⟨_, rfl⟩
    · exact ⟨_, rfl⟩
  · exact ⟨_, rfl⟩

@[simp] theorem notices_stopSeating (s : State) (i : BayIx) : (s.stopSeating i).notices = s.notices := by
  obtain ⟨loop, e⟩ := dropTag_eq s i
  unfold State.stopSeating
  rw [e]
  rfl

theorem grown_become (s : State) (i : BayIx) {c : Custody} (jam : ∀ d o, c ≠ .jammed d o) :
    s.notices.Grown 1 (s.become i c).notices := by
  have left : ∀ p : Prop, ∀ [Decidable p], s.notices.Grown 1 (if p then s else s.leaveReady i (some .custody)).notices :=
    fun p _ => by
      split
      · exact .refl _ _
      · exact (follows_leaveReady ..).grown
  have sent : ∀ u : State, ∀ p : Prop, ∀ [Decidable p], u.notices.Grown 0 (if p then u.dispatch else u).notices :=
    fun u p _ => by
      split
      · exact (follows_dispatch u).grown
      · exact .refl _ _
  unfold State.become
  dsimp only
  have left := left (c = .locked)
  generalize (if c = .locked then s else s.leaveReady i (some .custody)) = u at left ⊢
  have same := notices_stopSeating u i
  generalize u.stopSeating i = v at same ⊢
  rw [← same] at left
  have set : (v.modBay i fun b =>
    { b with
      custody := c
      admission := b.admission && !clearsAdmit c
      gone := b.gone && keepsGone c
      release := if clearsRelease c then none else b.release
      assetId := if c = .vacant then none else b.assetId
      standing := if c = .vacant then none else b.standing
      seatDue := if c = .seating then some (v.now + v.cfg .seatSettle * 1000) else none }).notices = v.notices := rfl
  generalize State.modBay v i _ = w at set ⊢
  rw [← set] at left
  cases c with
  | jammed d o => exact absurd rfl (jam d o)
  | _ => exact left.trans (sent w _)

theorem tends_become (s : State) (i : BayIx) {c : Custody} (jam : ∀ d o, c ≠ .jammed d o) : s.Tends 1 i (s.become i c) where
  kept := kept_become ..
  course := course_of (ground_become ..) (hold_become ..)
  own := by
    rw [docket_become s i jam, put_case_self]
    exact ⟨rfl, rfl, rfl, rfl, fun e => by simp [Case.reach, Case.unseated, e]⟩
  others j ne := by rw [docket_become s i jam, put_case_ne _ ne]
  grown := grown_become s i jam

/-! ### A bay's own fields and the roster -/

/-- A field of the bay's case written that its course does not have. -/
theorem tends_put {c : Case} (kept : t.kept = s.kept) (course : t.course = s.course) (docket : t.docket = s.docket.put i c)
    (own : (s.docket.case i).Tends c) (notices : t.notices = s.notices) : s.Tends 0 i t where
  kept := kept
  course := course
  own := by rw [docket, put_case_self]; exact own
  others j ne := by rw [docket, put_case_ne _ ne]
  grown := by rw [notices]; exact .refl _ _

theorem tends_setAsset (s : State) (i : BayIx) (a : Option AssetId) (st : Option Standing) : s.Tends 0 i (s.setAsset i a st) :=
  tends_put (kept_setAsset ..) rfl (docket_setAsset ..) ⟨rfl, rfl, rfl, rfl, id⟩ rfl

theorem tends_dropRelease (s : State) (i : BayIx) : s.Tends 0 i (s.dropRelease i) :=
  tends_put (kept_dropRelease ..) rfl (docket_dropRelease ..) ⟨rfl, rfl, rfl, rfl, id⟩ rfl

theorem tends_markGone (s : State) (i : BayIx) : s.Tends 0 i (s.markGone i) :=
  (follows_modBay s i (fun b => { b with gone := true }) rfl).tends rfl i

/-- The roster with the entry Docked in a bay moved, out-since the seconds counter (R70). -/
def rosterMoved (i : BayIx) (st : EntryState) (holder : Option Badge) (seconds : Secs) (l : List Entry) : List Entry :=
  l.map fun e => if e.state = .docked i then { e with state := st, holder, outSince := some seconds } else e

@[simp] theorem docket_dockedOut (s : State) (i : BayIx) (holder : Option Badge) : (s.dockedOut i holder).docket =
    { s.docket with roster := rosterMoved i .out holder s.kept.retained.seconds s.docket.roster } := rfl

@[simp] theorem docket_dockedMissing (s : State) (i : BayIx) : (s.dockedMissing i).docket =
    { s.docket with roster := rosterMoved i .missing none s.kept.retained.seconds s.docket.roster } := rfl

theorem tends_dockedOut (s : State) (i : BayIx) (holder : Option Badge) : s.Tends 0 i (s.dockedOut i holder) :=
  ⟨kept_dockedOut .., rfl, .refl _, fun _ _ => rfl, .refl _ _⟩

theorem tends_dockedMissing (s : State) (i : BayIx) : s.Tends 0 i (s.dockedMissing i) :=
  ⟨kept_dockedMissing .., rfl, .refl _, fun _ _ => rfl, .refl _ _⟩

theorem tends_raise (s : State) (i : BayIx) (n : NoticeKind) (bay : Option BayIx) (asset : Option AssetId)
    (session : Option Nat) (value : Option Nat) (reason : Option Reason) :
    s.Tends 1 i (s.raise n bay asset session value reason) := (follows_raise ..).tends (course_raise ..) i

/-! ### Bolt movements asked for -/

@[simp] theorem docket_askBolt (s : State) (i : BayIx) (d : Dir) : (s.askBolt i d).docket = s.docket := by
  unfold State.askBolt
  split
  · rfl
  · split <;> rfl
  · rfl

@[simp] theorem docket_dropBolt (s : State) (i : BayIx) : (s.dropBolt i).docket = s.docket := by
  unfold State.dropBolt
  split <;> rfl

@[simp] theorem docket_engageBay (s : State) (i : BayIx) : (s.engageBay i).docket = s.docket := by
  unfold State.engageBay
  split <;> simp

@[simp] theorem notices_askBolt (s : State) (i : BayIx) (d : Dir) : (s.askBolt i d).notices = s.notices := by
  unfold State.askBolt
  split
  · rfl
  · split <;> rfl
  · rfl

@[simp] theorem notices_dropBolt (s : State) (i : BayIx) : (s.dropBolt i).notices = s.notices := by
  unfold State.dropBolt
  split <;> rfl

@[simp] theorem notices_engageBay (s : State) (i : BayIx) : (s.engageBay i).notices = s.notices := by
  unfold State.engageBay
  split <;> simp

theorem tends_askBolt (s : State) (i : BayIx) (d : Dir) : s.Tends 0 i (s.askBolt i d) :=
  tends_put (kept_askBolt ..) (course_of (ground_askBolt ..) (hold_askBolt ..)) (by simp) (.refl _) (by simp)

theorem tends_dropBolt (s : State) (i : BayIx) : s.Tends 0 i (s.dropBolt i) :=
  tends_put (kept_dropBolt ..) (course_of (ground_dropBolt ..) (hold_dropBolt ..)) (by simp) (.refl _) (by simp)

theorem tends_engageBay (s : State) (i : BayIx) : s.Tends 0 i (s.engageBay i) :=
  tends_put (kept_engageBay ..) (course_of (ground_engageBay ..) (hold_engageBay ..)) (by simp) (.refl _) (by simp)

theorem tends_clearBay (s : State) (i : BayIx) : s.Tends 1 i (s.clearBay i) :=
  (tends_become s i (by simp)).trans (tends_askBolt _ i _)

theorem tends_secureBay (s : State) (i : BayIx) : s.Tends 1 i (s.secureBay i) :=
  (tends_become s i (by simp)).trans (tends_engageBay _ i)

/-- The bay has no entry in the actuation queue, or a pulse for it is in flight. -/
def State.Bare (s : State) (i : BayIx) : Prop := s.standing i = .none ∨ s.pulseInFlight i = true

theorem bare_of_arb (h : t.arb = s.arb) (bare : s.Bare i) : t.Bare i := by
  have standing : t.standing i = s.standing i := by
    unfold State.standing
    rw [h]
  unfold State.Bare State.pulseInFlight at *
  rw [standing]
  exact bare

theorem bare_dropBolt (s : State) (i : BayIx) : (s.dropBolt i).Bare i := by
  have drop := (onBay_dropBolt i s).sameCase
  have flight := pulseInFlight_of_slots drop.slotA drop.slotB i
  cases out : s.pulseInFlight i with
  | true => exact .inr (flight.trans out)
  | false => exact .inl (standing_empty (flight.trans out) (entries_dropBolt out))

/-- A movement asked for a bay that has none queued stands (R98). -/
theorem wants_askBolt (bare : s.Bare i) (d : Dir) : (s.askBolt i d).Wants i d := by
  obtain e | flight := bare
  · refine .inl ?_
    rw [State.askBolt, e]
    exact List.mem_append_right _ (List.mem_singleton.2 rfl)
  · obtain ⟨k, p, e⟩ := standing_inFlight flight
    refine .inr ?_
    rw [State.askBolt, e]
    exact flight

theorem wants_clearBay (bare : s.Bare i) : (s.clearBay i).Wants i .retract :=
  wants_askBolt (bare_of_arb (become_arb ..) bare) _

theorem wants_secureBay (s : State) (i : BayIx) : (s.secureBay i).Wants i .engage := engageBay_stands _ i

/-! ### A session's end (R126, R128) -/

/-- A session taken from the queue, its end the last outcome of its bay. -/
def State.sessionOut (s : State) (x : Session) (o : SessOutcome) : State :=
  (s.leaveQueue x).modBay x.bay fun b => { b with lastOutcome := some (o, x.id) }

theorem follows_endSessionAs {x : Session} (here : s.session? x.id = some x) (o : SessOutcome) (asset : Option AssetId) :
    (s.sessionOut x o).Follows 1 (s.endSessionAs x.id o asset) := by
  have freed : ∀ u : State, u.Follows 0 (u.channelFreed x) := fun u => by
    unfold State.channelFreed
    split
    · exact .ite (follows_dispatch u) (.refl 0 u)
    · exact .refl 0 u
  unfold State.endSessionAs
  rw [here]
  dsimp only
  have said := follows_raise (s.sessionOut x o) .sessionEnded (some x.bay) asset (some x.id)
    (some (match x.channel with | some c => c.1 + 1 | none => 0)) (some (.outcome o))
  have shared := fun (p : Prop) [Decidable p] (u : State) => State.Follows.ite (p := p) (.refl 0 u) (follows_refreshShare u x.bay)
  exact said.trans ((shared _ _).trans (freed _))

theorem tends_sessionOut (s : State) (x : Session) (o : SessOutcome) : s.Tends 0 x.bay (s.sessionOut x o) := by
  have left : (s.leaveQueue x).docket = s.docket ∧ (s.leaveQueue x).kept = s.kept ∧ (s.leaveQueue x).course = s.course ∧
      (s.leaveQueue x).notices = s.notices := by
    unfold State.leaveQueue
    cases x.channel <;> exact ⟨rfl, rfl, rfl, rfl⟩
  have put := docket_modBay (s.leaveQueue x) x.bay fun b => { b with lastOutcome := some (o, x.id) }
  unfold State.sessionOut
  generalize s.leaveQueue x = u at left put ⊢
  obtain ⟨docket, kept, course, notices⟩ := left
  refine tends_put kept course (put.trans (congrArg (fun d : Docket => d.put x.bay _) docket)) ?_ notices
  rw [← docket]
  exact ⟨rfl, rfl, rfl, rfl, id⟩

end

end Sys2Proof.Machine


/-! Reconciliation (O34): a removal told to the sessions, and the decisions' parts (R63, R69, R128, R163). -/

namespace Sys2Proof.Machine

section
variable {j k : Nat} {i : BayIx} {s t u : State}

/-! ### A removal told (R128) -/

theorem session?_self {x : Session} (ids : (s.sess.queue.map (·.id)).Nodup) (mem : x ∈ s.sess.queue) :
    s.session? x.id = some x := by
  cases e : s.session? x.id with
  | none => exact absurd (List.mem_map_of_mem (f := (·.id)) mem) (session?_none.1 e)
  | some y => exact congrArg some (List.inj_on_of_nodup_map ids (session?_mem e) mem (session?_id e))

theorem sessionOf?_spec {x : Session} (h : s.sessionOf? i = some x) : x ∈ s.sess.queue ∧ x.bay = i :=
  ⟨List.mem_of_find?_eq_some h, of_decide_eq_true (List.find?_some (p := fun y : Session => decide (y.bay = i)) h)⟩

/-- Where the bay has no session to end, or what the end of its session is (R128). -/
theorem tellRemoval_cases (ids : (s.sess.queue.map (·.id)).Nodup) (i : BayIx) (asset : Option AssetId) :
    ((∀ x, s.sessionOf? i = some x → x.state = .draining) ∧ s.tellRemoval i asset = s) ∨
    ∃ x, s.sessionOf? i = some x ∧ x.state ≠ .draining ∧
      (s.sessionOut x .removed).Follows 1 (s.tellRemoval i asset) := by
  unfold State.tellRemoval
  cases e : s.sessionOf? i with
  | none => exact .inl ⟨(fun x h => nomatch h), rfl⟩
  | some x =>
    obtain ⟨mem, -⟩ := sessionOf?_spec e
    dsimp only
    by_cases draining : x.state = .draining
    · rw [if_pos draining]
      exact .inl ⟨fun y h => Option.some.inj h ▸ draining, rfl⟩
    · rw [if_neg draining]
      exact .inr ⟨x, rfl, draining, follows_endSessionAs (session?_self ids mem) ..⟩

theorem tends_tellRemoval (ids : (s.sess.queue.map (·.id)).Nodup) (i : BayIx) (asset : Option AssetId) :
    s.Tends 1 i (s.tellRemoval i asset) := by
  obtain ⟨-, e⟩ | ⟨x, own, -, follows⟩ := tellRemoval_cases ids i asset
  · rw [e]
    exact .refl _ _ _
  · obtain ⟨-, rfl⟩ := sessionOf?_spec own
    have out := tends_sessionOut s x .removed
    refine (out.trans (follows.tends ?_ x.bay)).mono (by omega)
    rw [out.course]
    exact course_of (ground_tellRemoval ..) (hold_tellRemoval ..)

/-- The removal told moves no field but the last outcome. -/
theorem docket_tellRemoval (ids : (s.sess.queue.map (·.id)).Nodup) (i : BayIx) (asset : Option AssetId) :
    ∃ o, (s.tellRemoval i asset).docket = s.docket.put i { s.docket.case i with lastOutcome := o } := by
  obtain ⟨-, e⟩ | ⟨x, own, -, follows⟩ := tellRemoval_cases ids i asset
  · rw [e]
    exact ⟨(s.docket.case i).lastOutcome, (put_self s.docket i).symm⟩
  · obtain ⟨-, rfl⟩ := sessionOf?_spec own
    refine ⟨some (.removed, x.id), ?_⟩
    have left : (s.leaveQueue x).docket = s.docket := by
      unfold State.leaveQueue
      cases x.channel <;> rfl
    have put := docket_modBay (s.leaveQueue x) x.bay fun b => { b with lastOutcome := some (.removed, x.id) }
    rw [follows.docket, ← left]
    exact put

theorem tellRemoval_arb (s : State) (i : BayIx) (asset : Option AssetId) : (s.tellRemoval i asset).arb = s.arb := by
  unfold State.tellRemoval
  split
  · split
    · rfl
    · exact congrArg (fun x => x.2.2.2) (apart_endSessionAs ..)
  · rfl

/-- The sessions of the bay are told of the removal: one Draining stays, another is ended. -/
structure State.Told (s t : State) (i : BayIx) : Prop where
  ids : (t.sess.queue.map (·.id)).Nodup
  stays : ∀ x ∈ s.sess.queue, x.bay = i → x.state = .draining → x ∈ t.sess.queue
  ends : ∀ x ∈ s.sess.queue, x.bay = i → x.state ≠ .draining →
    t.session? x.id = none ∧ (t.docket.case i).lastOutcome = some (.removed, x.id)

theorem told_tellRemoval (sound : s.sess.Sound) (i : BayIx) (asset : Option AssetId) : s.Told (s.tellRemoval i asset) i := by
  have own : ∀ x ∈ s.sess.queue, x.bay = i → s.sessionOf? i = some x := fun x mem bay => by
    cases e : s.sessionOf? i with
    | none => exact absurd bay (by simpa using List.find?_eq_none.1 (show s.sess.queue.find? (·.bay = i) = none from e) x mem)
    | some y =>
      obtain ⟨here, same⟩ := sessionOf?_spec e
      exact congrArg some (List.inj_on_of_nodup_map sound.bays here mem (same.trans bay.symm))
  obtain ⟨draining, e⟩ | ⟨x, here, running, follows⟩ := tellRemoval_cases sound.ids i asset
  · rw [e]
    exact ⟨sound.ids, fun _ mem _ _ => mem, fun x mem bay st => absurd (draining x (own x mem bay)) st⟩
  · obtain ⟨mem, bay⟩ := sessionOf?_spec here
    have ids := follows.sess.1
    have queue : (s.sessionOut x .removed).sess.queue = s.sess.queue.filter fun y => y.id ≠ x.id := leaveQueue_queue s x
    rw [queue] at ids
    have only : ∀ y ∈ s.sess.queue, y.bay = i → y = x := fun y m b =>
      Option.some.inj ((own y m b).symm.trans here)
    refine ⟨?_, fun y m b st => absurd (only y m b ▸ st) running, fun y m b _ => ?_⟩
    · rw [ids]
      exact sound.ids.sublist (List.filter_sublist.map _)
    · obtain rfl := only y m b
      refine ⟨session?_none.2 ?_, ?_⟩
      · rw [ids]
        simp
      · rw [follows.docket, ← bay]
        have put := docket_modBay (s.leaveQueue y) y.bay fun b => { b with lastOutcome := some (.removed, y.id) }
        exact (congrArg (fun d : Docket => (d.case y.bay).lastOutcome) put).trans (by simp; rfl)

/-- Steps that leave the sessions before the removal is told. -/
theorem State.Told.before (h : s.Told t i) (sess : s.sess = u.sess) : u.Told t i :=
  ⟨h.ids, sess ▸ h.stays, sess ▸ h.ends⟩

theorem State.Told.after (h : s.Told t i) (follows : t.Follows k u) : s.Told u i := by
  obtain ⟨ids, busy⟩ := follows.sess
  refine ⟨ids ▸ h.ids, fun x mem bay st => ?_, fun x mem bay st => ?_⟩
  · exact busy h.ids x (h.stays x mem bay st) (by rw [st]; simp)
  · obtain ⟨gone, outcome⟩ := h.ends x mem bay st
    refine ⟨session?_none.2 (by rw [ids]; exact session?_none.1 gone), ?_⟩
    rw [follows.docket]
    exact outcome

/-! ### The parts of the decisions -/

theorem tends_takeTablet (s : State) (i : BayIx) (holder : Option Badge) (why : Reason) (value : Nat) :
    s.Tends 1 i (s.takeTablet i holder why value) :=
  (tends_dockedOut s i holder).trans ((tends_raise _ i ..).trans ((tends_setAsset _ i none none).trans (tends_dropRelease _ i)))

theorem tends_mismatch (s : State) (i : BayIx) (why : Reason) : s.Tends 1 i (s.mismatch i why) :=
  (tends_raise s i ..).trans (tends_dockedMissing _ i)

theorem tends_leaveEmpty (s : State) (i : BayIx) (bolt : Bolt) : s.Tends 1 i (s.leaveEmpty i bolt) := by
  unfold State.leaveEmpty
  split
  · exact tends_become s i (by simp)
  · exact tends_clearBay s i

theorem tends_mendHeld (s : State) (i : BayIx) (bolt : Bolt) : s.Tends 0 i (s.mendHeld i bolt) := by
  unfold State.mendHeld
  split
  · exact .refl 0 i s
  · exact tends_askBolt s i _

theorem sess_leaveEmpty (s : State) (i : BayIx) (bolt : Bolt) : (s.leaveEmpty i bolt).sess = s.sess := by
  unfold State.leaveEmpty State.clearBay
  split
  · exact sess_become s i (by simp)
  · rw [sess_askBolt, sess_become _ _ (by simp)]

theorem sess_mendHeld (s : State) (i : BayIx) (bolt : Bolt) : (s.mendHeld i bolt).sess = s.sess := by
  unfold State.mendHeld
  split
  · rfl
  · simp

theorem sess_mismatch (s : State) (i : BayIx) (why : Reason) : (s.mismatch i why).sess = s.sess := sess_raise ..

end

end Sys2Proof.Machine


/-! Reconciliation (O34): what each decision comes to (R161 to R164). -/

namespace Sys2Proof.Machine

section
variable {j k : Nat} {i : BayIx} {s t u : State} {bolt : Bolt}

/-! ### A notice said -/

/-- A record has been placed, where there was room for so many. -/
structure State.Says (k : Nat) (s t : State) (r : Notice) : Prop where
  grown : s.notices.Grown k t.notices
  mem : s.notices.queue.length + k ≤ 32 → r ∈ t.notices.queue

theorem State.Says.after {r : Notice} (h : s.Says k t r) (grown : t.notices.Grown j u.notices) : s.Says (k + j) u r where
  grown := h.grown.trans grown
  mem room := by
    obtain ⟨l, short, e⟩ := h.grown (by omega)
    exact grown.mem (by rw [e, List.length_append]; omega) (h.mem (by omega))

theorem State.Says.before {r : Notice} (h : t.Says k u r) (grown : s.notices.Grown j t.notices) : s.Says (j + k) u r where
  grown := grown.trans h.grown
  mem room := by
    obtain ⟨l, short, e⟩ := grown (by omega)
    exact h.mem (by rw [e, List.length_append]; omega)

/-- A notice about a bay of no session (R184). -/
def State.about (s : State) (i : BayIx) (n : NoticeKind) (value : Option Nat) (why : Reason) : Notice :=
  ⟨n, s.notices.levels.get n, s.kept.retained.seconds, some i, (s.docket.case i).assetId, none, value, some why⟩

theorem says_raise (s : State) (i : BayIx) {n : NoticeKind} (value : Option Nat) (why : Reason)
    (loud : s.notices.levels.get n ≠ 0) :
    s.Says 1 (s.raise n (bay := some i) (asset := (s.bay i).assetId) (value := value) (reason := some why))
      (s.about i n value why) :=
  ⟨(follows_raise ..).grown, fun room => mem_raise s n (some i) (s.bay i).assetId none value (some why) (by omega) loud⟩

/-! ### A bay left empty -/

/-- The bay is Vacant, or with its bolt out of place Clearing with a retract asked for (R162, R163). -/
structure State.LeftEmpty (t : State) (i : BayIx) (bolt : Bolt) : Prop where
  home : bolt = .retracted → (t.docket.case i).custody = .vacant
  away : bolt ≠ .retracted → (t.docket.case i).custody = .clearing ∧ t.Wants i .retract

theorem State.LeftEmpty.after (h : t.LeftEmpty i bolt) (docket : (u.docket.case i).custody = (t.docket.case i).custody)
    (wants : t.Wants i .retract → u.Wants i .retract) : u.LeftEmpty i bolt :=
  ⟨fun home => docket.trans (h.home home), fun away => ⟨docket.trans (h.away away).1, wants (h.away away).2⟩⟩

theorem docket_leaveEmpty (s : State) (i : BayIx) (bolt : Bolt) : (s.leaveEmpty i bolt).docket = s.docket.put i
    ((s.docket.case i).reach (if bolt = .retracted then .vacant else .clearing)
      (s.kept.now + s.kept.settings.get .seatSettle * 1000)) := by
  unfold State.leaveEmpty State.clearBay
  split
  · exact docket_become s i (by simp)
  · rw [docket_askBolt, docket_become s i (by simp)]

theorem leftEmpty_leaveEmpty (bare : s.Bare i) (bolt : Bolt) : (s.leaveEmpty i bolt).LeftEmpty i bolt := by
  have docket := docket_leaveEmpty s i bolt
  refine ⟨fun home => ?_, fun away => ⟨?_, ?_⟩⟩
  · rw [docket, if_pos home, put_case_self]; rfl
  · rw [docket, if_neg away, put_case_self]; rfl
  · unfold State.leaveEmpty
    rw [if_neg away]
    exact wants_clearBay bare

/-! ### A tablet taken (R162, R163) -/

/-- The tablet has been taken: its entry Out with the holder, the record removed, the bay left empty. -/
structure State.Taken (k : Nat) (s t : State) (i : BayIx) (bolt : Bolt) : Prop where
  empty : t.LeftEmpty i bolt
  roster : t.docket.roster = rosterMoved i .out ((s.docket.case i).release.bind (·.holder)) s.kept.retained.seconds s.docket.roster
  asset : (t.docket.case i).assetId = none
  standing : (t.docket.case i).standing = none
  release : (t.docket.case i).release = none
  said : s.notices.levels.get .taken ≠ 0 → s.Says k t (s.about i .taken (some 0) .absent)

theorem docket_takeTablet (s : State) (i : BayIx) (holder : Option Badge) (why : Reason) (value : Nat) :
    (s.takeTablet i holder why value).docket = Docket.put { s.docket with
      roster := rosterMoved i .out holder s.kept.retained.seconds s.docket.roster } i
        { s.docket.case i with assetId := none, standing := none, release := none } := by
  simp [State.takeTablet]

theorem raise_arb (s : State) (n : NoticeKind) (bay : Option BayIx) (asset : Option AssetId)
    (session : Option Nat) (value : Option Nat) (reason : Option Reason) :
    (s.raise n bay asset session value reason).arb = s.arb := by
  obtain ⟨m, e, -⟩ := raise_spec s n bay asset session value reason
  rw [e]

theorem takeTablet_arb (s : State) (i : BayIx) (holder : Option Badge) (why : Reason) (value : Nat) :
    (s.takeTablet i holder why value).arb = s.arb := raise_arb (s.dockedOut i holder) ..

theorem says_takeTablet (s : State) (i : BayIx) (holder : Option Badge) (why : Reason) (value : Nat)
    (loud : s.notices.levels.get .taken ≠ 0) :
    s.Says 1 (s.takeTablet i holder why value) (s.about i .taken (some value) why) :=
  have said := says_raise (s.dockedOut i holder) i (n := .taken) (some value) why loud
  ⟨said.grown, said.mem⟩

theorem taken_foundTaken (bare : s.Bare i) (bolt : Bolt) : s.Taken 2 (s.foundTaken i bolt) i bolt := by
  have docket := docket_takeTablet s i (s.bay i).holder .absent 0
  have arb := takeTablet_arb s i (s.bay i).holder .absent 0
  have said := says_takeTablet s i (s.bay i).holder .absent 0
  unfold State.foundTaken
  generalize s.takeTablet i (s.bay i).holder .absent 0 = v at docket arb said ⊢
  have empty := leftEmpty_leaveEmpty (bare_of_arb arb bare) bolt
  have put := docket_leaveEmpty v i bolt
  have grown := (tends_leaveEmpty v i bolt).grown
  generalize v.leaveEmpty i bolt = w at empty put grown ⊢
  rw [docket, put_put, put_case_self] at put
  refine ⟨empty, ?_, ?_, ?_, ?_, fun loud => (said loud).after grown⟩
  · rw [put]; rfl
  · rw [put, put_case_self]; simp [Case.reach, Case.unseated]
  · rw [put, put_case_self]; simp [Case.reach, Case.unseated]
  · rw [put, put_case_self]; simp [Case.reach, Case.unseated]

/-! ### A tablet gone (R163, R67, R69) -/

/-- The tablet is gone without a release: its entry moved, the asset field emptied, the session told. -/
structure State.Gone (s t : State) (i : BayIx) (st : EntryState) : Prop where
  roster : t.docket.roster = rosterMoved i st none s.kept.retained.seconds s.docket.roster
  asset : (t.docket.case i).assetId = none
  standing : (t.docket.case i).standing = none
  told : s.Told t i

theorem State.Gone.after {st : EntryState} (h : s.Gone t i st) (follows : t.Follows k u) : s.Gone u i st where
  roster := by rw [follows.docket]; exact h.roster
  asset := by rw [follows.docket]; exact h.asset
  standing := by rw [follows.docket]; exact h.standing
  told := h.told.after follows

/-- A removal told where the entry has been moved and the asset field emptied. -/
theorem gone_tellRemoval {st : EntryState} (sound : s.sess.Sound) (sess : t.sess = s.sess)
    (roster : t.docket.roster = rosterMoved i st none s.kept.retained.seconds s.docket.roster)
    (asset : (t.docket.case i).assetId = none) (standing : (t.docket.case i).standing = none) (a : Option AssetId) :
    s.Gone (t.tellRemoval i a) i st := by
  rw [← sess] at sound
  obtain ⟨o, docket⟩ := docket_tellRemoval sound.ids i a
  refine ⟨?_, ?_, ?_, (told_tellRemoval sound i a).before sess⟩
  · rw [docket]; exact roster
  · rw [docket, put_case_self]; exact asset
  · rw [docket, put_case_self]; exact standing

theorem says_mismatch (s : State) (i : BayIx) (why : Reason) (loud : s.notices.levels.get .custodyMismatch ≠ 0) :
    s.Says 1 (s.mismatch i why) (s.about i .custodyMismatch none why) :=
  have said := says_raise s i (n := .custodyMismatch) none why loud
  ⟨said.grown, said.mem⟩

theorem docket_mismatch (s : State) (i : BayIx) (why : Reason) : (s.mismatch i why).docket =
    { s.docket with roster := rosterMoved i .missing none s.kept.retained.seconds s.docket.roster } := by
  simp [State.mismatch]

theorem wants_tellRemoval {d : Dir} (h : s.Wants i d) (a : Option AssetId) : (s.tellRemoval i a).Wants i d :=
  wants_of_arb (tellRemoval_arb ..) h

/-- A tablet in custody found gone (R163). -/
theorem foundGone_spec (sound : s.sess.Sound) (bare : s.Bare i) (bolt : Bolt) :
    (s.foundGone i bolt).LeftEmpty i bolt ∧ s.Gone (s.foundGone i bolt) i .missing ∧
    (s.notices.levels.get .custodyMismatch ≠ 0 → s.Says 3 (s.foundGone i bolt) (s.about i .custodyMismatch none .absent)) := by
  have said := says_mismatch s i .absent
  have docket := docket_mismatch s i .absent
  have sess := sess_mismatch s i .absent
  have arb : (s.mismatch i .absent).arb = s.arb := raise_arb s ..
  unfold State.foundGone
  dsimp only
  generalize s.mismatch i .absent = v at said docket sess arb ⊢
  have put := (docket_setAsset v i none none).trans (by rw [docket])
  have same : (v.setAsset i none none).sess = s.sess := sess
  have still : (v.setAsset i none none).arb = s.arb := arb
  have grown := (tends_setAsset v i none none).grown
  generalize v.setAsset i none none = w at put same still grown ⊢
  have empty := leftEmpty_leaveEmpty (bare_of_arb still bare) bolt
  have left := docket_leaveEmpty w i bolt
  have same := (sess_leaveEmpty w i bolt).trans same
  have grown := grown.trans (tends_leaveEmpty w i bolt).grown
  generalize w.leaveEmpty i bolt = x at empty left same grown ⊢
  rw [put, put_put, put_case_self] at left
  have ids : (x.sess.queue.map (·.id)).Nodup := by rw [same]; exact sound.ids
  obtain ⟨o, last⟩ := docket_tellRemoval ids i (s.bay i).assetId
  refine ⟨empty.after ?_ fun h => wants_tellRemoval h _, gone_tellRemoval sound same ?_ ?_ ?_ _, fun loud => ?_⟩
  · rw [last, put_case_self]
  · rw [left]; rfl
  · rw [left, put_case_self]; simp [Case.reach, Case.unseated]
  · rw [left, put_case_self]; simp [Case.reach, Case.unseated]
  · exact ((said loud).after grown).after (tends_tellRemoval ids i _).grown

/-- A removal from Held (R67). -/
theorem removeHeld_spec (sound : s.sess.Sound) (i : BayIx) :
    ((s.removeHeld i).docket.case i).custody = .vacant ∧ s.Gone (s.removeHeld i) i .out := by
  have docket := docket_dockedOut s i none
  have sess : (s.dockedOut i none).sess = s.sess := rfl
  unfold State.removeHeld
  dsimp only
  generalize s.dockedOut i none = v at docket sess ⊢
  have put := docket_become v i (c := .vacant) (by simp)
  have same := (sess_become v i (c := .vacant) (by simp)).trans sess
  generalize v.become i .vacant = w at put same ⊢
  rw [docket] at put
  have ids : (w.sess.queue.map (·.id)).Nodup := by rw [same]; exact sound.ids
  obtain ⟨o, last⟩ := docket_tellRemoval ids i (s.bay i).assetId
  refine ⟨?_, gone_tellRemoval sound same ?_ ?_ ?_ _⟩
  · rw [last, put_case_self, put, put_case_self]; rfl
  · rw [put]; rfl
  · rw [put, put_case_self]; simp [Case.reach, Case.unseated]
  · rw [put, put_case_self]; simp [Case.reach, Case.unseated]

theorem loseJammed_none (h : (s.bay i).assetId = none) : s.loseJammed i = s := by simp [State.loseJammed, h]

theorem loseJammed_some {a : AssetId} (h : (s.bay i).assetId = some a) : s.loseJammed i =
    ((((s.sayTamper i .jammed).dockedMissing i).setAsset i none none).markGone i).tellRemoval i (some a) := by
  simp [State.loseJammed, h]

/-- A tablet lost while Jammed (R69). -/
theorem loseJammed_spec (sound : s.sess.Sound) {a : AssetId} (h : (s.bay i).assetId = some a) :
    ((s.loseJammed i).docket.case i).custody = (s.docket.case i).custody ∧ s.Gone (s.loseJammed i) i .missing ∧
    (s.notices.levels.get .tamper ≠ 0 → s.Says 2 (s.loseJammed i) (s.about i .tamper none .jammed)) := by
  rw [loseJammed_some h]
  have said : s.notices.levels.get .tamper ≠ 0 → s.Says 1 (s.sayTamper i .jammed) (s.about i .tamper none .jammed) :=
    says_raise s i none .jammed
  have docket : (s.sayTamper i .jammed).docket = s.docket := docket_raise ..
  have sess : (s.sayTamper i .jammed).sess = s.sess := sess_raise ..
  have kept : (s.sayTamper i .jammed).kept = s.kept := kept_raise ..
  generalize s.sayTamper i .jammed = v at said docket sess kept ⊢
  have all : (((v.dockedMissing i).setAsset i none none).markGone i).docket = Docket.put { s.docket with
      roster := rosterMoved i .missing none s.kept.retained.seconds s.docket.roster } i
        { s.docket.case i with assetId := none, standing := none } := by
    simp [docket, kept]
  have same : (((v.dockedMissing i).setAsset i none none).markGone i).sess = s.sess := sess
  have grown : v.notices.Grown 0 (((v.dockedMissing i).setAsset i none none).markGone i).notices := .refl _ _
  generalize ((v.dockedMissing i).setAsset i none none).markGone i = w at all same grown ⊢
  have ids : (w.sess.queue.map (·.id)).Nodup := by rw [same]; exact sound.ids
  obtain ⟨o, last⟩ := docket_tellRemoval ids i (some a)
  refine ⟨?_, gone_tellRemoval sound same ?_ ?_ ?_ _, fun loud => ?_⟩
  · rw [last, put_case_self, all, put_case_self]
  · rw [all]; rfl
  · rw [all, put_case_self]
  · rw [all, put_case_self]
  · exact ((said loud).after grown).after (tends_tellRemoval ids i _).grown

end

end Sys2Proof.Machine


/-! Reconciliation (O34): a tablet found replaced, and the decisions of the bays that need no tag read (R161, R162). -/

namespace Sys2Proof.Machine

section
variable {j k : Nat} {i : BayIx} {s t u : State} {bolt : Bolt}

/-! ### A tablet replaced (R161, R163) -/

/-- The roster's assets say of an asset whether it has an entry. -/
theorem entry?_of_kept (h : t.kept = s.kept) (a : AssetId) : (t.entry? a).isSome = (s.entry? a).isSome := by
  have listed : ∀ u : State, (u.entry? a).isSome = true ↔ a ∈ u.kept.assets := fun u => by
    have parts : u.kept.assets = u.cust.roster.map (·.asset) := rfl
    rw [parts]
    unfold State.entry?
    simp
  have same : (t.entry? a).isSome = true ↔ (s.entry? a).isSome = true := by rw [listed, listed, h]
  exact Bool.eq_iff_iff.2 same

/-- The standing of an asset read where custody has another (R60, R163). -/
def State.stranger (s : State) (a : AssetId) : Standing := if (s.entry? a).isSome then .unbound else .foreign

theorem stranger_of_kept (h : t.kept = s.kept) : t.stranger = s.stranger :=
  funext fun a => by unfold State.stranger; rw [entry?_of_kept h]

/-- Another tablet, or none that could be read, has been found in the place of the one in custody. -/
structure State.Swapped (k : Nat) (s t : State) (i : BayIx) (bolt : Bolt) (r : HeldReason) (read : Option AssetId) : Prop where
  custody : (t.docket.case i).custody = .held r
  roster : t.docket.roster = rosterMoved i .missing none s.kept.retained.seconds s.docket.roster
  asset : (t.docket.case i).assetId = read
  standing : (t.docket.case i).standing = read.map s.stranger
  release : (t.docket.case i).release = none
  told : s.Told t i
  said : s.notices.levels.get .custodyMismatch ≠ 0 → s.Says k t (s.about i .custodyMismatch none .swapped)
  asks : bolt ≠ .retracted → t.Wants i .retract

@[simp] theorem docket_mendHeld (s : State) (i : BayIx) (bolt : Bolt) : (s.mendHeld i bolt).docket = s.docket := by
  unfold State.mendHeld
  split <;> simp

theorem wants_mendHeld (bare : s.Bare i) (away : bolt ≠ .retracted) : (s.mendHeld i bolt).Wants i .retract := by
  unfold State.mendHeld
  rw [if_neg away]
  exact wants_askBolt bare _

theorem tends_foundSwapped (sound : s.sess.Sound) (i : BayIx) (bolt : Bolt) (r : HeldReason) (read : Option AssetId) :
    s.Tends 3 i (s.foundSwapped i bolt r read) := by
  unfold State.foundSwapped
  dsimp only
  have found := (tends_mismatch s i .swapped).trans (tends_become _ i (c := .held r) (by simp))
  have same := (sess_become (s.mismatch i .swapped) i (c := .held r) (by simp)).trans (sess_mismatch ..)
  generalize (s.mismatch i .swapped).become i (.held r) = v at found same ⊢
  have set := found.trans ((tends_setAsset v i read (read.map fun a => if (v.entry? a).isSome then .unbound else .foreign)).trans
    ((tends_dropRelease _ i).trans (tends_mendHeld _ i bolt)))
  have same := (sess_mendHeld ((v.setAsset i read (read.map fun a => if (v.entry? a).isSome then .unbound else .foreign)).dropRelease i)
    i bolt).trans same
  generalize State.mendHeld _ i bolt = w at set same ⊢
  exact set.trans (tends_tellRemoval (by rw [same]; exact sound.ids) i _)

theorem swapped_foundSwapped (sound : s.sess.Sound) (bare : s.Bare i) (bolt : Bolt) (r : HeldReason) (read : Option AssetId) :
    s.Swapped 3 (s.foundSwapped i bolt r read) i bolt r read := by
  have said := says_mismatch s i .swapped
  have docket := docket_mismatch s i .swapped
  have sess := sess_mismatch s i .swapped
  have kept := kept_mismatch s i .swapped
  have arb : (s.mismatch i .swapped).arb = s.arb := raise_arb s ..
  unfold State.foundSwapped
  dsimp only
  generalize s.mismatch i .swapped = v at said docket sess kept arb ⊢
  have put := docket_become v i (c := .held r) (by simp)
  have sess := (sess_become v i (c := .held r) (by simp)).trans sess
  have kept := (kept_become v i (.held r)).trans kept
  have arb := (become_arb v i (.held r)).trans arb
  have grown := (tends_become v i (c := .held r) (by simp)).grown
  generalize v.become i (.held r) = w at put sess kept arb grown ⊢
  have stranger : read.map (fun a => if (w.entry? a).isSome then Standing.unbound else .foreign) = read.map s.stranger :=
    congrArg read.map (stranger_of_kept kept)
  rw [stranger]
  have set : ((w.setAsset i read (read.map s.stranger)).dropRelease i).docket = Docket.put { s.docket with
      roster := rosterMoved i .missing none s.kept.retained.seconds s.docket.roster } i
        { (s.docket.case i).reach (.held r) (v.kept.now + v.kept.settings.get .seatSettle * 1000) with
          assetId := read, standing := read.map s.stranger, release := none } := by
    simp [put, docket]
  have same : ((w.setAsset i read (read.map s.stranger)).dropRelease i).sess = s.sess := sess
  have still : ((w.setAsset i read (read.map s.stranger)).dropRelease i).arb = s.arb := arb
  have none : w.notices.Grown 0 ((w.setAsset i read (read.map s.stranger)).dropRelease i).notices := .refl _ _
  generalize (w.setAsset i read (read.map s.stranger)).dropRelease i = x at set same still none ⊢
  have grown := (grown.trans none).trans (tends_mendHeld x i bolt).grown
  have asks := wants_mendHeld (bolt := bolt) (bare_of_arb still bare)
  have same := (sess_mendHeld x i bolt).trans same
  have set := (docket_mendHeld x i bolt).trans set
  generalize x.mendHeld i bolt = y at grown asks same set ⊢
  have ids : (y.sess.queue.map (·.id)).Nodup := by rw [same]; exact sound.ids
  obtain ⟨o, last⟩ := docket_tellRemoval ids i (s.bay i).assetId
  have sound' : y.sess.Sound := same ▸ sound
  refine ⟨?_, ?_, ?_, ?_, ?_, (told_tellRemoval sound' i _).before same, fun loud => ?_, fun away => wants_tellRemoval (asks away) _⟩
  · rw [last, put_case_self, set, put_case_self]; rfl
  · rw [last, put_roster, set]; rfl
  · rw [last, put_case_self, set, put_case_self]
  · rw [last, put_case_self, set, put_case_self]
  · rw [last, put_case_self, set, put_case_self]
  · exact ((said loud).after grown).after (tends_tellRemoval ids i _).grown

/-! ### Releasing and Released (R162) -/

/-- A release withdrawn by reconciliation: Securing with an engage asked for, and a notice that says so. -/
structure State.Withdrawn (k : Nat) (s t : State) (i : BayIx) : Prop where
  custody : (t.docket.case i).custody = .securing
  release : (t.docket.case i).release = none
  asset : (t.docket.case i).assetId = (s.docket.case i).assetId
  standing : (t.docket.case i).standing = (s.docket.case i).standing
  roster : t.docket.roster = s.docket.roster
  asks : t.Wants i .engage
  said : s.notices.levels.get .releaseCancelled ≠ 0 →
    s.Says k t (s.about i .releaseCancelled none (cancelReason s.cust.reconCause))

theorem withdrawn_decideOpen (s : State) (i : BayIx) (bolt : Bolt) : s.Withdrawn 2 (s.decideOpen i true bolt) i := by
  have dropped := docket_dropRelease s i
  have docket : ((s.dropRelease i).secureBay i).docket = _ := (docket_engageBay ..).trans
    (docket_become (s.dropRelease i) i (c := .securing) (by simp))
  have wants := wants_secureBay (s.dropRelease i) i
  have grown := (tends_dropRelease s i).trans (tends_secureBay _ i)
  have open_ : s.decideOpen i true bolt = ((s.dropRelease i).secureBay i).sayCancelled i (cancelReason s.cust.reconCause) := if_pos rfl
  rw [open_]
  generalize (s.dropRelease i).secureBay i = v at docket wants grown ⊢
  rw [dropped, put_put, put_case_self] at docket
  have said : v.notices.levels.get .releaseCancelled ≠ 0 →
      v.Says 1 (v.sayCancelled i (cancelReason s.cust.reconCause)) (v.about i .releaseCancelled none (cancelReason s.cust.reconCause)) :=
    says_raise v i none _
  have same : (v.sayCancelled i (cancelReason s.cust.reconCause)).docket = v.docket := docket_raise ..
  have arb : (v.sayCancelled i (cancelReason s.cust.reconCause)).arb = v.arb := raise_arb ..
  have about : v.about i .releaseCancelled none (cancelReason s.cust.reconCause) =
      s.about i .releaseCancelled none (cancelReason s.cust.reconCause) := by
    unfold State.about
    rw [grown.kept, docket, put_case_self, show v.notices.levels = s.notices.levels from congrArg Kept.levels grown.kept]
    simp [Case.reach, Case.unseated]
  rw [about] at said
  generalize v.sayCancelled i (cancelReason s.cust.reconCause) = w at said same arb ⊢
  refine ⟨?_, ?_, ?_, ?_, ?_, wants_of_arb arb wants, fun loud => (said ?_).before grown.grown⟩
  · rw [same, docket, put_case_self]; rfl
  · rw [same, docket, put_case_self]; simp [Case.reach, Case.unseated]
  · rw [same, docket, put_case_self]; simp [Case.reach, Case.unseated]
  · rw [same, docket, put_case_self]; simp [Case.reach, Case.unseated]
  · rw [same, docket]; rfl
  · rw [show v.notices.levels = s.notices.levels from congrArg Kept.levels grown.kept]
    exact loud

/-! ### Vacant, Seating and Clearing, and the Cold case (R162, R164) -/

/-- A present tablet is seated, or with the bolt out of place cleared first. -/
structure State.Seats (s t : State) (i : BayIx) (bolt : Bolt) : Prop where
  home : bolt = .retracted → (t.docket.case i).custody = .seating ∧
    (t.docket.case i).seatDue = some (s.kept.now + s.kept.settings.get .seatSettle * 1000)
  away : bolt ≠ .retracted → (t.docket.case i).custody = .clearing ∧ t.Wants i .retract

theorem seats_begun (bare : s.Bare i) (bolt : Bolt) :
    s.Seats (if bolt = .retracted then s.become i .seating else s.clearBay i) i bolt := by
  refine ⟨fun home => ?_, fun away => ?_⟩
  · rw [if_pos home, docket_become s i (by simp), put_case_self]
    exact ⟨rfl, rfl⟩
  · rw [if_neg away]
    refine ⟨?_, wants_clearBay bare⟩
    unfold State.clearBay
    rw [docket_askBolt, docket_become s i (by simp), put_case_self]
    rfl

theorem seats_decideEmpty (bare : s.Bare i) (bolt : Bolt) : s.Seats (s.decideEmpty i true bolt) i bolt := seats_begun bare bolt

theorem seats_decideCold (bare : s.Bare i) (bolt : Bolt) : s.Seats (s.decideCold i true bolt) i bolt := seats_begun bare bolt

/-- An absent tablet leaves the bay Vacant, its bolt called home (R162). -/
theorem decideEmpty_absent (bare : s.Bare i) (bolt : Bolt) :
    ((s.decideEmpty i false bolt).docket.case i).custody = .vacant ∧
    (bolt ≠ .retracted → (s.decideEmpty i false bolt).Wants i .retract) := by
  have docket := docket_become s i (c := .vacant) (by simp)
  have arb := become_arb s i .vacant
  have parts : s.decideEmpty i false bolt = if bolt = .retracted then s.become i .vacant else (s.become i .vacant).askBolt i .retract := rfl
  rw [parts]
  generalize s.become i .vacant = v at docket arb ⊢
  split
  · next home =>
    exact ⟨by rw [docket, put_case_self]; rfl, fun away => absurd home away⟩
  · exact ⟨by rw [docket_askBolt, docket, put_case_self]; rfl, fun _ => wants_askBolt (bare_of_arb arb bare) _⟩

end

end Sys2Proof.Machine


/-! Reconciliation (O34): the decision of a bay (R160). -/

namespace Sys2Proof.Machine

section
variable {j k : Nat} {i : BayIx} {s t u : State} {bolt : Bolt}

/-! ### What every decision leaves -/

theorem tends_foundTaken (s : State) (i : BayIx) (bolt : Bolt) : s.Tends 2 i (s.foundTaken i bolt) :=
  (tends_takeTablet s i ..).trans (tends_leaveEmpty _ i bolt)

theorem tends_foundGone (sound : s.sess.Sound) (i : BayIx) (bolt : Bolt) : s.Tends 3 i (s.foundGone i bolt) := by
  have found := (tends_mismatch s i .absent).trans ((tends_setAsset _ i none none).trans (tends_leaveEmpty _ i bolt))
  have same := (sess_leaveEmpty ((s.mismatch i .absent).setAsset i none none) i bolt).trans (sess_mismatch s i .absent)
  unfold State.foundGone
  dsimp only
  generalize ((s.mismatch i .absent).setAsset i none none).leaveEmpty i bolt = t at found same ⊢
  exact found.trans (tends_tellRemoval (by rw [same]; exact sound.ids) i _)

theorem tends_removeHeld (sound : s.sess.Sound) (i : BayIx) : s.Tends 3 i (s.removeHeld i) := by
  have gone := (tends_dockedOut s i none).trans (tends_become _ i (c := .vacant) (by simp))
  have same := sess_become (s.dockedOut i none) i (c := .vacant) (by simp)
  unfold State.removeHeld
  dsimp only
  generalize (s.dockedOut i none).become i .vacant = t at gone same ⊢
  exact (gone.trans (tends_tellRemoval (by rw [same]; exact sound.ids) i _)).mono (by omega)

theorem tends_loseJammed (sound : s.sess.Sound) (i : BayIx) : s.Tends 3 i (s.loseJammed i) := by
  cases e : (s.bay i).assetId with
  | none =>
    rw [loseJammed_none e]
    exact .refl ..
  | some a =>
    have said : s.Tends 1 i (s.sayTamper i .jammed) := tends_raise ..
    have gone := said.trans ((tends_dockedMissing _ i).trans ((tends_setAsset _ i none none).trans (tends_markGone _ i)))
    have same : ((((s.sayTamper i .jammed).dockedMissing i).setAsset i none none).markGone i).sess = s.sess := sess_raise s ..
    rw [loseJammed_some e]
    generalize (((s.sayTamper i .jammed).dockedMissing i).setAsset i none none).markGone i = t at gone same ⊢
    exact (gone.trans (tends_tellRemoval (by rw [same]; exact sound.ids) i _)).mono (by omega)

theorem tends_decideKept (sound : s.sess.Sound) (i : BayIx) (presence : Bool) (bolt : Bolt) (read : Option AssetId) :
    s.Tends 3 i (s.decideKept i presence bolt read) := by
  unfold State.decideKept
  dsimp only
  split
  · split
    · split
      · exact (tends_become s i (by simp)).mono (by omega)
      · exact (tends_secureBay s i).mono (by omega)
    · exact tends_foundSwapped sound i ..
  · split
    · exact (tends_foundTaken s i bolt).mono (by omega)
    · exact tends_foundGone sound i bolt

theorem tends_decideHeld (sound : s.sess.Sound) (i : BayIx) (presence : Bool) (bolt : Bolt) (read : Option AssetId) :
    s.Tends 3 i (s.decideHeld i presence bolt read) := by
  unfold State.decideHeld
  split
  · split
    · exact (tends_mendHeld s i bolt).mono (by omega)
    · exact tends_foundSwapped sound i ..
  · exact tends_removeHeld sound i

theorem tends_decideEmpty (s : State) (i : BayIx) (presence : Bool) (bolt : Bolt) :
    s.Tends 3 i (s.decideEmpty i presence bolt) := by
  unfold State.decideEmpty
  dsimp only
  split
  · split
    · exact (tends_become s i (by simp)).mono (by omega)
    · exact (tends_clearBay s i).mono (by omega)
  · split
    · exact (tends_become s i (by simp)).mono (by omega)
    · exact ((tends_become s i (by simp)).trans (tends_askBolt _ i _)).mono (by omega)

theorem tends_decideOpen (s : State) (i : BayIx) (presence : Bool) (bolt : Bolt) :
    s.Tends 3 i (s.decideOpen i presence bolt) := by
  unfold State.decideOpen
  split
  · have said : ∀ u : State, u.Tends 1 i (u.sayCancelled i (cancelReason s.cust.reconCause)) := fun u => tends_raise ..
    exact ((tends_dropRelease s i).trans ((tends_secureBay _ i).trans (said _))).mono (by omega)
  · exact (tends_foundTaken s i bolt).mono (by omega)

theorem tends_decideWarm (sound : s.sess.Sound) (i : BayIx) (presence : Bool) (bolt : Bolt) (read : Option AssetId) :
    s.Tends 3 i (s.decideWarm i presence bolt read) := by
  unfold State.decideWarm
  split
  · exact tends_decideKept sound i ..
  · exact tends_decideKept sound i ..
  · exact tends_decideHeld sound i ..
  · exact tends_decideEmpty s i ..
  · exact tends_decideEmpty s i ..
  · exact tends_decideEmpty s i ..
  · exact tends_decideOpen s i ..
  · exact tends_decideOpen s i ..
  · split
    · exact .refl ..
    · exact tends_loseJammed sound i

theorem tends_decideCold (s : State) (i : BayIx) (presence : Bool) (bolt : Bolt) : s.Tends 3 i (s.decideCold i presence bolt) := by
  unfold State.decideCold
  split
  · split
    · exact (tends_become s i (by simp)).mono (by omega)
    · exact (tends_clearBay s i).mono (by omega)
  · exact (tends_leaveEmpty s i bolt).mono (by omega)

/-! ### The decision -/

/-- A bay about to be decided: its queued entry withdrawn, its marks cleared (R160, R68). -/
def State.opened (s : State) (i : BayIx) : State :=
  ((s.dropBolt i).stopSeating i).modBay i fun b => { b with admission := false, recon := .none }

/-- The decision on these reports, without the lamp. -/
def State.verdict (s : State) (i : BayIx) (presence : Bool) (bolt : Bolt) (read : Option AssetId) : State :=
  match s.cust.reconCase with
  | .warm => s.decideWarm i presence bolt read
  | .cold => s.decideCold i presence bolt

theorem decide_eq (s : State) (i : BayIx) (read : Option AssetId) : s.decide i read =
    ((s.opened i).verdict i ((s.bay i).presence = some true) ((s.bay i).bolt.getD .between) read).compareLamp i := rfl

/-- A case with its marks cleared. -/
def Case.opened (a : Case) : Case := { a.unseated with admission := false, recon := .none }

/-- What is known of a state in which the bay is about to be decided. -/
structure State.Opens (s t : State) (i : BayIx) : Prop where
  kept : t.kept = s.kept
  course : t.course = s.course
  docket : t.docket = s.docket.put i (s.docket.case i).opened
  notices : t.notices = s.notices
  sess : t.sess = s.sess
  bare : t.Bare i

theorem opens_opened (s : State) (i : BayIx) : s.Opens (s.opened i) i := by
  have dropped := tends_dropBolt s i
  have docket := docket_dropBolt s i
  have notices := notices_dropBolt s i
  have sess := sess_dropBolt s i
  have bare := bare_dropBolt s i
  unfold State.opened
  generalize s.dropBolt i = t at *
  have kept := (kept_stopSeating t i).trans dropped.kept
  have course : (t.stopSeating i).course = t.course := course_of (ground_stopSeating ..) (hold_stopSeating ..)
  have docket := (docket_stopSeating t i).trans (congrArg (fun d : Docket => d.put i (d.case i).unseated) docket)
  have notices := (notices_stopSeating t i).trans notices
  have sess := (sess_stopSeating t i).trans sess
  have bare := bare_of_arb (stopSeating_arb t i) bare
  generalize t.stopSeating i = u at *
  refine ⟨kept, course.trans dropped.course, ?_, notices, sess, bare_of_arb rfl bare⟩
  rw [docket_modBay, docket, put_put]
  refine congrArg (s.docket.put i) ?_
  have own : (u.bay i).case = (s.docket.case i).unseated := (congrFun (congrArg Docket.case docket) i).trans (by simp)
  exact congrArg (fun a : Case => { a with admission := false, recon := .none }) own

/-- What every decision leaves: the other bays' cases, and of its own bay the display; its marks are cleared. -/
structure State.Decided (k : Nat) (i : BayIx) (s t : State) : Prop where
  kept : t.kept = s.kept
  link : (t.docket.case i).link = (s.docket.case i).link
  lamp : (t.docket.case i).lampShown = (s.docket.case i).lampShown
  display : (t.docket.case i).displayDue = (s.docket.case i).displayDue
  recon : (t.docket.case i).recon = .none
  admission : (t.docket.case i).admission = false
  others : ∀ j, j ≠ i → t.docket.case j = s.docket.case j
  grown : s.notices.Grown k t.notices

theorem tends_verdict (sound : s.sess.Sound) (i : BayIx) (presence : Bool) (bolt : Bolt) (read : Option AssetId) :
    s.Tends 3 i (s.verdict i presence bolt read) := by
  unfold State.verdict
  split
  · exact tends_decideWarm sound i ..
  · exact tends_decideCold s i ..

theorem course_decide (sound : s.sess.Sound) (i : BayIx) (read : Option AssetId) : (s.decide i read).course = s.course := by
  have opens := opens_opened s i
  rw [decide_eq]
  exact (course_compareLamp ..).trans ((tends_verdict (opens.sess ▸ sound) i _ _ read).course.trans opens.course)

theorem decided_verdict (sound : s.sess.Sound) (i : BayIx) (presence : Bool) (bolt : Bolt) (read : Option AssetId) :
    s.Decided 3 i ((s.opened i).verdict i presence bolt read) := by
  have opens := opens_opened s i
  generalize s.opened i = p at opens ⊢
  have tends := tends_verdict (s := p) (opens.sess ▸ sound) i presence bolt read
  obtain ⟨kept, -, own, others, grown⟩ := tends
  rw [opens.docket, put_case_self] at own
  refine ⟨kept.trans opens.kept, own.link, own.lamp, own.display, own.recon, own.admission rfl,
    fun j ne => ?_, opens.notices ▸ grown⟩
  rw [others j ne, opens.docket, put_case_ne _ ne]

end

end Sys2Proof.Machine


/-! Reconciliation (O34): the decision of a bay whose tablet needs no read, or is absent, as a table (R161 to R164). -/

namespace Sys2Proof.Machine

section
variable {j k : Nat} {i : BayIx} {s t u : State} {bolt : Bolt} {here : Bool}

/-! ### A state read by a decision in the place of another -/

/-- What of a state a decision reads is the same in another. -/
structure State.Alike (s t : State) (i : BayIx) : Prop where
  kept : t.kept = s.kept
  course : t.course = s.course
  roster : t.docket.roster = s.docket.roster
  custody : (t.docket.case i).custody = (s.docket.case i).custody
  asset : (t.docket.case i).assetId = (s.docket.case i).assetId
  standing : (t.docket.case i).standing = (s.docket.case i).standing
  release : (t.docket.case i).release = (s.docket.case i).release
  notices : t.notices = s.notices
  sess : t.sess = s.sess

theorem State.Opens.alike (h : s.Opens t i) : s.Alike t i where
  kept := h.kept
  course := h.course
  roster := by rw [h.docket]; rfl
  custody := by rw [h.docket, put_case_self]; rfl
  asset := by rw [h.docket, put_case_self]; rfl
  standing := by rw [h.docket, put_case_self]; rfl
  release := by rw [h.docket, put_case_self]; rfl
  notices := h.notices
  sess := h.sess

section
variable (alike : s.Alike t i)
include alike

theorem State.Alike.about (n : NoticeKind) (value : Option Nat) (why : Reason) : t.about i n value why = s.about i n value why := by
  unfold State.about
  rw [alike.kept, alike.asset, alike.notices]

theorem State.Says.of_alike {r : Notice} (h : t.Says k u r) : s.Says k u r := ⟨alike.notices ▸ h.grown, alike.notices ▸ h.mem⟩

theorem State.Alike.said {n : NoticeKind} {value : Option Nat} {why : Reason}
    (h : t.notices.levels.get n ≠ 0 → t.Says k u (t.about i n value why)) (loud : s.notices.levels.get n ≠ 0) :
    s.Says k u (s.about i n value why) :=
  alike.about n value why ▸ (h (alike.notices ▸ loud)).of_alike alike

theorem State.Taken.of_alike (h : t.Taken k u i bolt) : s.Taken k u i bolt where
  empty := h.empty
  roster := by rw [← alike.release, ← alike.kept, ← alike.roster]; exact h.roster
  asset := h.asset
  standing := h.standing
  release := h.release
  said := alike.said h.said

theorem State.Gone.of_alike {st : EntryState} (h : t.Gone u i st) : s.Gone u i st where
  roster := by rw [← alike.kept, ← alike.roster]; exact h.roster
  asset := h.asset
  standing := h.standing
  told := h.told.before alike.sess

theorem State.Swapped.of_alike {r : HeldReason} {read : Option AssetId} (h : t.Swapped k u i bolt r read) :
    s.Swapped k u i bolt r read where
  custody := h.custody
  roster := by rw [← alike.kept, ← alike.roster]; exact h.roster
  asset := h.asset
  standing := by rw [← stranger_of_kept alike.kept]; exact h.standing
  release := h.release
  told := h.told.before alike.sess
  said := alike.said h.said
  asks := h.asks

theorem State.Withdrawn.of_alike (h : t.Withdrawn k u i) : s.Withdrawn k u i where
  custody := h.custody
  release := h.release
  asset := h.asset.trans alike.asset
  standing := h.standing.trans alike.standing
  roster := h.roster.trans alike.roster
  asks := h.asks
  said := by rw [← cause_of_course alike.course]; exact alike.said h.said

theorem State.Seats.of_alike (h : t.Seats u i bolt) : s.Seats u i bolt where
  home := by rw [← alike.kept]; exact h.home
  away := h.away
end

/-! ### What follows a decision -/

section
variable (rest : t.Follows j u)
include rest

theorem State.LeftEmpty.follows (h : t.LeftEmpty i bolt) : u.LeftEmpty i bolt :=
  h.after (by rw [rest.docket]) (rest.asks i .retract)

theorem State.Taken.follows (h : s.Taken k t i bolt) : s.Taken (k + j) u i bolt where
  empty := h.empty.follows rest
  roster := by rw [rest.docket]; exact h.roster
  asset := by rw [rest.docket]; exact h.asset
  standing := by rw [rest.docket]; exact h.standing
  release := by rw [rest.docket]; exact h.release
  said loud := (h.said loud).after rest.grown

theorem State.Swapped.follows {r : HeldReason} {read : Option AssetId} (h : s.Swapped k t i bolt r read) :
    s.Swapped (k + j) u i bolt r read where
  custody := by rw [rest.docket]; exact h.custody
  roster := by rw [rest.docket]; exact h.roster
  asset := by rw [rest.docket]; exact h.asset
  standing := by rw [rest.docket]; exact h.standing
  release := by rw [rest.docket]; exact h.release
  told := h.told.after rest
  said loud := (h.said loud).after rest.grown
  asks away := rest.asks i _ (h.asks away)

theorem State.Withdrawn.follows (h : s.Withdrawn k t i) : s.Withdrawn (k + j) u i where
  custody := by rw [rest.docket]; exact h.custody
  release := by rw [rest.docket]; exact h.release
  asset := by rw [rest.docket]; exact h.asset
  standing := by rw [rest.docket]; exact h.standing
  roster := by rw [rest.docket]; exact h.roster
  asks := rest.asks i _ h.asks
  said loud := (h.said loud).after rest.grown

theorem State.Seats.follows (h : s.Seats t i bolt) : s.Seats u i bolt where
  home := by rw [rest.docket]; exact h.home
  away away := ⟨by rw [rest.docket]; exact (h.away away).1, rest.asks i _ (h.away away).2⟩

theorem State.Decided.follows (h : s.Decided k i t) : s.Decided (k + j) i u where
  kept := rest.kept.trans h.kept
  link := by rw [rest.docket]; exact h.link
  lamp := by rw [rest.docket]; exact h.lamp
  display := by rw [rest.docket]; exact h.display
  recon := by rw [rest.docket]; exact h.recon
  admission := by rw [rest.docket]; exact h.admission
  others := by rw [rest.docket]; exact h.others
  grown := h.grown.trans rest.grown
end

/-! ### The table -/

/-- The asset field and the roster stand. -/
structure State.KeepsAsset (s t : State) (i : BayIx) : Prop where
  asset : (t.docket.case i).assetId = (s.docket.case i).assetId
  standing : (t.docket.case i).standing = (s.docket.case i).standing
  roster : t.docket.roster = s.docket.roster

/-- The decision of a bay whose tablet is reported present or absent and is not read, by its case and its custody state
(R161, R162, R164). -/
structure State.Ruled (k : Nat) (s t : State) (i : BayIx) (here : Bool) (bolt : Bolt) : Prop where
  seats : s.cust.reconCase = .cold ∨ (s.docket.case i).custody ∈ [.vacant, .seating, .clearing] → here = true → s.Seats t i bolt
  cold : s.cust.reconCase = .cold → here = false → t.LeftEmpty i bolt
  empty : s.cust.reconCase = .warm → (s.docket.case i).custody ∈ [.vacant, .seating, .clearing] → here = false →
    (t.docket.case i).custody = .vacant ∧ (bolt ≠ .retracted → t.Wants i .retract)
  withdrawn : s.cust.reconCase = .warm → (s.docket.case i).custody ∈ [.releasing, .released] → here = true → s.Withdrawn k t i
  taken : s.cust.reconCase = .warm → (s.docket.case i).custody ∈ [.releasing, .released] ∨
    ((s.docket.case i).custody = .securing ∧ (s.docket.case i).release.any (·.late) = true) → here = false →
    s.Taken k t i bolt
  gone : s.cust.reconCase = .warm → (s.docket.case i).custody = .locked ∨
    ((s.docket.case i).custody = .securing ∧ (s.docket.case i).release.any (·.late) = false) → here = false →
    t.LeftEmpty i bolt ∧ s.Gone t i .missing ∧
      (s.notices.levels.get .custodyMismatch ≠ 0 → s.Says k t (s.about i .custodyMismatch none .absent))
  removed : s.cust.reconCase = .warm → (∃ r, (s.docket.case i).custody = .held r) → here = false →
    (t.docket.case i).custody = .vacant ∧ s.Gone t i .out
  jammed : s.cust.reconCase = .warm → (∃ d o, (s.docket.case i).custody = .jammed d o) →
    (t.docket.case i).custody = (s.docket.case i).custody ∧
    (here = true ∨ (s.docket.case i).assetId = none → s.KeepsAsset t i) ∧
    (here = false → (s.docket.case i).assetId ≠ none → s.Gone t i .missing ∧
      (s.notices.levels.get .tamper ≠ 0 → s.Says k t (s.about i .tamper none .jammed)))

theorem late_eq (b : Bay) : b.late = b.release.any (·.late) := by
  unfold Bay.late
  cases b.release <;> rfl

theorem State.Says.mono {r : Notice} (h : s.Says j t r) (le : j ≤ k) : s.Says k t r :=
  ⟨h.grown.mono le, fun room => h.mem (by omega)⟩

theorem State.Ruled.of_alike (alike : s.Alike t i) (h : t.Ruled k u i here bolt) : s.Ruled k u i here bolt where
  seats own present := (h.seats (by rw [case_of_course alike.course, alike.custody]; exact own) present).of_alike alike
  cold own := h.cold ((case_of_course alike.course).trans own)
  empty warm own := h.empty ((case_of_course alike.course).trans warm) (by rw [alike.custody]; exact own)
  withdrawn warm own present :=
    (h.withdrawn ((case_of_course alike.course).trans warm) (by rw [alike.custody]; exact own) present).of_alike alike
  taken warm own absent :=
    (h.taken ((case_of_course alike.course).trans warm) (by rw [alike.custody, alike.release]; exact own) absent).of_alike alike
  gone warm own absent := by
    obtain ⟨empty, gone, said⟩ :=
      h.gone ((case_of_course alike.course).trans warm) (by rw [alike.custody, alike.release]; exact own) absent
    exact ⟨empty, gone.of_alike alike, alike.said said⟩
  removed warm own absent := by
    obtain ⟨vacant, gone⟩ := h.removed ((case_of_course alike.course).trans warm) (by rw [alike.custody]; exact own) absent
    exact ⟨vacant, gone.of_alike alike⟩
  jammed warm own := by
    obtain ⟨same, keeps, lost⟩ := h.jammed ((case_of_course alike.course).trans warm) (by rw [alike.custody]; exact own)
    rw [alike.asset] at keeps lost
    refine ⟨same.trans alike.custody, fun e => ?_, fun absent e => ?_⟩
    · obtain ⟨asset, standing, roster⟩ := keeps e
      exact ⟨asset.trans alike.asset, standing.trans alike.standing, roster.trans alike.roster⟩
    · obtain ⟨gone, said⟩ := lost absent e
      exact ⟨gone.of_alike alike, alike.said said⟩

theorem State.Ruled.follows (h : s.Ruled k t i here bolt) (rest : t.Follows j u) : s.Ruled (k + j) u i here bolt where
  seats own present := (h.seats own present).follows rest
  cold own absent := (h.cold own absent).follows rest
  empty warm own absent := by
    obtain ⟨vacant, asks⟩ := h.empty warm own absent
    exact ⟨by rw [rest.docket]; exact vacant, fun away => rest.asks i _ (asks away)⟩
  withdrawn warm own present := (h.withdrawn warm own present).follows rest
  taken warm own absent := (h.taken warm own absent).follows rest
  gone warm own absent := by
    obtain ⟨empty, gone, said⟩ := h.gone warm own absent
    exact ⟨empty.follows rest, gone.after rest, fun loud => (said loud).after rest.grown⟩
  removed warm own absent := by
    obtain ⟨vacant, gone⟩ := h.removed warm own absent
    exact ⟨by rw [rest.docket]; exact vacant, gone.after rest⟩
  jammed warm own := by
    obtain ⟨same, keeps, lost⟩ := h.jammed warm own
    refine ⟨by rw [rest.docket]; exact same, fun e => ?_, fun absent e => ?_⟩
    · obtain ⟨asset, standing, roster⟩ := keeps e
      exact ⟨by rw [rest.docket]; exact asset, by rw [rest.docket]; exact standing, by rw [rest.docket]; exact roster⟩
    · obtain ⟨gone, said⟩ := lost absent e
      exact ⟨gone.after rest, fun loud => (said loud).after rest.grown⟩

/-! ### The decision follows the table -/

theorem verdict_cold (h : s.cust.reconCase = .cold) (presence : Bool) (read : Option AssetId) :
    s.verdict i presence bolt read = s.decideCold i presence bolt := by
  unfold State.verdict
  rw [h]

theorem verdict_warm (h : s.cust.reconCase = .warm) (presence : Bool) (read : Option AssetId) :
    s.verdict i presence bolt read = s.decideWarm i presence bolt read := by
  unfold State.verdict
  rw [h]

section
variable {presence : Bool} {read : Option AssetId}

theorem decideWarm_empty (h : (s.docket.case i).custody ∈ [.vacant, .seating, .clearing]) :
    s.decideWarm i presence bolt read = s.decideEmpty i presence bolt := by
  have own : (s.bay i).custody ∈ [.vacant, .seating, .clearing] := h
  unfold State.decideWarm
  simp only [List.mem_cons, List.not_mem_nil, or_false] at own
  rcases own with e | e | e <;> rw [e]

theorem decideWarm_open (h : (s.docket.case i).custody ∈ [.releasing, .released]) :
    s.decideWarm i presence bolt read = s.decideOpen i presence bolt := by
  have own : (s.bay i).custody ∈ [.releasing, .released] := h
  unfold State.decideWarm
  simp only [List.mem_cons, List.not_mem_nil, or_false] at own
  rcases own with e | e <;> rw [e]

theorem decideWarm_kept (h : (s.docket.case i).custody = .locked ∨ (s.docket.case i).custody = .securing) :
    s.decideWarm i presence bolt read = s.decideKept i presence bolt read := by
  have own : (s.bay i).custody = .locked ∨ (s.bay i).custody = .securing := h
  unfold State.decideWarm
  rcases own with e | e <;> rw [e]

theorem decideWarm_held {r : HeldReason} (h : (s.docket.case i).custody = .held r) :
    s.decideWarm i presence bolt read = s.decideHeld i presence bolt read := by
  have own : (s.bay i).custody = .held r := h
  unfold State.decideWarm
  rw [own]

theorem decideWarm_jammed {d : Dir} {o : JamOrigin} (h : (s.docket.case i).custody = .jammed d o) :
    s.decideWarm i presence bolt read = if presence then s else s.loseJammed i := by
  have own : (s.bay i).custody = .jammed d o := h
  unfold State.decideWarm
  rw [own]

theorem decideKept_absent (s : State) (i : BayIx) (bolt : Bolt) (read : Option AssetId) :
    s.decideKept i false bolt read =
      if (s.bay i).custody = .securing ∧ (s.bay i).late then s.foundTaken i bolt else s.foundGone i bolt := rfl
end

theorem State.Taken.mono (h : s.Taken j t i bolt) (le : j ≤ k) : s.Taken k t i bolt :=
  ⟨h.empty, h.roster, h.asset, h.standing, h.release, fun loud => (h.said loud).mono le⟩

theorem State.Withdrawn.mono (h : s.Withdrawn j t i) (le : j ≤ k) : s.Withdrawn k t i :=
  ⟨h.custody, h.release, h.asset, h.standing, h.roster, h.asks, fun loud => (h.said loud).mono le⟩

theorem ruled_verdict (sound : s.sess.Sound) (bare : s.Bare i) (here : Bool) (bolt : Bolt) (read : Option AssetId) :
    s.Ruled 3 (s.verdict i here bolt read) i here bolt where
  seats own present := by
    subst present
    cases e : s.cust.reconCase with
    | cold =>
      rw [verdict_cold e]
      exact seats_decideCold bare bolt
    | warm =>
      rw [verdict_warm e, decideWarm_empty (own.resolve_left (by simp [e]))]
      exact seats_decideEmpty bare bolt
  cold own absent := by
    subst absent
    rw [verdict_cold own]
    exact leftEmpty_leaveEmpty bare bolt
  empty warm own absent := by
    subst absent
    rw [verdict_warm warm, decideWarm_empty own]
    exact decideEmpty_absent bare bolt
  withdrawn warm own present := by
    subst present
    rw [verdict_warm warm, decideWarm_open own]
    exact (withdrawn_decideOpen s i bolt).mono (by omega)
  taken warm own absent := by
    subst absent
    rw [verdict_warm warm]
    obtain open_ | ⟨securing, late⟩ := own
    · rw [decideWarm_open open_]
      exact (taken_foundTaken bare bolt).mono (by omega)
    · rw [decideWarm_kept (.inr securing), decideKept_absent, if_pos ⟨securing, (late_eq _).trans late⟩]
      exact (taken_foundTaken bare bolt).mono (by omega)
  gone warm own absent := by
    subst absent
    have kept : ¬((s.bay i).custody = .securing ∧ (s.bay i).late = true) := by
      rintro ⟨securing, late⟩
      obtain locked | ⟨-, early⟩ := own
      · exact absurd (locked.symm.trans securing) (by simp)
      · exact absurd (early.symm.trans ((late_eq _).symm.trans late)) (by simp)
    rw [verdict_warm warm, decideWarm_kept (own.imp_right And.left), decideKept_absent, if_neg kept]
    exact foundGone_spec sound bare bolt
  removed warm own absent := by
    subst absent
    obtain ⟨r, held⟩ := own
    rw [verdict_warm warm, decideWarm_held held]
    exact removeHeld_spec sound i
  jammed warm own := by
    obtain ⟨d, o, jam⟩ := own
    rw [verdict_warm warm, decideWarm_jammed jam]
    cases here with
    | true => exact ⟨rfl, fun _ => ⟨rfl, rfl, rfl⟩, fun absent => absurd absent (by simp)⟩
    | false =>
      rw [if_neg (by simp)]
      cases e : (s.bay i).assetId with
      | none =>
        rw [loseJammed_none e]
        exact ⟨rfl, fun _ => ⟨rfl, rfl, rfl⟩, fun _ some => absurd e some⟩
      | some a =>
        obtain ⟨same, gone, said⟩ := loseJammed_spec sound e
        refine ⟨same, fun keeps => ?_, fun _ _ => ⟨gone, fun loud => (said loud).mono (by omega)⟩⟩
        have held : (s.docket.case i).assetId = some a := e
        exact absurd (keeps.resolve_left (by simp)) (by rw [held]; simp)

end

end Sys2Proof.Machine


/-! Reconciliation (O34): the rest of a report's event after the decision (R24, R76, R143). -/

namespace Sys2Proof.Machine

section
variable {j k : Nat} {i : BayIx} {s t u : State}

/-! ### The charge part of a report leaves what waits -/

theorem keeps_dispatch (s : State) : s.Keeps s.dispatch := keeps_shared (shared_dispatch s)
theorem keeps_refreshShare (s : State) (i : BayIx) : s.Keeps (s.refreshShare i) := keeps_shared (shared_refreshShare s i)
theorem keeps_modBay (s : State) (i : BayIx) (f : Bay → Bay) : s.Keeps (s.modBay i f) := .of_loop rfl

theorem keeps_takeOverdraw (s : State) (i : BayIx) (why : Reason) : s.Keeps (s.takeOverdraw i why) := by
  unfold State.takeOverdraw
  dsimp only
  exact (keeps_modBay s i _).trans ((keeps_faultGrant ..).trans ((keeps_raise ..).trans (keeps_leaveReady ..)))

theorem keeps_takeHot (s : State) (i : BayIx) : s.Keeps (s.takeHot i) := by
  unfold State.takeHot
  dsimp only
  exact (keeps_modBay s i _).trans ((keeps_faultGrant ..).trans ((keeps_raise ..).trans (keeps_leaveReady ..)))

theorem keeps_testOverdraw (s : State) (i : BayIx) : s.Keeps (s.testOverdraw i) := by
  unfold State.testOverdraw
  dsimp only
  exact .ite (.refl s) (.ite (.ite (keeps_takeOverdraw ..) (keeps_modBay ..)) (keeps_modBay ..))

theorem keeps_testShort (s : State) (i : BayIx) : s.Keeps (s.testShort i) := .ite (keeps_takeOverdraw ..) (.refl s)

theorem keeps_testHot (s : State) (i : BayIx) : s.Keeps (s.testHot i) := by
  unfold State.testHot
  dsimp only
  have timed := keeps_modBay s i fun b => { b with hotTime := some s.retained.seconds }
  have cooled : s.Keeps (s.modBay i fun b => { b with hot := false }).markPending := .of_loop rfl
  exact .ite (.ite timed (timed.trans (keeps_takeHot ..))) (.ite cooled (.refl s))

theorem keeps_storeCharge (s : State) (i : BayIx) (b : Block) : s.Keeps (s.storeCharge i b) := by
  unfold State.storeCharge
  exact (keeps_setGrants ..).trans (keeps_modBay ..)

theorem keeps_applyCharge (s : State) (i : BayIx) (b : Block) : s.Keeps (s.applyCharge i b) := by
  unfold State.applyCharge
  dsimp only
  have shared := (keeps_storeCharge s i b).trans ((keeps_testOverdraw _ i).trans ((keeps_testShort _ i).trans
    ((keeps_testHot _ i).trans (keeps_refreshShare _ i))))
  exact .ite (shared.trans (keeps_dispatch _)) shared

/-! ### The rest of the report -/

/-- What the rest of a report leaves of the decision, before the end of the event. -/
structure State.Reported (k : Nat) (i : BayIx) (s t : State) : Prop where
  follows : s.Follows k t
  course : t.course = s.course
  mem : ∀ y ∈ s.loop.unsent, y.client = .custody → (∀ j c, y ≠ .lamp j c) → y ∈ t.loop.unsent
  lamp : s.cust.reconActive = false → s.loop.onLoop = none → (s.docket.case i).recon = .none →
    (s.docket.case i).lampShown = some .off → (s.docket.case i).link = .linked → t.lampColour i ≠ .off →
    .lamp i (t.lampColour i) ∈ t.loop.unsent

theorem reported_compareLamp (follows : s.Follows k t) (course : t.course = s.course) (keeps : s.Keeps t) (i : BayIx) :
    s.Reported k i (t.compareLamp i) where
  follows := follows.trans (follows_compareLamp t i)
  course := (course_compareLamp t i).trans course
  mem y mem own lamp := (shows_compareLamp t i).mem y (keeps.mem y mem own) own fun j c e => absurd e (lamp j c)
  lamp idle free decided off linked colour := by
    have shows := shows_compareLamp t i
    have same := case_of_docket follows.docket i
    rw [shows.colours] at colour ⊢
    refine lamp_compared ⟨?_, ?_, ?_, ?_, ?_⟩ colour
    · exact (active_of_course course).trans idle
    · exact (congrArg Case.recon same).trans decided
    · exact (congrArg Case.lampShown same).trans off
    · exact (congrArg Case.link same).trans linked
    · exact onLoop_of_course course free

/-- A step that the lamps and the placements do not read. -/
theorem State.Reported.of_eq (h : s.Reported k i t) (follows : t.Follows 0 u) (course : u.course = t.course)
    (unsent : u.loop.unsent = t.loop.unsent) (colours : ∀ j, u.lampColour j = t.lampColour j) : s.Reported k i u where
  follows := h.follows.trans follows
  course := course.trans h.course
  mem y mem own lamp := by rw [unsent]; exact h.mem y mem own lamp
  lamp idle free decided off linked colour := by
    rw [unsent, colours]
    exact h.lamp idle free decided off linked (colours i ▸ colour)

/-- The rest of a STATUS answered OK. -/
theorem reported_charge (s : State) (i : BayIx) (b : Block) : s.Reported 6 i ((s.applyCharge i b).compareLamp i) :=
  reported_compareLamp (follows_applyCharge s i b) (course_applyCharge s i b) (keeps_applyCharge s i b) i

theorem reported_scan (h : s.Reported k i t) : s.Reported k i t.scanTold :=
  h.of_eq (follows_scanTold t) rfl rfl fun _ => rfl

/-! ### The end of the event -/

/-- What the whole of the event after the decision leaves, where reconciliation goes on. -/
theorem reported_settle (h : s.Reported k i t) (drain : s.power.drain = none) (on : t.GoesOn) :
    s.Follows (k + 1) t.settle ∧
    (∀ y ∈ s.loop.unsent, y.client = .custody → (∀ j c, y ≠ .lamp j c) → y ∈ t.settle.loop.unsent) ∧
    (s.cust.reconActive = false → s.loop.onLoop = none → (s.docket.case i).recon = .none →
      (s.docket.case i).lampShown = some .off → (s.docket.case i).link = .linked → t.settle.lampColour i ≠ .off →
      .lamp i (t.settle.lampColour i) ∈ t.settle.loop.unsent) := by
  have idle : t.power.drain = none := by rw [power_of_course h.course]; exact drain
  have shows := shows_settle idle on
  refine ⟨h.follows.trans (follows_settle idle (.inl on)), fun y mem own lamp => ?_, fun idle free decided off linked colour => ?_⟩
  · exact shows.mem y (h.mem y mem own lamp) own fun j c e => absurd e (lamp j c)
  · rw [shows.colours] at colour ⊢
    exact shows.mem _ (h.lamp idle free decided off linked colour) rfl fun j c e => by cases e; rfl

end

end Sys2Proof.Machine


/-! Reconciliation (O34): a STATUS answered OK at a bay that waits (R160). -/

namespace Sys2Proof.Machine

section
variable {j k : Nat} {i : BayIx} {s t u : State}

/-! ### The report stored -/

/-- The bay heard, its presence and bolt position stored (R56, R140). -/
def State.stored (s : State) (i : BayIx) (b : Block) : State :=
  (s.modBay i fun x => { x with miss := 0 }).modBay i fun x =>
    { x with presence := some b.presence, bolt := some b.bolt, gone := x.gone && !b.presence }

theorem bay_stored (s : State) (i : BayIx) (b : Block) : (s.stored i b).bay i =
    { s.bay i with miss := 0, presence := some b.presence, bolt := some b.bolt, gone := (s.bay i).gone && !b.presence } := by
  simp [State.stored]

theorem follows_stored (s : State) (i : BayIx) (b : Block) : s.Follows 0 (s.stored i b) := by
  unfold State.stored
  exact (follows_modBay s i (fun x => { x with miss := 0 }) rfl).trans (follows_modBay _ i (fun x =>
    { x with presence := some b.presence, bolt := some b.bolt, gone := x.gone && !b.presence }) rfl)

theorem alike_stored (s : State) (i : BayIx) (b : Block) : s.Alike (s.stored i b) i := by
  have rest := follows_stored s i b
  refine ⟨rest.kept, rfl, ?_, ?_, ?_, ?_, ?_, rfl, rfl⟩
  · rw [rest.docket]
  · rw [rest.docket]
  · rw [rest.docket]
  · rw [rest.docket]
  · rw [rest.docket]

/-! ### The event -/

/-- A STATUS answered OK, of reconciliation or of the scan: the report met by the bay that waits, and the rest of the
event (R143, R160). -/
theorem report_eq (awake : s.resetHeld = false) {o : OnLoop} (onLoop : s.loop.onLoop = some o)
    (txn : o.txn = .recon i ∨ o.txn = .scan i) (marked : (s.bay i).recon ≠ .none) (linked : (s.bay i).link = .linked)
    {resp : List Byte} {a : Answer} (valid : answer? o.txn resp = some a) (ok : a.result = .ok) (key : Bool) :
    ∃ t, exec (.status resp key) s = .next t.settle ∧
      (((s.idled key).stored i a.block).reconReport i).Reported 6 i t := by
  have bay : o.txn.bay? = some i := by rcases txn with e | e <;> rw [e] <;> rfl
  have op : o.txn.opCode = 0x04 := by rcases txn with e | e <;> rw [e] <;> rfl
  have heard : (s.idled key).linkOf o.txn (.answer a) = (s.idled key).modBay i fun x => { x with miss := 0 } := by
    unfold State.linkOf
    rw [bay]
    exact if_neg (by rw [show ((s.idled key).bay i).link = .linked from linked]; simp)
  have report : ((s.idled key).modBay i fun x => { x with miss := 0 }).custodyReport i a.block =
      ((s.idled key).stored i a.block).reconReport i := by
    refine if_neg ?_
    have same : (((s.idled key).stored i a.block).bay i).recon = (s.bay i).recon := by rw [bay_stored]; rfl
    exact fun e => marked (same.symm.trans e)
  have shared : ∀ u : State, u.shareOut o.txn (.answer a) = u.distribute i a.block := fun u => by
    unfold State.shareOut
    rw [bay]
    exact if_pos ⟨op, ok⟩
  have charged := reported_charge (((s.idled key).stored i a.block).reconReport i) i a.block
  refine ⟨_, status_eq awake onLoop bay op valid key, ?_⟩
  unfold State.ended
  rw [heard, shared]
  unfold State.distribute
  rw [report]
  generalize ((s.idled key).stored i a.block).reconReport i = r at charged ⊢
  generalize (r.applyCharge i a.block).compareLamp i = w at charged ⊢
  rcases txn with e | e
  · have told : w.told (.recon i) o.stale (.answer a) = w := by
      show w.reconTold i (.answer a) = w
      unfold State.reconTold
      split
      · rfl
      · rfl
      · exact if_pos ok
    rw [e, told]
    exact charged
  · rw [e]
    exact reported_scan charged

/-! ### Whether reconciliation goes on -/

theorem isPending_of_recon {a b : Bay} (h : b.recon = a.recon) : b.isPending = a.isPending := by
  unfold Bay.isPending
  rw [h]

theorem goesOn_of {x : BayIx} (active : s.cust.reconActive = false ∨ (s.bay x).isPending = true)
    (course : t.course = s.course) (recon : (t.docket.case x).recon = (s.docket.case x).recon) : t.GoesOn :=
  active.imp (fun idle => (active_of_course course).trans idle) fun pending =>
    ⟨x, (isPending_of_recon (show (t.bay x).recon = (s.bay x).recon from recon)).trans pending⟩

/-! ### A tag read begun (R161) -/

/-- The report of a present tablet that needs a read (R161). -/
structure State.Reading (s t : State) (i : BayIx) : Prop where
  kept : t.kept = s.kept
  course : t.course = s.course
  docket : t.docket = s.docket.put i { s.docket.case i with tagTries := (t.docket.case i).tagTries }
  first : (s.docket.case i).tagTries = 0 → (t.docket.case i).tagTries = 1 ∧ .tag i true ∈ t.loop.unsent
  later : (s.docket.case i).tagTries ≠ 0 → (t.docket.case i).tagTries = (s.docket.case i).tagTries

theorem reading_reconReport (here : (s.bay i).presence = some true) (warm : s.cust.reconCase = .warm)
    (tag : wantsTag (s.bay i).custody = true) : s.Reading (s.reconReport i) i := by
  unfold State.reconReport
  dsimp only
  rw [if_pos ⟨here, warm, tag⟩]
  by_cases first : (s.bay i).tagTries = 0
  · rw [if_pos first]
    have put := docket_modBay s i fun b => { b with tagTries := 1 }
    have kept : (s.modBay i fun b => { b with tagTries := 1 }).kept = s.kept := kept_modBay ..
    have course : (s.modBay i fun b => { b with tagTries := 1 }).course = s.course := course_modBay ..
    generalize (s.modBay i fun b => { b with tagTries := 1 }) = u at put kept course ⊢
    have docket := (docket_place u (.tag i true)).trans put
    have tries : ((u.place (.tag i true)).docket.case i).tagTries = 1 := by rw [docket, put_case_self]; rfl
    refine ⟨(kept_place ..).trans kept, (course_place ..).trans course, ?_, fun _ => ⟨tries, ?_⟩, fun later => absurd first later⟩
    · rw [tries, docket]
      rfl
    · exact mem_place_self u (by simp [Txn.client])
  · rw [if_neg first]
    exact ⟨rfl, rfl, (put_self s.docket i).symm, fun e => absurd e first, fun _ => rfl⟩

/-! ### The bay decided -/

theorem reconReport_decide (h : ¬((s.bay i).presence = some true ∧ s.cust.reconCase = .warm ∧ wantsTag (s.bay i).custody = true)) :
    s.reconReport i = s.decide i none := if_neg h

theorem State.Decided.of_docket (h : t.Decided k i u) (kept : t.kept = s.kept) (docket : t.docket = s.docket)
    (notices : t.notices = s.notices) : s.Decided k i u where
  kept := h.kept.trans kept
  link := by rw [← docket]; exact h.link
  lamp := by rw [← docket]; exact h.lamp
  display := by rw [← docket]; exact h.display
  recon := h.recon
  admission := h.admission
  others := by rw [← docket]; exact h.others
  grown := notices ▸ h.grown

/-- The decision of a bay on its stored report, with what follows. -/
theorem decided_report (sound : s.sess.Sound) (b : Block) (read : Option AssetId)
    (rest : ((s.stored i b).decide i read).Follows k t) :
    s.Decided (3 + (0 + k)) i t ∧ s.Ruled (3 + (0 + k)) t i b.presence b.bolt := by
  have alike := alike_stored s i b
  have docket := (follows_stored s i b).docket
  have presence : decide (((s.stored i b).bay i).presence = some true) = b.presence := by rw [bay_stored]; simp
  have bolt : (((s.stored i b).bay i).bolt.getD .between) = b.bolt := by rw [bay_stored]; rfl
  rw [decide_eq, presence, bolt] at rest
  generalize s.stored i b = v at *
  have decided := decided_verdict (s := v) (alike.sess ▸ sound) i b.presence b.bolt read
  have opens := opens_opened v i
  have ruled := ruled_verdict (s := v.opened i) (opens.sess ▸ alike.sess ▸ sound) opens.bare b.presence b.bolt read
  have ruled := (ruled.of_alike opens.alike).of_alike alike
  have decided := decided.of_docket alike.kept docket alike.notices
  generalize (v.opened i).verdict i b.presence b.bolt read = w at *
  have after := (follows_compareLamp w i).trans rest
  exact ⟨decided.follows after, ruled.follows after⟩

end

end Sys2Proof.Machine


/-! Reconciliation (O34): the end of the event of a report (R160, R161, R165). -/

namespace Sys2Proof.Machine

section
variable {j k : Nat} {i : BayIx} {s t u : State} {b : Block}

/-- Reconciliation goes on without the bay. -/
def State.GoesOnWithout (s : State) (i : BayIx) : Prop :=
  s.cust.reconActive = false ∨ ∃ j, j ≠ i ∧ (s.bay j).isPending = true

theorem goesOn_others (h : s.GoesOnWithout i) (course : t.course = s.course)
    (others : ∀ j, j ≠ i → (t.docket.case j).recon = (s.docket.case j).recon) : t.GoesOn := by
  obtain idle | ⟨x, ne, pending⟩ := h
  · exact .inl ((active_of_course course).trans idle)
  · exact goesOn_of (.inr pending) course (others x ne)

/-! ### A tag read begun -/

/-- The event of a report of a present tablet that needs a read. -/
theorem reading_settle (drain : s.power.drain = none) (here : b.presence = true) (warm : s.cust.reconCase = .warm)
    (tag : wantsTag (s.bay i).custody = true) (reported : ((s.stored i b).reconReport i).Reported 6 i t)
    (on : s.GoesOnWithout i ∨ (s.bay i).isPending = true) :
    ∃ n, t.settle.docket = s.docket.put i { s.docket.case i with tagTries := n } ∧
      ((s.bay i).tagTries = 0 → n = 1 ∧ .tag i true ∈ t.settle.loop.unsent) ∧
      ((s.bay i).tagTries ≠ 0 → n = (s.bay i).tagTries) := by
  have stored := follows_stored s i b
  have custody : ((s.stored i b).bay i).custody = (s.bay i).custody := by rw [bay_stored]
  have present : ((s.stored i b).bay i).presence = some true := by rw [bay_stored, here]
  have course : (s.stored i b).course = s.course := rfl
  have reading := reading_reconReport present warm (by rw [custody]; exact tag)
  generalize s.stored i b = v at *
  generalize v.reconReport i = w at *
  obtain ⟨kept, course', docket, first, later⟩ := reading
  rw [stored.docket] at docket first later
  have course := (reported.course.trans course').trans course
  have recon : ∀ j, (t.docket.case j).recon = (s.docket.case j).recon := fun j => by
    rw [reported.follows.docket, docket]
    by_cases e : j = i
    · subst e; rw [put_case_self]
    · rw [put_case_ne _ e]
  have on : t.GoesOn := by
    obtain without | pending := on
    · exact goesOn_others without course fun j _ => recon j
    · exact goesOn_of (.inr pending) course (recon i)
  have idle : w.power.drain = none := by rw [power_of_course (reported.course.symm.trans course)]; exact drain
  obtain ⟨follows, mem, -⟩ := reported_settle reported idle on
  refine ⟨(w.docket.case i).tagTries, follows.docket.trans docket, fun e => ?_, later⟩
  obtain ⟨one, waits⟩ := first e
  exact ⟨one, mem _ waits rfl fun j c => by simp⟩

/-! ### The bay decided, and reconciliation goes on -/

theorem decided_settle (drain : s.power.drain = none) (sound : s.sess.Sound) (free : s.loop.onLoop = none) {read : Option AssetId}
    (reported : ((s.stored i b).decide i read).Reported 6 i t) (on : s.GoesOnWithout i) :
    s.Decided 10 i t.settle ∧ s.Ruled 10 t.settle i b.presence b.bolt ∧
    (s.cust.reconActive = false → (s.bay i).link = .linked → (s.bay i).lampShown = some .off →
      t.settle.lampColour i ≠ .off → .lamp i (t.settle.lampColour i) ∈ t.settle.loop.unsent) := by
  have course : ((s.stored i b).decide i read).course = s.course := course_decide (s := s.stored i b) sound i read
  obtain ⟨before, -⟩ := decided_report sound b read (.refl 0 ((s.stored i b).decide i read))
  have on : t.GoesOn := goesOn_others on (reported.course.trans course) fun j ne => by
    rw [reported.follows.docket, before.others j ne]
  have idle : ((s.stored i b).decide i read).power.drain = none := by rw [power_of_course course]; exact drain
  obtain ⟨follows, -, lamp⟩ := reported_settle reported idle on
  obtain ⟨decided, ruled⟩ := decided_report sound b read follows
  refine ⟨decided, ruled, fun quiet linked off => ?_⟩
  exact lamp ((active_of_course course).trans quiet) (onLoop_of_course course free) before.recon (before.lamp.trans off)
    (before.link.trans linked)

/-! ### The last bay decided -/

theorem ended_settle (drain : s.power.drain = none) (sound : s.sess.Sound) (free : s.loop.onLoop = none) {read : Option AssetId}
    (reported : ((s.stored i b).decide i read).Reported 6 i t) (off : ¬s.GoesOnWithout i) (back : ∀ j, (s.bay j).link ≠ .lost) :
    t.settle.cust.reconActive = false ∧ t.settle.arb.held = false ∧ t.settle.round.suspended = false ∧
    t.settle.round.pending = true ∧ s.LeavesTransit t.settle ∧
    ∀ j, j = i ∨ (s.bay j).recon = .none → (s.bay j).link = .linked → (s.bay j).lampShown = some .off →
      t.settle.lampColour j ≠ .off → .lamp j (t.settle.lampColour j) ∈ t.settle.loop.unsent := by
  have course := reported.course.trans (course_decide (s := s.stored i b) sound i read)
  have course : t.course = s.course := course
  obtain ⟨decided, -⟩ := decided_report sound b read reported.follows
  have active : t.cust.reconActive = true := by
    rw [active_of_course course]
    cases e : s.cust.reconActive with
    | true => rfl
    | false => exact absurd (.inl e) off
  have none : ∀ j, (t.bay j).isPending = false := fun j => by
    by_cases e : j = i
    · subst e
      have recon : (t.bay j).recon = .none := decided.recon
      unfold Bay.isPending
      rw [recon]
    · have recon : (t.bay j).recon = (s.bay j).recon := congrArg Case.recon (decided.others j e)
      rw [isPending_of_recon recon]
      exact Bool.eq_false_iff.2 fun pending => off (.inr ⟨j, e, pending⟩)
  have same : ∀ j, (t.bay j).link = (s.bay j).link ∧ (t.bay j).lampShown = (s.bay j).lampShown := fun j => by
    by_cases e : j = i
    · subst e
      exact ⟨decided.link, decided.lamp⟩
    · exact ⟨congrArg Case.link (decided.others j e), congrArg Case.lampShown (decided.others j e)⟩
  have idle : t.power.drain = Option.none := by rw [power_of_course course]; exact drain
  have back : ∀ j, (t.bay j).link ≠ .lost := fun j => by rw [(same j).1]; exact back j
  have recovers := recovers_settle idle active none back
  have transit : s.LeavesTransit t.settle := by
    obtain ⟨host, start⟩ := recovers.transit
    rw [cause_of_course course, power_of_course course] at host start
    exact ⟨host, start⟩
  refine ⟨recovers.active, recovers.held, recovers.suspended, recovers.pending, transit, fun j own linked lampOff colour => ?_⟩
  refine lamps_settle idle active none back (onLoop_of_course course free) ?_ ((same j).2.trans lampOff)
    ((same j).1.trans linked) colour
  by_cases e : j = i
  · subst e
    exact decided.recon
  · exact (congrArg Case.recon (decided.others j e)).trans (own.resolve_left e)

end

end Sys2Proof.Machine


/-! Reconciliation (O34): the end of a tag read of reconciliation (R161, R163). -/

namespace Sys2Proof.Machine

section
variable {j k : Nat} {i : BayIx} {s t u : State} {bolt : Bolt} {id : Option AssetId}

/-! ### The decision on a read -/

/-- The decision of a bay whose tablet has been read, by its custody state and the read (R161). -/
structure State.ReadDecided (k : Nat) (s t : State) (i : BayIx) (bolt : Bolt) (id : Option AssetId) : Prop where
  keeps : id = (s.docket.case i).assetId → s.KeepsAsset t i
  locked : id = (s.docket.case i).assetId → (s.docket.case i).custody ∈ [.locked, .securing] → bolt = .engaged →
    (t.docket.case i).custody = .locked ∧ (t.docket.case i).release = none
  secured : id = (s.docket.case i).assetId → (s.docket.case i).custody ∈ [.locked, .securing] → bolt ≠ .engaged →
    (t.docket.case i).custody = .securing ∧ t.Wants i .engage ∧ (t.docket.case i).release = (s.docket.case i).release
  held : id = (s.docket.case i).assetId → (∃ r, (s.docket.case i).custody = .held r) →
    (t.docket.case i).custody = (s.docket.case i).custody ∧ (bolt ≠ .retracted → t.Wants i .retract)
  another : id ≠ (s.docket.case i).assetId → (s.docket.case i).custody ∈ [.locked, .securing] →
    s.Swapped k t i bolt .swapped id
  anotherHeld : id ≠ (s.docket.case i).assetId → (∃ r, (s.docket.case i).custody = .held r) →
    s.Swapped k t i bolt (if id.isSome then .swapped else .noTag) id

theorem State.KeepsAsset.follows (h : s.KeepsAsset t i) (rest : t.Follows k u) : s.KeepsAsset u i :=
  ⟨by rw [rest.docket]; exact h.asset, by rw [rest.docket]; exact h.standing, by rw [rest.docket]; exact h.roster⟩

theorem State.KeepsAsset.of_alike (alike : s.Alike t i) (h : t.KeepsAsset u i) : s.KeepsAsset u i :=
  ⟨h.asset.trans alike.asset, h.standing.trans alike.standing, h.roster.trans alike.roster⟩

theorem keepsAsset_of_docket {c : Case} (h : t.docket = s.docket.put i c) (asset : c.assetId = (s.docket.case i).assetId)
    (standing : c.standing = (s.docket.case i).standing) : s.KeepsAsset t i :=
  ⟨by rw [h, put_case_self]; exact asset, by rw [h, put_case_self]; exact standing, by rw [h]; rfl⟩

theorem State.ReadDecided.of_alike (alike : s.Alike t i) (h : t.ReadDecided k u i bolt id) : s.ReadDecided k u i bolt id where
  keeps same := (h.keeps (same.trans alike.asset.symm)).of_alike alike
  locked same own := h.locked (same.trans alike.asset.symm) (by rw [alike.custody]; exact own)
  secured same own away := by
    obtain ⟨securing, asks, release⟩ := h.secured (same.trans alike.asset.symm) (by rw [alike.custody]; exact own) away
    exact ⟨securing, asks, release.trans alike.release⟩
  held same own := by
    obtain ⟨custody, asks⟩ := h.held (same.trans alike.asset.symm) (by rw [alike.custody]; exact own)
    exact ⟨custody.trans alike.custody, asks⟩
  another ne own := (h.another (by rw [alike.asset]; exact ne) (by rw [alike.custody]; exact own)).of_alike alike
  anotherHeld ne own := (h.anotherHeld (by rw [alike.asset]; exact ne) (by rw [alike.custody]; exact own)).of_alike alike

theorem State.ReadDecided.follows (h : s.ReadDecided k t i bolt id) (rest : t.Follows j u) :
    s.ReadDecided (k + j) u i bolt id where
  keeps same := (h.keeps same).follows rest
  locked same own engaged := by
    rw [rest.docket]
    exact h.locked same own engaged
  secured same own away := by
    obtain ⟨securing, asks, release⟩ := h.secured same own away
    rw [rest.docket]
    exact ⟨securing, rest.asks i _ asks, release⟩
  held same own := by
    obtain ⟨custody, asks⟩ := h.held same own
    rw [rest.docket]
    exact ⟨custody, fun away => rest.asks i _ (asks away)⟩
  another ne own := (h.another ne own).follows rest
  anotherHeld ne own := (h.anotherHeld ne own).follows rest

theorem decideKept_same (h : id = (s.bay i).assetId) (bolt : Bolt) : s.decideKept i true bolt id =
    if bolt = .engaged then s.become i .locked else s.secureBay i := by
  unfold State.decideKept
  dsimp only
  rw [if_pos rfl, if_pos h]

theorem decideKept_other (h : id ≠ (s.bay i).assetId) (bolt : Bolt) :
    s.decideKept i true bolt id = s.foundSwapped i bolt .swapped id := by
  unfold State.decideKept
  dsimp only
  rw [if_pos rfl, if_neg h]

theorem decideHeld_same (h : id = (s.bay i).assetId) (bolt : Bolt) : s.decideHeld i true bolt id = s.mendHeld i bolt := by
  unfold State.decideHeld
  rw [if_pos rfl, if_pos h]

theorem decideHeld_other (h : id ≠ (s.bay i).assetId) (bolt : Bolt) :
    s.decideHeld i true bolt id = s.foundSwapped i bolt (if id.isSome then .swapped else .noTag) id := by
  unfold State.decideHeld
  rw [if_pos rfl, if_neg h]

theorem docket_secureBay (s : State) (i : BayIx) : (s.secureBay i).docket = s.docket.put i
    ((s.docket.case i).reach .securing (s.kept.now + s.kept.settings.get .seatSettle * 1000)) :=
  (docket_engageBay _ i).trans (docket_become s i (by simp))

/-- The decision of a bay that was Locked or Securing. -/
theorem readDecided_kept (sound : s.sess.Sound) (bare : s.Bare i) (own : (s.docket.case i).custody ∈ [.locked, .securing])
    (bolt : Bolt) (id : Option AssetId) : s.ReadDecided 3 (s.decideKept i true bolt id) i bolt id := by
  have never : ¬∃ r, (s.docket.case i).custody = .held r := by
    rintro ⟨r, e⟩
    rw [e] at own
    simp at own
  by_cases same : id = (s.bay i).assetId
  · rw [decideKept_same same]
    have locked := docket_become s i (c := .locked) (by simp)
    have secured := docket_secureBay s i
    have wants := wants_secureBay s i
    refine ⟨fun _ => ?_, fun _ _ engaged => ?_, fun _ _ away => ?_, fun _ held => absurd held never,
      fun ne => absurd same ne, fun ne => absurd same ne⟩
    · split
      · exact keepsAsset_of_docket locked rfl rfl
      · exact keepsAsset_of_docket secured rfl rfl
    · rw [if_pos engaged, locked, put_case_self]
      exact ⟨rfl, rfl⟩
    · rw [if_neg away]
      refine ⟨?_, wants, ?_⟩
      · rw [secured, put_case_self]; rfl
      · rw [secured, put_case_self]; rfl
  · rw [decideKept_other same]
    exact ⟨fun e => absurd e same, fun e => absurd e same, fun e => absurd e same, fun e => absurd e same,
      fun _ _ => swapped_foundSwapped sound bare bolt .swapped id, fun _ held => absurd held never⟩

/-- The decision of a bay that was Held. -/
theorem readDecided_held (sound : s.sess.Sound) (bare : s.Bare i) {r : HeldReason} (own : (s.docket.case i).custody = .held r)
    (bolt : Bolt) (id : Option AssetId) : s.ReadDecided 3 (s.decideHeld i true bolt id) i bolt id := by
  have never : (s.docket.case i).custody ∉ [.locked, .securing] := by rw [own]; simp
  by_cases same : id = (s.bay i).assetId
  · rw [decideHeld_same same]
    have docket := docket_mendHeld s i bolt
    refine ⟨fun _ => ?_, fun _ kept => absurd kept never, fun _ kept => absurd kept never, fun _ _ => ⟨?_, ?_⟩,
      fun ne => absurd same ne, fun ne => absurd same ne⟩
    · exact ⟨by rw [docket], by rw [docket], by rw [docket]⟩
    · rw [docket]
    · exact wants_mendHeld bare
  · rw [decideHeld_other same]
    exact ⟨fun e => absurd e same, fun e => absurd e same, fun e => absurd e same, fun e => absurd e same,
      fun _ kept => absurd kept never, fun _ _ => swapped_foundSwapped sound bare bolt _ id⟩

theorem readDecided_verdict (sound : s.sess.Sound) (bare : s.Bare i) (warm : s.cust.reconCase = .warm)
    (own : (s.docket.case i).custody ∈ [.locked, .securing] ∨ ∃ r, (s.docket.case i).custody = .held r) (bolt : Bolt)
    (id : Option AssetId) : s.ReadDecided 3 (s.verdict i true bolt id) i bolt id := by
  rw [verdict_warm warm]
  obtain kept | ⟨r, held⟩ := own
  · rw [decideWarm_kept (by simpa using kept)]
    exact readDecided_kept sound bare kept bolt id
  · rw [decideWarm_held held]
    exact readDecided_held sound bare held bolt id

/-! ### The end of the read -/

theorem wantsTag_iff {c : Custody} : wantsTag c = true ↔ c ∈ [.locked, .securing] ∨ ∃ r, c = .held r := by
  cases c <;> simp [wantsTag]

/-- The bay heard. -/
def State.met (s : State) (i : BayIx) : State := s.modBay i fun x => { x with miss := 0 }

theorem follows_met (s : State) (i : BayIx) : s.Follows 0 (s.met i) := follows_modBay s i (fun x => { x with miss := 0 }) rfl

theorem alike_met (s : State) (i : BayIx) : s.Alike (s.met i) i := by
  have rest := follows_met s i
  refine ⟨rest.kept, rfl, ?_, ?_, ?_, ?_, ?_, rfl, rfl⟩
  · rw [rest.docket]
  · rw [rest.docket]
  · rw [rest.docket]
  · rw [rest.docket]
  · rw [rest.docket]

/-- What a wanted read of reconciliation comes to (R60, R161). -/
def State.readTold (s : State) (i : BayIx) (id : Option AssetId) : State :=
  if id = none ∧ (s.bay i).tagTries < 2 then s.modBay i fun b => { b with tagRetryDue := some (s.now + 1000) }
  else s.decide i id

theorem tagTold_answer (s : State) (i : BayIx) (a : Answer) :
    s.tagTold i true (.answer a) = s.readTold i a.tagRead := by
  unfold State.tagTold State.readTold State.readEnds
  dsimp only
  cases a.tagRead with
  | some id => simp
  | none => simp

/-- The answer to the TAG of a bay that waits for it (R60, R160). -/
theorem tag_eq (awake : s.resetHeld = false) {o : OnLoop} (onLoop : s.loop.onLoop = some o) (txn : o.txn = .tag i true)
    (fresh : o.stale = false) (marked : (s.bay i).recon ≠ .none) (linked : (s.bay i).link = .linked)
    (begun : 1 ≤ (s.bay i).tagTries) {resp : List Byte} {a : Answer} (valid : answer? o.txn resp = some a) :
    exec (.tag resp) s = .next (((s.idleLoop).met i).readTold i a.tagRead).settle := by
  have bay : o.txn.bay? = some i := by rw [txn]; rfl
  have op : o.txn.opCode = 0x05 := by rw [txn]; rfl
  have answered := onAnswer_eq onLoop bay valid
  rw [op] at answered
  refine (live_awake awake _).trans (congrArg (Host.Outcome.next (φ := Fault) (ρ := Refusal))
    (answered.trans (congrArg State.settle ?_)))
  have heard : s.idleLoop.linkOf o.txn (.answer a) = s.idleLoop.met i := by
    unfold State.linkOf
    rw [bay]
    exact if_neg (by rw [show (s.idleLoop.bay i).link = .linked from linked]; simp)
  have shared : ∀ u : State, u.shareOut o.txn (.answer a) = u := fun u => by
    unfold State.shareOut
    rw [bay]
    exact if_neg (by simp [op])
  have case := case_of_docket (follows_met s.idleLoop i).docket i
  have wanted : (s.idleLoop.met i).tagUnwanted i true o.stale = false := by
    have tries : ((s.idleLoop.met i).bay i).tagTries = (s.bay i).tagTries := congrArg Case.tagTries case
    have recon : ((s.idleLoop.met i).bay i).recon = (s.bay i).recon := congrArg Case.recon case
    unfold State.tagUnwanted
    rw [fresh, tries, recon]
    have : (s.bay i).tagTries ≠ 0 := by omega
    simp [this, marked]
  unfold State.ended
  rw [heard, shared, txn]
  generalize s.idleLoop.met i = u at wanted ⊢
  have told : u.told (.tag i true) o.stale (.answer a) = u.tagTold i true (.answer a) := if_neg (by rw [wanted]; simp)
  exact told.trans (tagTold_answer ..)

/-- A read that failed the first time is repeated after 1 s (R161). -/
theorem retry_settle (drain : s.power.drain = none) (on : s.GoesOnWithout i) (again : id = none ∧ (s.bay i).tagTries < 2) :
    ((s.met i).readTold i id).settle.docket =
      s.docket.put i { s.docket.case i with tagRetryDue := some (s.now + 1000) } := by
  have rest := follows_met s i
  have tries : ((s.met i).bay i).tagTries = (s.bay i).tagTries := congrArg Case.tagTries (case_of_docket rest.docket i)
  have now : (s.met i).now = s.now := rfl
  have course : (s.met i).course = s.course := rfl
  unfold State.readTold
  rw [if_pos (by rw [tries]; exact again), now]
  generalize s.met i = v at rest course ⊢
  have put := docket_modBay v i fun b => { b with tagRetryDue := some (s.now + 1000) }
  have same : (v.modBay i fun b => { b with tagRetryDue := some (s.now + 1000) }).course = s.course := course
  generalize State.modBay v i _ = w at put same ⊢
  have own : (v.bay i).case = s.docket.case i := case_of_docket rest.docket i
  have docket : w.docket = s.docket.put i { s.docket.case i with tagRetryDue := some (s.now + 1000) } := by
    rw [put, rest.docket]
    exact congrArg (fun a : Case => s.docket.put i { a with tagRetryDue := some (s.now + 1000) }) own
  have on : w.GoesOn := goesOn_others on same fun j ne => by rw [docket, put_case_ne _ ne]
  rw [(follows_settle (by rw [power_of_course same]; exact drain) (.inl on)).docket]
  exact docket

/-- A read decides the bay (R161). -/
theorem read_settle (drain : s.power.drain = none) (sound : s.sess.Sound) (on : s.GoesOnWithout i)
    (warm : s.cust.reconCase = .warm) (tag : wantsTag (s.bay i).custody = true) (here : (s.bay i).presence = some true)
    (at_ : (s.bay i).bolt = some bolt) (last : ¬(id = none ∧ (s.bay i).tagTries < 2)) :
    s.Decided 4 i ((s.met i).readTold i id).settle ∧ s.ReadDecided 4 ((s.met i).readTold i id).settle i bolt id := by
  have alike := alike_met s i
  have docket := (follows_met s i).docket
  have bay : (s.met i).bay i = { s.bay i with miss := 0 } := by simp [State.met]
  have presence : decide (((s.met i).bay i).presence = some true) = true := by rw [bay]; simpa using here
  have position : ((s.met i).bay i).bolt.getD .between = bolt := by rw [bay]; simp [at_]
  have tries : ((s.met i).bay i).tagTries = (s.bay i).tagTries := by rw [bay]
  unfold State.readTold
  rw [if_neg (by rw [tries]; exact last), decide_eq, presence, position]
  generalize s.met i = v at *
  have sound' : v.sess.Sound := alike.sess ▸ sound
  have decided := (decided_verdict sound' i true bolt id).of_docket alike.kept docket alike.notices
  have opens := opens_opened v i
  have alike' := opens.alike
  have read := readDecided_verdict (s := v.opened i) (opens.sess ▸ sound') opens.bare
    ((case_of_course (opens.course.trans alike.course)).trans warm)
    (by rw [alike'.custody, alike.custody]; exact wantsTag_iff.1 tag) bolt id
  have read := (read.of_alike alike').of_alike alike
  have course := (tends_verdict (opens.sess ▸ sound') i true bolt id).course.trans (opens.course.trans alike.course)
  generalize (v.opened i).verdict i true bolt id = w at *
  have course := (course_compareLamp w i).trans course
  have lamp := follows_compareLamp w i
  generalize w.compareLamp i = x at *
  have on : x.GoesOn := goesOn_others on course fun j ne => by rw [lamp.docket, decided.others j ne]
  have rest := lamp.trans (follows_settle (by rw [power_of_course course]; exact drain) (.inl on))
  exact ⟨decided.follows rest, read.follows rest⟩

end

end Sys2Proof.Machine


/-! Reconciliation (O34): a reconciliation STATUS that ends otherwise than OK (R160). -/

namespace Sys2Proof.Machine

section
variable {j k n : Nat} {i : BayIx} {s t u : State}

/-- A bay marked pending or deferred anew. -/
def State.remark (s : State) (i : BayIx) (m : ReconMark) : State := s.modBay i fun b => { b with recon := m }

theorem docket_remark (s : State) (i : BayIx) (m : ReconMark) :
    (s.remark i m).docket = s.docket.put i { s.docket.case i with recon := m } := docket_modBay s i _

theorem course_remark (s : State) (i : BayIx) (m : ReconMark) : (s.remark i m).course = s.course := course_modBay ..

theorem reconTold_fault (pending : (s.bay i).recon = .pending n) {a : Answer} (bad : a.result ≠ .ok) :
    s.reconTold i (.answer a) =
      if n + 1 < 3 then (s.remark i (.pending (n + 1))).place (.recon i) else s.remark i .deferred := by
  unfold State.reconTold
  rw [pending]
  exact if_neg bad

theorem reconTold_noAnswer (pending : (s.bay i).recon = .pending n) :
    s.reconTold i .noAnswer = if (s.bay i).link = .linked then s.place (.recon i) else s := by
  unfold State.reconTold
  rw [pending]

theorem isPending_pending {b : Bay} (h : b.recon = .pending n) : b.isPending = true := by
  unfold Bay.isPending
  rw [h]

/-- A placement of the Custody Unit other than a LAMP waits to the end of the event that reconciliation outlasts. -/
theorem mem_settle (drain : s.power.drain = none) (on : s.GoesOn) {y : Txn} (own : y.client = .custody)
    (lamp : ∀ j c, y ≠ .lamp j c) (mem : y ∈ s.loop.unsent) : y ∈ s.settle.loop.unsent :=
  (shows_settle drain on).mem y mem own fun j c e => absurd e (lamp j c)

/-- The bay stays pending, and its STATUS is placed again. -/
theorem placed_settle (drain : s.power.drain = none) (pending : (s.bay i).recon = .pending n) :
    (s.place (.recon i)).settle.docket = s.docket ∧ .recon i ∈ (s.place (.recon i)).settle.loop.unsent := by
  have docket := docket_place s (.recon i)
  have course := course_place s (.recon i)
  have mem := mem_place_self s (t := .recon i) (by simp [Txn.client])
  generalize s.place (.recon i) = t at *
  have on : t.GoesOn := goesOn_of (x := i) (.inr (isPending_pending pending)) course (by rw [docket])
  have idle : t.power.drain = none := by rw [power_of_course course]; exact drain
  exact ⟨(follows_settle idle (.inl on)).docket.trans docket, mem_settle idle on rfl (fun j c => by simp) mem⟩

/-! ### A protocol fault -/

/-- A reconciliation STATUS that ends in a protocol fault: placed again, or at the third in a row the bay deferred. -/
theorem fault_settle (drain : s.power.drain = none) (pending : (s.bay i).recon = .pending n)
    (quiet : n < 2 ∨ s.GoesOnWithout i ∨ ∀ j, (s.bay j).link ≠ .lost) {a : Answer} (bad : a.result ≠ .ok) :
    ((s.met i).reconTold i (.answer a)).settle.docket =
      s.docket.put i { s.docket.case i with recon := if n < 2 then .pending (n + 1) else .deferred } ∧
    (n < 2 → .recon i ∈ ((s.met i).reconTold i (.answer a)).settle.loop.unsent) := by
  have rest := follows_met s i
  have recon : ((s.met i).bay i).recon = .pending n := (congrArg Case.recon (case_of_docket rest.docket i)).trans pending
  have course : (s.met i).course = s.course := rfl
  rw [reconTold_fault recon bad]
  generalize s.met i = v at *
  by_cases again : n < 2
  · rw [if_pos (by omega), if_pos again]
    have docket := docket_remark v i (.pending (n + 1))
    have course := (course_remark v i (.pending (n + 1))).trans course
    generalize v.remark i (.pending (n + 1)) = w at *
    have marked : (w.docket.case i).recon = .pending (n + 1) := by rw [docket, put_case_self]
    obtain ⟨same, mem⟩ := placed_settle (s := w) (i := i) (by rw [power_of_course course]; exact drain) marked
    exact ⟨by rw [same, docket, rest.docket], fun _ => mem⟩
  · rw [if_neg (by omega), if_neg again]
    have docket := docket_remark v i .deferred
    have course := (course_remark v i .deferred).trans course
    generalize v.remark i .deferred = w at *
    rw [rest.docket] at docket
    have quiet : w.GoesOn ∨ ∀ j, (w.bay j).link ≠ .lost := by
      obtain without | back := quiet.resolve_left again
      · exact .inl (goesOn_others without course fun j ne => by rw [docket, put_case_ne _ ne])
      · refine .inr fun j => ?_
        have link : (w.docket.case j).link = (s.bay j).link := by
          rw [docket]
          by_cases e : j = i
          · subst e; rw [put_case_self]; rfl
          · rw [put_case_ne _ e]; rfl
        exact fun lost => back j (link.symm.trans lost)
    have follows := follows_settle (s := w) (by rw [power_of_course course]; exact drain) quiet
    exact ⟨follows.docket.trans docket, fun e => absurd e again⟩

/-- The event of a STATUS that ends in a protocol fault. -/
theorem fault_eq (awake : s.resetHeld = false) {o : OnLoop} (onLoop : s.loop.onLoop = some o) (txn : o.txn = .recon i)
    (linked : (s.bay i).link = .linked) {resp : List Byte} {a : Answer} (valid : answer? o.txn resp = some a)
    (bad : a.result ≠ .ok) (key : Bool) :
    exec (.status resp key) s = .next (((s.idled key).met i).reconTold i (.answer a)).settle := by
  have bay : o.txn.bay? = some i := by rw [txn]; rfl
  have op : o.txn.opCode = 0x04 := by rw [txn]; rfl
  have heard : (s.idled key).linkOf o.txn (.answer a) = (s.idled key).met i := by
    unfold State.linkOf
    rw [bay]
    exact if_neg (by rw [show ((s.idled key).bay i).link = .linked from linked]; simp)
  have shared : ∀ u : State, u.shareOut o.txn (.answer a) = u := fun u => by
    unfold State.shareOut
    rw [bay]
    exact if_neg fun e => bad e.2
  have ended : (s.idled key).ended o.txn o.stale (.answer a) = ((s.idled key).met i).reconTold i (.answer a) := by
    unfold State.ended
    rw [heard, shared, txn]
    rfl
  rw [status_eq awake onLoop bay op valid key, ended]

/-! ### No answer -/

/-- A case whose link is lost (R140, R160). -/
def Case.lost (a : Case) : Case :=
  { a.unseated with link := .lost, recon := if a.recon = .none then .none else .deferred }

theorem linkLost_spec (s : State) (i : BayIx) :
    (s.linkLost i).docket = s.docket.put i (s.docket.case i).lost ∧ (s.linkLost i).course = s.course := by
  have put := docket_modBay s i fun b =>
    { b with
      link := .lost
      lostAt := some s.retained.seconds
      recon := if b.recon = .none then .none else .deferred }
  unfold State.linkLost
  dsimp only
  have course : (s.modBay i fun b =>
    { b with
      link := .lost
      lostAt := some s.retained.seconds
      recon := if b.recon = .none then .none else .deferred }).course = s.course := course_modBay ..
  generalize State.modBay s i _ = t at put course ⊢
  have said := docket_raise t .bayLost (some i) (t.bay i).assetId none none (some .misses)
  have course := (course_raise t .bayLost (some i) (t.bay i).assetId none none (some .misses)).trans course
  generalize t.raise .bayLost (some i) (t.bay i).assetId none none (some .misses) = u at said course ⊢
  have stopped : (u.stopSeating i).course = u.course := course_of (ground_stopSeating ..) (hold_stopSeating ..)
  refine ⟨?_, (course_leaveReady ..).trans (stopped.trans course)⟩
  rw [docket_leaveReady, docket_stopSeating, said, put, put_case_self, put_put]
  rfl

theorem missed_early (early : (s.bay i).miss ≠ 2) : s.Follows 0 (s.missed i) ∧ (s.missed i).course = s.course := by
  unfold State.missed
  dsimp only
  split
  · rw [if_neg fun e => early e.1]
    exact ⟨follows_modBay s i (fun b => { b with miss := b.miss + 1 }) rfl, rfl⟩
  · exact ⟨.refl 0 s, rfl⟩

theorem missed_last (last : (s.bay i).miss = 2) (linked : (s.bay i).link = .linked) :
    (s.missed i).docket = s.docket.put i (s.docket.case i).lost ∧ (s.missed i).course = s.course := by
  have counted := docket_modBay_same s i (fun b => { b with miss := b.miss + 1 }) rfl
  have course := course_modBay s i fun b => { b with miss := b.miss + 1 }
  unfold State.missed
  dsimp only
  rw [if_pos (by omega), if_pos ⟨last, linked⟩]
  generalize State.modBay s i _ = t at counted course ⊢
  obtain ⟨docket, same⟩ := linkLost_spec t i
  exact ⟨by rw [docket, counted], same.trans course⟩

/-- The end without an answer of a reconciliation STATUS. -/
def State.unanswered (s : State) (i : BayIx) : State := ((s.missed i).reconTold i .noAnswer).settle

/-- While the link is Linked the STATUS is placed again (R160). -/
theorem unanswered_early (drain : s.power.drain = none) (pending : (s.bay i).recon = .pending n)
    (linked : (s.bay i).link = .linked) (early : (s.bay i).miss ≠ 2) :
    (s.unanswered i).docket = s.docket ∧ .recon i ∈ (s.unanswered i).loop.unsent := by
  obtain ⟨follows, course⟩ := missed_early early
  unfold State.unanswered
  generalize s.missed i = t at *
  have same := case_of_docket follows.docket i
  have pending : (t.bay i).recon = .pending n := (congrArg Case.recon same).trans pending
  have linked : (t.bay i).link = .linked := (congrArg Case.link same).trans linked
  rw [reconTold_noAnswer pending, if_pos linked]
  obtain ⟨docket, mem⟩ := placed_settle (by rw [power_of_course course]; exact drain) pending
  exact ⟨docket.trans follows.docket, mem⟩

/-- With the link lost the bay is deferred (R160). -/
theorem unanswered_last (drain : s.power.drain = none) (pending : (s.bay i).recon = .pending n)
    (linked : (s.bay i).link = .linked) (last : (s.bay i).miss = 2) (on : s.GoesOnWithout i) :
    (s.unanswered i).docket = s.docket.put i (s.docket.case i).lost ∧ ((s.docket.case i).lost).recon = .deferred := by
  obtain ⟨docket, course⟩ := missed_last last linked
  unfold State.unanswered
  generalize s.missed i = t at *
  have marked : (s.docket.case i).lost.recon = .deferred := by
    have : (s.docket.case i).recon = .pending n := pending
    unfold Case.lost
    rw [this]
    rfl
  have deferred : (t.bay i).recon = .deferred := by
    have own : t.docket.case i = (s.docket.case i).lost := by rw [docket, put_case_self]
    exact (congrArg Case.recon own).trans marked
  have told : t.reconTold i .noAnswer = t := by
    unfold State.reconTold
    rw [deferred]
  have on : t.GoesOn := goesOn_others on course fun j ne => by rw [docket, put_case_ne _ ne]
  rw [told]
  exact ⟨(follows_settle (by rw [power_of_course course]; exact drain) (.inl on)).docket.trans docket, marked⟩

/-- The event of the third attempt without an answer. -/
theorem unanswered_eq (awake : s.resetHeld = false) {o : OnLoop} (onLoop : s.loop.onLoop = some o) (txn : o.txn = .recon i)
    (third : o.attempt = 3) : exec .responseWaitExpiry s = .next ((s.reach o.waitDue).idleLoop.unanswered i) := by
  have bay : o.txn.bay? = some i := by rw [txn]; rfl
  have awaited : s.awaited = some o := by
    unfold State.awaited
    rw [onLoop]
    simp [Option.filter, address_of_bay bay]
  have missed : ∀ u : State, u.linkOf o.txn .noAnswer = u.missed i := fun u => by
    unfold State.linkOf
    rw [bay]
  have shared : ∀ u : State, u.shareOut o.txn .noAnswer = u := fun u => by
    unfold State.shareOut
    rw [bay]
  have ended : ∀ u : State, u.ended o.txn o.stale .noAnswer = (u.missed i).reconTold i .noAnswer := fun u => by
    unfold State.ended
    rw [missed, shared, txn]
    rfl
  have failed : (s.reach o.waitDue).failedAttempt o =
      ((s.reach o.waitDue).idleLoop.ended o.txn o.stale .noAnswer).settle := if_neg (by omega)
  refine (live_awake awake _).trans ?_
  rw [awaited]
  dsimp only
  rw [failed, ended]
  rfl

end

end Sys2Proof.Machine


/-! Reconciliation (O34): the obligation. -/

namespace Sys2Proof.Machine

section
variable {k n : Nat} {i : BayIx} {s t : State} {b : Block}

theorem isHeld_iff {b : Bay} : b.isHeld = true ↔ ∃ r, b.custody = .held r := by
  unfold Bay.isHeld Bay.releasable
  cases b.custody <;> simp

theorem isJammed_iff {b : Bay} : b.isJammed = true ↔ ∃ d o, b.custody = .jammed d o := by
  unfold Bay.isJammed
  cases b.custody <;> simp

theorem State.Told.all (h : s.Told t i) : ∀ x ∈ s.sess.queue, x.bay = i →
    (x.state = .draining → x ∈ t.sess.queue) ∧
    (x.state ≠ .draining → t.session? x.id = none ∧ (t.bay i).lastOutcome = some (.removed, x.id)) :=
  fun x mem bay => ⟨h.stays x mem bay, h.ends x mem bay⟩

/-- A notice said in an event that raises no more than ten. -/
theorem says_half {r : Notice} {p : Prop} (h : p → s.Says k t r) (few : k ≤ 16) (room : s.notices.queue.length ≤ 16)
    (loud : p) : r ∈ t.notices.queue := (h loud).mem (by omega)

theorem reconReport_stored (h : ¬(s.cust.reconCase = .warm ∧ wantsTag (s.bay i).custody = true) ∨ b.presence = false) :
    (s.stored i b).reconReport i = (s.stored i b).decide i none := by
  refine reconReport_decide ?_
  rw [bay_stored]
  rintro ⟨present, read⟩
  obtain none | absent := h
  · exact none read
  · have here : b.presence = true := by simpa using present
    rw [absent] at here
    cases here

theorem wantsTag_of {b : Bay} (h : b.custody ∈ [.locked, .securing] ∨ b.isHeld = true) : wantsTag b.custody = true :=
  wantsTag_iff.2 (h.imp_right isHeld_iff.1)

theorem of_wantsTag {b : Bay} (h : wantsTag b.custody = true) : b.custody ∈ [.locked, .securing] ∨ b.isHeld = true :=
  (wantsTag_iff.1 h).imp_right isHeld_iff.2

/-- An absent tablet of a bay that was Locked or Securing: taken where the late-take mark stands, and gone elsewhere. -/
theorem State.Ruled.keptAbsent {here : Bool} {bolt : Bolt} (h : s.Ruled k t i here bolt) (warm : s.cust.reconCase = .warm)
    (own : (s.docket.case i).custody = .locked ∨ (s.docket.case i).custody = .securing) (absent : here = false) :
    t.LeftEmpty i bolt ∧
    ((s.docket.case i).custody = .securing ∧ (s.docket.case i).release.any (·.late) = true → s.Taken k t i bolt) ∧
    ((s.docket.case i).custody = .locked ∨ (s.docket.case i).release.any (·.late) = false → s.Gone t i .missing ∧
      (s.notices.levels.get .custodyMismatch ≠ 0 → s.Says k t (s.about i .custodyMismatch none .absent))) := by
  by_cases late : (s.docket.case i).custody = .securing ∧ (s.docket.case i).release.any (·.late) = true
  · have taken := h.taken warm (.inr late) absent
    obtain ⟨securing, late⟩ := late
    refine ⟨taken.empty, fun _ => taken, fun early => ?_⟩
    obtain locked | early := early
    · rw [securing] at locked
      cases locked
    · rw [late] at early
      cases early
  · have early := own.imp_right fun securing => And.intro securing (Bool.eq_false_iff.2 fun e => late ⟨securing, e⟩)
    obtain ⟨empty, gone⟩ := h.gone warm early absent
    exact ⟨empty, fun e => absurd e late, fun _ => gone⟩

/-- Another tablet read: the reason says whether a Held bay's could be read at all. -/
theorem State.ReadDecided.other {bolt : Bolt} {id : Option AssetId} (h : s.ReadDecided k t i bolt id)
    (other : id ≠ (s.docket.case i).assetId)
    (own : (s.bay i).custody ∈ [.locked, .securing] ∨ (s.bay i).isHeld = true) :
    s.Swapped k t i bolt (if (s.bay i).isHeld = true ∧ id = none then .noTag else .swapped) id := by
  by_cases held : (s.bay i).isHeld = true
  · have swapped := h.anotherHeld other (isHeld_iff.1 held)
    cases id with
    | none =>
      rw [if_pos ⟨held, rfl⟩]
      exact swapped
    | some x =>
      rw [if_neg fun both => nomatch both.2]
      exact swapped
  · rw [if_neg fun both => held both.1]
    exact h.another other (own.resolve_right held)

/-- A bay's case after a step that wrote one. -/
theorem case_of_put {c : Case} (h : t.docket = s.docket.put i c) : (t.bay i).case = c :=
  (congrFun (congrArg Docket.case h) i).trans (put_case_self ..)

theorem roster_of_put {c : Case} (h : t.docket = s.docket.put i c) : t.cust.roster = s.cust.roster :=
  congrArg Docket.roster h

end

/-- Settles O34: the report is stored, the bay decided as the tables have it, and the rest of the event leaves the
decision; where the last bay is decided reconciliation ends. -/
theorem reconciliationDecidesEveryBay : Obligations.ReconciliationDecidesEveryBay := by
  intro key s awake drain sess arb o onLoop i marked linked b goesOn became asks moved emptied keeps told said taken held read
  refine ⟨fun txn resp a valid ok => ?_, fun bolt at_ txn fresh reads on here begun resp a valid => ?_,
    fun n pending txn => ⟨fun quiet resp a valid bad => ?_, fun third off => ?_⟩⟩
  · obtain ⟨t, step, reported⟩ := report_eq awake onLoop txn marked linked valid ok key
    refine ⟨t.settle, step, fun reads here on => ?_, fun on other => ?_, fun last other back => ?_⟩
    · obtain ⟨n, docket, first, later⟩ :=
        reading_settle (s := s.idled key) drain here reads.1 (wantsTag_of reads.2) reported on
      generalize t.settle = w at docket first ⊢
      have case := case_of_put docket
      exact ⟨congrArg Case.recon case, congrArg Case.custody case,
        ⟨congrArg Case.assetId case, congrArg Case.standing case, roster_of_put docket⟩, congrArg Case.release case,
        congrArg Case.displayDue case,
        fun e => ⟨(congrArg Case.tagTries case).trans (first e).1, (first e).2⟩,
        fun e => (congrArg Case.tagTries case).trans (later e)⟩
    · have other : ¬(s.cust.reconCase = .warm ∧ wantsTag (s.bay i).custody = true) ∨ a.block.presence = false :=
        other.imp_left fun none both => none ⟨both.1, of_wantsTag both.2⟩
      rw [reconReport_stored (s := s.idled key) other] at reported
      obtain ⟨decided, ruled, lamp⟩ := decided_settle (s := s.idled key) drain sess rfl reported on
      generalize t.settle = w at decided ruled lamp ⊢
      refine ⟨decided.recon, decided.admission, decided.display, fun j ne =>
        ⟨congrArg Case.custody (decided.others j ne), congrArg Case.recon (decided.others j ne)⟩,
        fun quiet off colour => lamp quiet linked off colour, fun own here => ?_, fun cold absent => ?_, fun warm => ?_⟩
      · have seats := ruled.seats own here
        exact ⟨seats.home, seats.away⟩
      · have empty := ruled.cold cold absent
        exact ⟨empty.home, empty.away⟩
      · refine ⟨fun own absent => ruled.empty warm own absent, fun own => ⟨fun here => ?_, fun absent => ?_⟩,
          fun own absent => ?_, fun own absent => ?_, fun own => ?_⟩
        · have withdrawn := ruled.withdrawn warm own here
          exact ⟨withdrawn.custody, withdrawn.release, ⟨withdrawn.asset, withdrawn.standing, withdrawn.roster⟩,
            withdrawn.asks, fun room loud => says_half (s := s.idled key) withdrawn.said (by omega) room loud⟩
        · have gone := ruled.taken warm (.inl own) absent
          exact ⟨⟨gone.empty.home, gone.empty.away⟩, gone.roster, ⟨gone.asset, gone.standing⟩, gone.release,
            fun room loud => says_half (s := s.idled key) gone.said (by omega) room loud⟩
        · obtain ⟨empty, late, early⟩ := ruled.keptAbsent warm own absent
          refine ⟨⟨empty.home, empty.away⟩, fun e => ?_, fun e => ?_⟩
          · have gone := late e
            exact ⟨gone.roster, ⟨gone.asset, gone.standing⟩, gone.release,
              fun room loud => says_half (s := s.idled key) gone.said (by omega) room loud⟩
          · obtain ⟨gone, mismatch⟩ := early e
            exact ⟨gone.roster, ⟨gone.asset, gone.standing⟩, gone.told.all,
              fun room loud => says_half (s := s.idled key) mismatch (by omega) room loud⟩
        · obtain ⟨vacant, gone⟩ := ruled.removed warm (isHeld_iff.1 own) absent
          exact ⟨vacant, gone.roster, ⟨gone.asset, gone.standing⟩, gone.told.all⟩
        · obtain ⟨same, keeps, lost⟩ := ruled.jammed warm (isJammed_iff.1 own)
          refine ⟨same, fun e => ?_, fun absent e => ?_⟩
          · obtain ⟨asset, standing, roster⟩ := keeps e
            exact ⟨asset, standing, roster⟩
          · obtain ⟨gone, tamper⟩ := lost absent e
            exact ⟨gone.roster, ⟨gone.asset, gone.standing⟩, gone.told.all,
              fun room loud => says_half (s := s.idled key) tamper (by omega) room loud⟩
    · have other : ¬(s.cust.reconCase = .warm ∧ wantsTag (s.bay i).custody = true) ∨ a.block.presence = false :=
        other.imp_left fun none both => none ⟨both.1, of_wantsTag both.2⟩
      rw [reconReport_stored (s := s.idled key) other] at reported
      obtain ⟨active, hold, suspended, pending, transit, lamps⟩ :=
        ended_settle (s := s.idled key) drain sess rfl reported last back
      exact ⟨active, hold, suspended, pending, transit.host, transit.start, lamps⟩
  · refine ⟨_, tag_eq awake onLoop txn fresh marked linked begun valid, fun none again => ?_, fun last => ?_⟩
    · have docket := retry_settle (s := s.idleLoop) (id := a.tagRead) drain on ⟨none, again⟩
      generalize State.settle _ = w at docket ⊢
      have case := case_of_put docket
      exact ⟨congrArg Case.recon case, congrArg Case.custody case,
        ⟨congrArg Case.assetId case, congrArg Case.standing case, roster_of_put docket⟩, congrArg Case.tagRetryDue case⟩
    · have last : ¬(a.tagRead = none ∧ (s.bay i).tagTries < 2) := fun both =>
        last.elim (fun some => some both.1) fun two => Nat.not_lt.2 two both.2
      obtain ⟨decided, rules⟩ := read_settle (s := s.idleLoop) drain sess on reads.1 (wantsTag_of reads.2) here at_ last
      generalize State.settle _ = w at decided rules ⊢
      refine ⟨decided.recon, decided.admission, fun same => ⟨?_, fun loose engaged => ?_, fun loose away => ?_, fun fast => ?_⟩,
        fun other => ?_⟩
      · obtain ⟨asset, standing, roster⟩ := rules.keeps same
        exact ⟨asset, standing, roster⟩
      · exact rules.locked same (reads.2.resolve_right (Bool.eq_false_iff.1 loose)) engaged
      · exact rules.secured same (reads.2.resolve_right (Bool.eq_false_iff.1 loose)) away
      · exact rules.held same (isHeld_iff.1 fast)
      · have swapped := rules.other other reads.2
        exact ⟨swapped.custody, swapped.asset, swapped.standing, swapped.roster, swapped.release, swapped.told.all,
          fun room loud => says_half (s := s.idleLoop) swapped.said (by omega) room loud, swapped.asks⟩
  · obtain ⟨docket, mem⟩ := fault_settle (s := s.idled key) drain pending quiet bad
    refine ⟨_, fault_eq awake onLoop txn linked valid bad key, ?_⟩
    generalize State.settle _ = w at docket mem ⊢
    have case := case_of_put docket
    refine ⟨congrArg Case.custody case, ⟨congrArg Case.assetId case, congrArg Case.standing case, roster_of_put docket⟩,
      fun few => ⟨(congrArg Case.recon case).trans (if_pos few), mem few⟩,
      fun many => (congrArg Case.recon case).trans (if_neg (by omega))⟩
  · refine ⟨_, unanswered_eq awake onLoop txn third, ?_⟩
    by_cases last : (s.bay i).miss = 2
    · have on := off.resolve_left fun ne => ne last
      obtain ⟨docket, deferred⟩ := unanswered_last (s := (s.reach o.waitDue).idleLoop) drain pending linked last on
      generalize State.unanswered _ i = w at docket ⊢
      have case := case_of_put docket
      exact ⟨congrArg Case.custody case, ⟨congrArg Case.assetId case, congrArg Case.standing case, roster_of_put docket⟩,
        fun ne => absurd last ne, fun _ => ⟨(congrArg Case.recon case).trans deferred, congrArg Case.link case⟩⟩
    · obtain ⟨docket, mem⟩ := unanswered_early (s := (s.reach o.waitDue).idleLoop) drain pending linked last
      generalize State.unanswered _ i = w at docket mem ⊢
      have case : (w.bay i).case = (s.bay i).case := case_of_docket (s := (s.reach o.waitDue).idleLoop) docket i
      have roster : w.cust.roster = s.cust.roster := congrArg Docket.roster docket
      exact ⟨congrArg Case.custody case, ⟨congrArg Case.assetId case, congrArg Case.standing case, roster⟩,
        fun _ => ⟨(congrArg Case.recon case).trans pending, mem⟩, fun e => absurd e last⟩

end Sys2Proof.Machine


/-! The bay port limit (O19). -/

namespace Sys2Proof.Machine

/-! ### Shares computed afresh (R26 to R28) -/

/-- A bay's share is a matter of its SoC and its negotiated maximum, the settings, its session and the ready set. -/
theorem shareNow_congr {s t : State} {i : BayIx} (soc : (t.bay i).soc = (s.bay i).soc)
    (pneg : (t.bay i).pneg = (s.bay i).pneg) (cfg : t.cfg = s.cfg) (sess : t.sess = s.sess)
    (ready : t.cust.readySet = s.cust.readySet) : t.shareNow i = s.shareNow i := by
  have session : t.sessionBay i = s.sessionBay i := by unfold State.sessionBay State.sessionOf?; rw [sess]
  have member : t.member i = s.member i := by unfold State.member; rw [ready]
  unfold State.shareNow soc50
  dsimp only
  rw [soc, pneg, cfg, session, member]

theorem bay_refreshShare (s : State) (i j : BayIx) :
    (s.refreshShare i).bay j = if j = i then { s.bay j with share := s.shareNow i } else s.bay j := by
  have stored := bay_modBay s i j fun b => { b with share := s.shareNow i }
  unfold State.refreshShare
  dsimp only
  split
  · exact stored
  · exact stored

/-- Shares computed afresh are those of the state before: none bears on another's. -/
theorem bay_refreshShares (l : List BayIx) (s : State) (i : BayIx) :
    (l.foldl State.refreshShare s).bay i = if i ∈ l then { s.bay i with share := s.shareNow i } else s.bay i := by
  induction l generalizing s with
  | nil => simp
  | cons j l ih =>
    have bay := bay_refreshShare s j i
    have same : (s.refreshShare j).shareNow i = s.shareNow i := by
      refine shareNow_congr ?_ ?_ (funext fun k => cfg_of_kept (kept_refreshShare s j) k) (refreshShare_sess s j) ?_
      · rw [bay]; split <;> rfl
      · rw [bay]; split <;> rfl
      · obtain ⟨sess, round, bays, e, -⟩ := shared_refreshShare s j
        rw [e]
    rw [List.foldl_cons, ih, same, bay]
    by_cases e : i = j
    · subst e; simp
    · simp [e]

theorem refreshShares_share (s : State) (i : BayIx) : (s.refreshShares.bay i).share = s.shareNow i := by
  unfold State.refreshShares
  rw [bay_refreshShares, if_pos (mem_allBays i)]

/-- Cap, floor and tier as R26 and R27 give them. -/
theorem shareNow_spec (s : State) (i : BayIx) {session : Bool} (h : s.sessionBay i = session) :
    let tapered := taper (soc50 (s.bay i)) (capRaw (s.bay i).pneg (s.cfg .pport))
    (s.shareNow i).cap = (if session then max tapered (s.cfg .fsess) else tapered) ∧
      (s.shareNow i).floor = (if session then s.cfg .fsess else if tapered = 2 then 2 else min 5 tapered) ∧
      (s.shareNow i).tier =
        (if session then 0 else if i ∈ s.cust.readySet then 1 else if 98 ≤ soc50 (s.bay i) then 3 else 2) := by
  have member : (s.member i = true) = (i ∈ s.cust.readySet) := by simp [State.member]
  unfold State.shareNow
  cases session <;> simp [h, member]

/-! ### The bay port limit (R189) -/

/-- The reply and the end of the event leave the shares. -/
theorem share_answered {s : State} (calm : s.Calm) (f : RxFrame) (r : Result) (p : List Byte) (i : BayIx) :
    ((s.reply f r p).settle.bay i).share = (s.bay i).share :=
  share_of_core (a := (s.reply f r p).bay i) (core_of_still (still_settle _ (calm_reply f r p .nothing calm)) i)

/-- Settles O19: the new limit is a change, so every share is computed afresh, and the end of the event leaves the
shares. -/
theorem portLimitRefreshesEveryShare : Obligations.PortLimitRefreshesEveryShare := by
  intro s calm f _ asks number pport change
  have put := put_putSetting s .pport pport
  let u : State := { s with settings := s.settings.set .pport pport }
  have acts : s.putSetting .pport pport = u.refreshShares := if_neg (Ne.symm change)
  have fsess : u.cfg .fsess = s.cfg .fsess := get_set_ne _ _ (by decide)
  have limit : u.cfg .pport = pport := get_set_self ..
  have calm : u.refreshShares.Calm := calm_of_ground ((ground_refreshShares u).trans rfl) calm
  have shares := refreshShares_share u
  refine ⟨_, (setSetting_numbered (i := .pport) asks number).trans (congrArg _ (setNumbered_taken f (.inl rfl))), ?_⟩
  change State.cfg (State.settle (State.reply (s.putSetting .pport pport) _ _ _)) _ = _ ∧ _
  rw [acts] at put ⊢
  generalize u.refreshShares = v at *
  refine ⟨(cfg_of_kept (kept_settle _) _).trans put.value, fun i => ?_⟩
  have spec := shareNow_spec u i rfl
  rw [fsess, limit] at spec
  rw [share_answered calm, shares]
  exact spec

end Sys2Proof.Machine


/-! The targets of a computation (O18). -/

namespace Sys2Proof.Machine

/-! ### Bays in an order, and those whose floors fit (R31, R32) -/

theorem insert_perm {α : Type} (key : α → Nat) (x : α) (l : List α) : (sortByKey.insert key x l).Perm (x :: l) := by
  induction l with
  | nil => exact .refl _
  | cons y l ih =>
    unfold sortByKey.insert
    split
    · exact .refl _
    · exact (ih.cons y).trans (.swap x y l)

theorem sortByKey_perm {α : Type} (key : α → Nat) (l : List α) : (sortByKey key l).Perm l := by
  induction l with
  | nil => exact .refl _
  | cons x l ih => exact (insert_perm key x _).trans (ih.cons x)

theorem fitFloors_sublist (floor : BayIx → Nat) (alloc : Nat) (l : List BayIx) :
    (fitFloors floor alloc l).Sublist l := by
  induction l with
  | nil => exact .refl _
  | cons x l ih =>
    unfold fitFloors
    split
    · exact .refl _
    · exact ih.cons x

/-- Stage A leaves bays whose floors fit (R32). -/
theorem fitFloors_fit (floor : BayIx → Nat) (alloc : Nat) (l : List BayIx) :
    ((fitFloors floor alloc l).map floor).sum ≤ alloc := by
  induction l with
  | nil => exact Nat.zero_le _
  | cons x l ih =>
    unfold fitFloors
    split
    · assumption
    · exact ih

/-- The candidates are the eligible bays without a grant (R31). -/
theorem mem_candidates {s : State} {i : BayIx} :
    i ∈ s.candidates ↔ eligibleNow (s.bay i) = true ∧ (s.bay i).commanded = 0 := by
  unfold State.candidates
  simp [(sortByKey_perm ..).mem_iff, mem_allBays]

theorem candidates_nodup (s : State) : s.candidates.Nodup :=
  (sortByKey_perm ..).nodup_iff.2 (allBays_nodup.filter _)

/-- An admitted bay is eligible, and has a grant or is one of the first candidates (R31). -/
theorem mem_admitted {s : State} {i : BayIx} (h : i ∈ s.admitted) :
    eligibleNow (s.bay i) = true ∧ ((s.bay i).commanded = 0 → i ∈ s.candidates.take (s.cfg .batch)) := by
  unfold State.admitted at h
  obtain h | h := List.mem_append.1 h
  · simp only [List.mem_filter, Bool.and_eq_true, decide_eq_true_eq] at h
    exact ⟨h.2.1, fun none => absurd none h.2.2⟩
  · exact ⟨(mem_candidates.1 (List.mem_of_mem_take h)).1, fun _ => h⟩

theorem admitted_nodup (s : State) : s.admitted.Nodup := by
  unfold State.admitted
  refine List.nodup_append.2 ⟨allBays_nodup.filter _, (candidates_nodup s).sublist (List.take_sublist ..), ?_⟩
  rintro i granted _ candidate rfl
  have none := (mem_candidates.1 (List.mem_of_mem_take candidate)).2
  simp [none] at granted

theorem floored_nodup (s : State) : s.floored.Nodup := by
  refine List.Nodup.sublist (fitFloors_sublist ..) (List.nodup_reverse.2 ?_)
  exact (sortByKey_perm ..).nodup_iff.2 (admitted_nodup s)

theorem mem_admitted_of_floored {s : State} {i : BayIx} (h : i ∈ s.floored) : i ∈ s.admitted := by
  have := (fitFloors_sublist ..).subset h
  exact (sortByKey_perm ..).mem_iff.1 (List.mem_reverse.1 this)

/-! ### One tier served (R33) -/

theorem shareLevel_fit (hs : List Nat) (r n : Nat) : (hs.map fun h => min h (shareLevel hs r n)).sum ≤ r := by
  induction n with
  | zero => simp [shareLevel]
  | succ n ih =>
    unfold shareLevel
    split
    · assumption
    · exact ih

/-- One more for each of some bays is at most one for each of them. -/
theorem sum_more_le {bays more : List BayIx} (once : bays.Nodup) :
    (bays.map fun i => if more.contains i then 1 else 0).sum ≤ more.length := by
  have count : (bays.map fun i => if more.contains i then 1 else 0).sum = (bays.filter more.contains).length := by
    clear once
    induction bays with
    | nil => rfl
    | cons i l ih =>
      rw [List.map_cons, List.sum_cons, ih, List.filter_cons]
      split
      · rw [List.length_cons, Nat.add_comm]
      · rw [Nat.zero_add]
  rw [count]
  refine (List.Nodup.subperm (once.filter _) fun i h => ?_).length_le
  simpa using (List.mem_filter.1 h).2

/-- What a tier gets: each bay at most the room above its floor, all of it where a remainder is left, and no more in
all than there was. -/
structure TierServed (h : BayIx → Nat) (bays : List BayIx) (r : Nat) (got : List (BayIx × Nat)) (rest : Nat) : Prop where
  bays : got.map (·.1) = bays
  room : ∀ e ∈ got, e.2 ≤ h e.1
  fits : (got.map (·.2)).sum + rest ≤ r
  full : rest ≠ 0 → ∀ e ∈ got, e.2 = h e.1

theorem tierServed_serveTier (h : BayIx → Nat) {bays : List BayIx} (once : bays.Nodup) (r : Nat) :
    TierServed h bays r (serveTier h bays r).1 (serveTier h bays r).2 := by
  unfold serveTier
  dsimp only
  split
  · next fits =>
    refine ⟨by simp [Function.comp_def], ?_, ?_, fun _ => ?_⟩
    · simp
    · have : ((bays.map fun i => (i, h i)).map (·.2)) = bays.map h := by simp [Function.comp_def]
      rw [this]
      omega
    · simp
  · next exceeds =>
    generalize level : shareLevel (bays.map h) r ((bays.map h).foldl max 0) = l
    have low : ((bays.map h).map fun x => min x l).sum ≤ r := level ▸ shareLevel_fit ..
    generalize taken : ((bays.filter fun i => l < h i).take (r - ((bays.map h).map fun x => min x l).sum)) = more
    have few : more.length ≤ r - ((bays.map h).map fun x => min x l).sum := by
      rw [← taken]; exact List.length_take_le ..
    have above : ∀ i, more.contains i = true → l < h i := fun i m => by
      rw [← taken] at m
      simpa using (List.mem_filter.1 (List.mem_of_mem_take (List.contains_iff_mem.1 m))).2
    refine ⟨by simp [Function.comp_def], ?_, ?_, fun none => absurd rfl none⟩
    · intro e m
      obtain ⟨i, -, rfl⟩ := List.mem_map.1 m
      dsimp only
      split
      · next here => have := above i here; omega
      · omega
    · have split_ : ((bays.map fun i => (i, min (h i) l + if more.contains i then 1 else 0)).map (·.2)).sum =
          ((bays.map h).map fun x => min x l).sum + (bays.map fun i => if more.contains i then 1 else 0).sum := by
        rw [List.map_map, List.map_map, ← List.sum_map_add]
        rfl
      have := sum_more_le (more := more) once
      rw [split_]
      omega

/-! ### The tiers served in turn (R33) -/

/-- The tiers of a list served in turn from a remainder. -/
def serveFrom (h tier : BayIx → Nat) (bays : List BayIx) : List Nat → Nat → List (BayIx × Nat)
  | [], _ => []
  | t :: ts, r =>
    (serveTier h (bays.filter fun i => tier i = t) r).1 ++
      serveFrom h tier bays ts (serveTier h (bays.filter fun i => tier i = t) r).2

/-- What the tiers served in turn get: a later tier gets more than floors only where an earlier one has its caps. -/
structure TiersServed (h tier : BayIx → Nat) (bays : List BayIx) (ts : List Nat) (r : Nat) (got : List (BayIx × Nat)) :
    Prop where
  mem : ∀ e ∈ got, e.1 ∈ bays ∧ tier e.1 ∈ ts
  once : (got.map (·.1)).Nodup
  room : ∀ e ∈ got, e.2 ≤ h e.1
  fits : (got.map (·.2)).sum ≤ r
  turn : ∀ e ∈ got, ∀ e' ∈ got, tier e.1 < tier e'.1 → e'.2 ≠ 0 → e.2 = h e.1

theorem tiersServed_serveFrom (h tier : BayIx → Nat) {bays : List BayIx} (once : bays.Nodup) {ts : List Nat}
    (order : ts.Pairwise (· < ·)) (r : Nat) : TiersServed h tier bays ts r (serveFrom h tier bays ts r) := by
  induction ts generalizing r with
  | nil => exact ⟨by simp [serveFrom], by simp [serveFrom], by simp [serveFrom], by simp [serveFrom], by simp [serveFrom]⟩
  | cons t ts ih =>
    obtain ⟨first, order⟩ := List.pairwise_cons.1 order
    obtain ⟨own, room, fits, full⟩ := tierServed_serveTier h (once.filter fun i => tier i = t) r
    unfold serveFrom
    generalize serveTier h (bays.filter fun i => tier i = t) r = now at *
    obtain ⟨mem', once', room', fits', turn'⟩ := ih order now.2
    generalize serveFrom h tier bays ts now.2 = later at *
    have here : ∀ e ∈ now.1, e.1 ∈ bays ∧ tier e.1 = t := fun e m => by
      have : e.1 ∈ now.1.map (·.1) := List.mem_map_of_mem m
      rw [own] at this
      simpa using this
    have total : ∀ {e}, e ∈ later → e.2 ≤ (later.map (·.2)).sum := fun m =>
      List.single_le_sum (fun _ _ => Nat.zero_le _) _ (List.mem_map_of_mem m)
    refine ⟨fun e m => ?_, ?_, fun e m => ?_, ?_, fun e m e' m' less more => ?_⟩
    · obtain m | m := List.mem_append.1 m
      · exact ⟨(here e m).1, by simp [(here e m).2]⟩
      · exact ⟨(mem' e m).1, List.mem_cons_of_mem _ (mem' e m).2⟩
    · rw [List.map_append, own]
      refine List.nodup_append.2 ⟨once.filter _, once', ?_⟩
      rintro i a _ b rfl
      obtain ⟨e, m, rfl⟩ := List.mem_map.1 b
      have tier_ := first _ (mem' e m).2
      simp only [List.mem_filter, decide_eq_true_eq] at a
      omega
    · obtain m | m := List.mem_append.1 m
      · exact room e m
      · exact room' e m
    · rw [List.map_append, List.sum_append]
      omega
    · obtain m | m := List.mem_append.1 m <;> obtain m' | m' := List.mem_append.1 m'
      · have := (here e m).2
        have := (here e' m').2
        omega
      · refine full ?_ e m
        have := total m'
        omega
      · have := first _ (mem' e m).2
        have := (here e' m').2
        omega
      · exact turn' e m e' m' less more

/-! ### The targets (R31 to R33) -/

/-- The room of a bay above its floor. -/
def State.above (s : State) (i : BayIx) : Nat := (s.bay i).share.cap - (s.bay i).share.floor

theorem serveTiers_eq (s : State) : s.serveTiers =
    serveFrom s.above (fun i => (s.bay i).share.tier) s.floored.reverse [0, 1, 2, 3]
      (s.allocatable - (s.floored.reverse.map fun i => (s.bay i).share.floor).sum) := by
  simp [State.serveTiers, serveFrom]
  rfl

/-- Stage B over the bays that stage A leaves. -/
theorem tiersServed (s : State) : TiersServed s.above (fun i => (s.bay i).share.tier) s.floored.reverse [0, 1, 2, 3]
    (s.allocatable - (s.floored.reverse.map fun i => (s.bay i).share.floor).sum) s.serveTiers := by
  rw [serveTiers_eq]
  exact tiersServed_serveFrom _ _ (List.nodup_reverse.2 (floored_nodup s)) (by decide) _

/-- A table of targets with some entries written. -/
def writeTargets (f : BayIx × Nat → Nat) (l : List (BayIx × Nat)) (v : Vector Nat 36) : Vector Nat 36 :=
  l.foldl (fun v e => v.set e.1.1 (f e) e.1.2) v

theorem writeTargets_not_mem (f : BayIx × Nat → Nat) {l : List (BayIx × Nat)} (v : Vector Nat 36) {i : BayIx}
    (h : i ∉ l.map (·.1)) : (writeTargets f l v)[i.1] = v[i.1] := by
  induction l generalizing v with
  | nil => rfl
  | cons e l ih =>
    simp only [List.map_cons, List.mem_cons, not_or] at h
    refine (ih _ h.2).trans (Vector.getElem_set_ne _ _ fun same => h.1 (Fin.ext same.symm))

theorem writeTargets_mem (f : BayIx × Nat → Nat) {l : List (BayIx × Nat)} (once : (l.map (·.1)).Nodup)
    (v : Vector Nat 36) {e : BayIx × Nat} (h : e ∈ l) : (writeTargets f l v)[e.1.1] = f e := by
  induction l generalizing v with
  | nil => cases h
  | cons x l ih =>
    obtain ⟨only, once⟩ := List.nodup_cons.1 once
    obtain rfl | h := List.mem_cons.1 h
    · exact (writeTargets_not_mem f _ only).trans (Vector.getElem_set_self ..)
    · exact ih once _ h

/-- What is written adds at most its own sum. -/
theorem sum_writeTargets (f : BayIx × Nat → Nat) (l : List (BayIx × Nat)) (v : Vector Nat 36) :
    (allBays.map fun i => (writeTargets f l v)[i.1]).sum ≤ (allBays.map fun i => v[i.1]).sum + (l.map f).sum := by
  induction l generalizing v with
  | nil => simp [writeTargets]
  | cons e l ih =>
    have set : (allBays.map fun i => (v.set e.1.1 (f e) e.1.2)[i.1]).sum ≤ (allBays.map fun i => v[i.1]).sum + f e := by
      have split : ∀ w : Vector Nat 36, (allBays.map fun i => w[i.1]).sum =
          w[e.1.1] + ((allBays.erase e.1).map fun i => w[i.1]).sum := fun w =>
        (List.sum_map_erase (fun i : BayIx => w[i.1]) (mem_allBays e.1)).symm
      have rest : ((allBays.erase e.1).map fun i => (v.set e.1.1 (f e) e.1.2)[i.1]) =
          (allBays.erase e.1).map fun i => v[i.1] :=
        List.map_congr_left fun i m => Vector.getElem_set_ne _ _ fun same =>
          ((List.Nodup.mem_erase_iff allBays_nodup).1 m).1 (Fin.ext same.symm)
      rw [split, split v, rest, Vector.getElem_set_self]
      omega
    have later := ih (v.set e.1.1 (f e) e.1.2)
    rw [List.map_cons, List.sum_cons]
    exact later.trans (by omega)

theorem targetsNow_eq (s : State) : s.targetsNow =
    writeTargets (fun e => (s.bay e.1).share.floor + e.2) s.serveTiers (Vector.replicate 36 0) := rfl

/-- A target other than 0 is the floor of a bay that stage B served, and what it got (R32, R33). -/
theorem target_served {s : State} {i : BayIx} (h : s.targetsNow[i.1] ≠ 0) :
    ∃ n, (i, n) ∈ s.serveTiers ∧ s.targetsNow[i.1] = (s.bay i).share.floor + n := by
  have once := (tiersServed s).once
  rw [targetsNow_eq] at h ⊢
  generalize s.serveTiers = served at *
  by_cases m : i ∈ served.map (·.1)
  · obtain ⟨⟨j, n⟩, here, rfl⟩ := List.mem_map.1 m
    exact ⟨n, here, writeTargets_mem (fun e => (s.bay e.1).share.floor + e.2) once (Vector.replicate 36 0) here⟩
  · rw [writeTargets_not_mem _ _ m] at h
    simp at h

/-- The targets sum to no more than the allocatable pool (R32, R33). -/
theorem sum_targetsNow (s : State) : (allBays.map fun i => s.targetsNow[i.1]).sum ≤ s.allocatable := by
  have blank : (allBays.map fun i => (Vector.replicate 36 0 : Vector Nat 36)[i.1]).sum = 0 := by simp
  have written := sum_writeTargets (fun e => (s.bay e.1).share.floor + e.2) s.serveTiers (Vector.replicate 36 0)
  rw [← targetsNow_eq, blank, Nat.zero_add, List.sum_map_add] at written
  have floors : (s.floored.reverse.map fun i => (s.bay i).share.floor).sum ≤ s.allocatable := by
    rw [List.map_reverse, List.sum_reverse]
    exact fitFloors_fit ..
  obtain ⟨mem, once, -, fits, -⟩ := tiersServed s
  have least : (s.serveTiers.map fun e => (s.bay e.1).share.floor).sum ≤
      (s.floored.reverse.map fun i => (s.bay i).share.floor).sum := by
    generalize s.serveTiers = served at *
    generalize s.floored.reverse = bays at *
    have sub : (served.map (·.1)).Subperm bays := once.subperm fun i m => by
      obtain ⟨e, here, rfl⟩ := List.mem_map.1 m
      exact (mem e here).1
    obtain ⟨l, perm, sublist⟩ := sub
    have same : (served.map fun e => (s.bay e.1).share.floor) = (served.map (·.1)).map fun i => (s.bay i).share.floor := by
      rw [List.map_map]; rfl
    rw [same, ← (perm.map _).sum_eq]
    exact (sublist.map _).sum_le_sum fun _ _ => Nat.zero_le _
  exact written.trans ((Nat.add_le_add least fits).trans (Nat.add_sub_cancel' floors).le)

/-- Settles O18: the sums, and each target as a floor with what its tier got. -/
theorem targetsFitTheAllocatablePool : Obligations.TargetsFitTheAllocatablePool := by
  intro s
  refine ⟨sum_targetsNow s, ?_⟩
  have target := fun i => target_served (s := s) (i := i)
  generalize s.targetsNow = goal at *
  obtain ⟨mem, -, room, -, turn⟩ := tiersServed s
  generalize s.serveTiers = served at *
  have admitted : ∀ i n, (i, n) ∈ served → i ∈ s.admitted := fun i n m =>
    mem_admitted_of_floored (List.mem_reverse.1 (mem (i, n) m).1)
  refine ⟨?_, fun i some => ?_, fun i j some less more => ?_⟩
  · have sub : (allBays.filter fun i => (s.bay i).commanded = 0 && goal[i.1] != 0).Subperm
        (s.candidates.take (s.cfg .batch)) := (allBays_nodup.filter _).subperm fun i m => by
      simp only [List.mem_filter, Bool.and_eq_true, decide_eq_true_eq, bne_iff_ne] at m
      obtain ⟨n, here, -⟩ := target i m.2.2
      exact (mem_admitted (admitted i n here)).2 m.2.1
    exact sub.length_le.trans (List.length_take_le ..)
  · obtain ⟨n, here, value⟩ := target i some
    have room : n ≤ (s.bay i).share.cap - (s.bay i).share.floor := room (i, n) here
    exact ⟨(mem_admitted (admitted i n here)).1, by omega, by omega⟩
  · obtain ⟨n, here, value⟩ := target i some
    obtain ⟨n', there, value'⟩ := target j (by omega)
    have full : n = (s.bay i).share.cap - (s.bay i).share.floor :=
      turn (i, n) here (j, n') there less (by dsimp only; omega)
    omega

end Sys2Proof.Machine


/-! What each bay's node last said, and what an ending makes of it (O23 to O26): the link, the report stored, and the tests
of the charge part. -/

namespace Sys2Proof.Machine

section
variable {s t : State} {i : BayIx}

/-! ### The reports of a state -/

/-- What each bay's node and the loop last said of it. -/
def State.reports (s : State) : BayIx → Seen := fun i => (s.bay i).seen

theorem reports_of_ground (h : t.ground = s.ground) : t.reports = s.reports := congrArg Ground.seen h

theorem reports_modBay (s : State) (i : BayIx) (f : Bay → Bay) :
    (s.modBay i f).reports = Function.update s.reports i (f (s.bay i)).seen := by
  funext j
  unfold State.reports
  rw [bay_modBay]
  by_cases e : j = i
  · subst e; simp
  · simp [e]

/-- A bay changed in fields that its node does not report. -/
theorem reports_modBay_same (s : State) (i : BayIx) (f : Bay → Bay) (h : (f (s.bay i)).seen = (s.bay i).seen) :
    (s.modBay i f).reports = s.reports :=
  reports_of_ground (ground_modBay s i f h)

theorem seen_of_update {x : Seen} (h : t.reports = Function.update s.reports i x) :
    (t.bay i).seen = x ∧ ∀ j, j ≠ i → (t.bay j).seen = (s.bay j).seen := by
  have at_ : ∀ j, (t.bay j).seen = Function.update s.reports i x j := fun j => congrFun h j
  exact ⟨by rw [at_]; simp, fun j ne => by rw [at_, Function.update_of_ne ne]; rfl⟩

/-! ### The link (R140, R141) -/

/-- What is known of a bay that has answered (R140, R141). -/
def Seen.heard (x : Seen) : Seen :=
  if x.link = .lost then { x with link := .linked, miss := 0, lostAt := none, resync := true } else { x with miss := 0 }

theorem reports_heard (s : State) (i : BayIx) :
    (s.heard i).reports = Function.update s.reports i (s.reports i).heard := by
  unfold State.heard State.relink Seen.heard
  by_cases lost : (s.bay i).link = .lost
  · have lost' : (s.reports i).link = .lost := lost
    rw [if_pos lost, if_pos lost', reports_of_ground (ground_grantSlots _), reports_of_ground (ground_dispatch _),
      reports_modBay]
    rfl
  · have linked : ¬(s.reports i).link = .lost := lost
    rw [if_neg lost, if_neg linked, reports_modBay]
    rfl

/-- What is known of a bay that has missed an answer (R140, R160). -/
def Seen.missed (x : Seen) (now : Secs) : Seen :=
  if x.miss < 3 then
    if x.miss = 2 ∧ x.link = .linked then
      { x with
        miss := x.miss + 1, link := .lost, lostAt := some now
        recon := if x.recon = .none then .none else .deferred }
    else { x with miss := x.miss + 1 }
  else x

theorem reports_linkLost (s : State) (i : BayIx) : (s.linkLost i).reports =
    Function.update s.reports i
      { s.reports i with
        link := .lost, lostAt := some s.retained.seconds
        recon := if (s.reports i).recon = .none then .none else .deferred } := by
  unfold State.linkLost
  dsimp only
  rw [reports_of_ground (ground_leaveReady ..), reports_of_ground (ground_stopSeating ..),
    reports_of_ground (ground_raise ..), reports_modBay]
  rfl

theorem reports_missed (s : State) (i : BayIx) :
    (s.missed i).reports = Function.update s.reports i ((s.reports i).missed s.retained.seconds) := by
  unfold State.missed Seen.missed
  dsimp only
  have counted := reports_modBay s i fun b => { b with miss := b.miss + 1 }
  by_cases few : (s.bay i).miss < 3
  · have few' : (s.reports i).miss < 3 := few
    rw [if_pos few, if_pos few']
    by_cases last : (s.bay i).miss = 2 ∧ (s.bay i).link = .linked
    · have last' : (s.reports i).miss = 2 ∧ (s.reports i).link = .linked := last
      rw [if_pos last, if_pos last', reports_linkLost, counted, Function.update_idem, Function.update_self]
      rfl
    · have on : ¬((s.reports i).miss = 2 ∧ (s.reports i).link = .linked) := last
      rw [if_neg last, if_neg on, counted]
      rfl
  · have many : ¬(s.reports i).miss < 3 := few
    rw [if_neg few, if_neg many, Function.update_eq_self]

/-! ### The charge part of a STATUS (R24, R44 to R46) -/

/-- The charge fields of a report stored (R24). -/
def Seen.stored (x : Seen) (k : Block) : Seen :=
  { x with
    applied := k.limit, resync := false, soc := k.soc, pneg := pnegTaken k.pneg, measured := min k.measured 60
    overTemp := k.overTemp, short := k.short }

theorem reports_setGrants (s : State) (i : BayIx) (a c : Nat) :
    (s.setGrants i a c).reports = Function.update s.reports i { s.reports i with applied := a } := by
  funext j
  unfold State.reports
  rw [bay_setGrants]
  by_cases e : j = i
  · subst e; simp [seen_eq]
  · simp [e]

theorem reports_storeCharge (s : State) (i : BayIx) (k : Block) :
    (s.storeCharge i k).reports = Function.update s.reports i ((s.reports i).stored k) := by
  unfold State.storeCharge
  dsimp only
  have granted := reports_setGrants s i k.limit (if (s.bay i).resync then k.limit else (s.bay i).commanded)
  generalize s.setGrants i _ _ = t at granted ⊢
  have own : (t.bay i).seen = { s.reports i with applied := k.limit } := (seen_of_update granted).1
  rw [reports_modBay, granted, Function.update_idem]
  congr 1
  simp only [seen_eq] at own ⊢
  simp_all [Seen.stored]

/-- The Overdraw fault taken. -/
def Seen.overdrawn (x : Seen) : Seen := { x with overdraw := true, overdrawCount := 0 }

theorem reports_takeOverdraw (s : State) (i : BayIx) (why : Reason) :
    (s.takeOverdraw i why).reports = Function.update s.reports i (s.reports i).overdrawn := by
  unfold State.takeOverdraw
  dsimp only
  rw [reports_of_ground (ground_leaveReady ..), reports_of_ground (ground_raise ..),
    reports_of_ground (ground_faultGrant ..), reports_modBay]
  rfl

/-- The overdraw test (R44). -/
def Seen.overdrawTested (x : Seen) : Seen :=
  if x.overdraw then x
  else if overBound x.applied < x.measured then
    if 2 ≤ x.overdrawCount then x.overdrawn else { x with overdrawCount := x.overdrawCount + 1 }
  else { x with overdrawCount := 0 }

theorem reports_testOverdraw (s : State) (i : BayIx) :
    (s.testOverdraw i).reports = Function.update s.reports i (s.reports i).overdrawTested := by
  have same : (s.bay i).seen = s.reports i := rfl
  have fields : (s.bay i).overdraw = (s.reports i).overdraw ∧ (s.bay i).applied = (s.reports i).applied ∧
      (s.bay i).measured = (s.reports i).measured ∧ (s.bay i).overdrawCount = (s.reports i).overdrawCount :=
    ⟨rfl, rfl, rfl, rfl⟩
  obtain ⟨overdraw, applied, measured, count⟩ := fields
  unfold State.testOverdraw Seen.overdrawTested
  simp only [overdraw, applied, measured, count]
  split
  · rw [Function.update_eq_self]
  · split
    · split
      · exact reports_takeOverdraw ..
      · exact reports_modBay ..
    · exact reports_modBay ..

/-- The short test (R45). -/
def Seen.shortTested (x : Seen) : Seen := if x.short && !x.overdraw then x.overdrawn else x

theorem reports_testShort (s : State) (i : BayIx) :
    (s.testShort i).reports = Function.update s.reports i (s.reports i).shortTested := by
  unfold State.testShort Seen.shortTested
  by_cases h : ((s.bay i).short && !(s.bay i).overdraw) = true
  · have h' : ((s.reports i).short && !(s.reports i).overdraw) = true := h
    rw [if_pos h, if_pos h', reports_takeOverdraw]
  · have h' : ¬((s.reports i).short && !(s.reports i).overdraw) = true := h
    rw [if_neg h, if_neg h', Function.update_eq_self]

/-- The over-temperature test (R46), with whether the bay has cooled. -/
def Seen.hotTested (x : Seen) (now : Secs) (cooled : Bool) : Seen :=
  if x.overTemp then { x with hot := true, hotTime := some now }
  else if x.hot && cooled then { x with hot := false }
  else x

theorem reports_takeHot (s : State) (i : BayIx) :
    (s.takeHot i).reports = Function.update s.reports i { s.reports i with hot := true } := by
  unfold State.takeHot
  dsimp only
  rw [reports_of_ground (ground_leaveReady ..), reports_of_ground (ground_raise ..),
    reports_of_ground (ground_faultGrant ..), reports_modBay]
  rfl

theorem reports_testHot (s : State) (i : BayIx) : (s.testHot i).reports =
    Function.update s.reports i ((s.reports i).hotTested s.retained.seconds (s.cooled i)) := by
  have overTemp : (s.bay i).overTemp = (s.reports i).overTemp := rfl
  have hot : (s.bay i).hot = (s.reports i).hot := rfl
  have timed := reports_modBay s i fun b => { b with hotTime := some s.retained.seconds }
  unfold State.testHot Seen.hotTested
  simp only [overTemp, hot]
  split
  · split
    · next already =>
      rw [timed]
      have : (s.reports i).hot = true := already
      congr 1
      rw [← this]
      rfl
    · rw [reports_takeHot, timed, Function.update_idem, Function.update_self]
      rfl
  · split
    · exact reports_modBay s i fun b => { b with hot := false }
    · rw [Function.update_eq_self]

/-- What the charge part of a report makes of what is known of a bay (R24, R44 to R46). -/
structure Seen.Charged (x y : Seen) (k : Block) (now : Secs) : Prop where
  link : y.link = x.link
  miss : y.miss = x.miss
  lostAt : y.lostAt = x.lostAt
  presence : y.presence = x.presence
  bolt : y.bolt = x.bolt
  applied : y.applied = k.limit
  soc : y.soc = k.soc
  pneg : y.pneg = pnegTaken k.pneg
  measured : y.measured = min k.measured 60
  overTemp : y.overTemp = k.overTemp
  short : y.short = k.short
  hot : k.overTemp = true → y.hot = true ∧ y.hotTime = some now
  shorted : k.short = true → y.overdraw = true
  third : x.overdraw = false → x.overdrawCount = 2 → overBound k.limit < min k.measured 60 →
    y.overdraw = true ∧ y.overdrawCount = 0

/-- What is known of a bay apart from its bay faults. -/
def Seen.faultless (x : Seen) : Seen := { x with overdraw := false, overdrawCount := 0, hot := false, hotTime := none }

theorem overdrawTested_faultless (x : Seen) : x.overdrawTested.faultless = x.faultless := by
  unfold Seen.overdrawTested
  split_ifs <;> rfl

theorem shortTested_faultless (x : Seen) : x.shortTested.faultless = x.faultless := by
  unfold Seen.shortTested
  split_ifs <;> rfl

theorem hotTested_faultless (x : Seen) (now : Secs) (cooled : Bool) : (x.hotTested now cooled).faultless = x.faultless := by
  unfold Seen.hotTested
  split_ifs <;> rfl

/-- The third report in a row over the bound is the fault (R44). -/
theorem overdrawTested_third {x : Seen} (sound : x.overdraw = false) (two : x.overdrawCount = 2)
    (high : overBound x.applied < x.measured) : x.overdrawTested = x.overdrawn := by
  unfold Seen.overdrawTested
  rw [if_neg (by simp [sound]), if_pos high, if_pos (by omega)]

theorem shortTested_short {x : Seen} (short : x.short = true) : x.shortTested.overdraw = true := by
  unfold Seen.shortTested
  split
  · rfl
  · next h => simpa [short] using h

theorem shortTested_overdrawn {x : Seen} (h : x.overdraw = true) : x.shortTested = x := by
  simp [Seen.shortTested, h]

theorem hotTested_overdraw (x : Seen) (now : Secs) (cooled : Bool) :
    (x.hotTested now cooled).overdraw = x.overdraw ∧ (x.hotTested now cooled).overdrawCount = x.overdrawCount := by
  unfold Seen.hotTested
  split_ifs <;> exact ⟨rfl, rfl⟩

theorem hotTested_hot {x : Seen} (hot : x.overTemp = true) (now : Secs) (cooled : Bool) :
    (x.hotTested now cooled).hot = true ∧ (x.hotTested now cooled).hotTime = some now := by
  unfold Seen.hotTested
  rw [if_pos hot]
  exact ⟨rfl, rfl⟩

theorem charged_tested (x : Seen) (k : Block) (now : Secs) (cooled : Bool) :
    x.Charged ((((x.stored k).overdrawTested).shortTested).hotTested now cooled) k now := by
  have drawn := overdrawTested_faultless (x.stored k)
  have third := overdrawTested_third (x := x.stored k)
  generalize (x.stored k).overdrawTested = y at drawn third ⊢
  have same := (shortTested_faultless y).trans drawn
  have short := shortTested_short (x := y)
  have already := shortTested_overdrawn (x := y)
  generalize y.shortTested = z at same short already ⊢
  have whole := (hotTested_faultless z now cooled).trans same
  obtain ⟨overdraw, count⟩ := hotTested_overdraw z now cooled
  have hot := hotTested_hot (x := z) (now := now) (cooled := cooled)
  generalize z.hotTested now cooled = w at whole overdraw count hot ⊢
  have field : ∀ {α : Type} (f : Seen → α), f w.faultless = f (x.stored k).faultless := fun f => congrArg f whole
  refine ⟨field Seen.link, field Seen.miss, field Seen.lostAt, field Seen.presence, field Seen.bolt, field Seen.applied,
    field Seen.soc, field Seen.pneg, field Seen.measured, field Seen.overTemp, field Seen.short, fun e => ?_, fun e => ?_,
    fun sound two high => ?_⟩
  · exact hot ((congrArg Seen.overTemp same : z.overTemp = k.overTemp).trans e)
  · exact overdraw.trans (short ((congrArg Seen.short drawn : y.short = k.short).trans e))
  · have fault := third sound two high
    subst fault
    rw [overdraw, count, already rfl]
    exact ⟨rfl, rfl⟩

/-- The charge part of a report (R24). -/
theorem reports_applyCharge (s : State) (i : BayIx) (k : Block) : ∃ y,
    (s.applyCharge i k).reports = Function.update s.reports i y ∧ (s.reports i).Charged y k s.retained.seconds := by
  have stored := reports_storeCharge s i k
  have drawn := reports_testOverdraw (s.storeCharge i k) i
  have short := reports_testShort ((s.storeCharge i k).testOverdraw i) i
  have hot := reports_testHot (((s.storeCharge i k).testOverdraw i).testShort i) i
  have kept : (((s.storeCharge i k).testOverdraw i).testShort i).kept = s.kept := by simp
  unfold State.applyCharge
  dsimp only
  generalize (((s.storeCharge i k).testOverdraw i).testShort i).cooled i = cooled at hot
  rw [retained_of_kept kept, short, drawn, stored] at hot
  simp only [Function.update_idem, Function.update_self] at hot
  refine ⟨_, ?_, charged_tested (s.reports i) k s.retained.seconds cooled⟩
  rw [← hot]
  generalize (((s.storeCharge i k).testOverdraw i).testShort i).testHot i = t
  split
  · rw [reports_of_ground (ground_dispatch _), reports_of_ground (ground_refreshShare ..)]
  · exact reports_of_ground (ground_refreshShare ..)

/-! ### The custody part of a STATUS and its distribution (R56, R143, R160) -/

/-- A decision clears the bay's mark and leaves the rest (R160). -/
theorem reports_decide (s : State) (i : BayIx) (read : Option AssetId) :
    (s.decide i read).reports = Function.update s.reports i { s.reports i with recon := .none } := by
  have begun : (((s.dropBolt i).stopSeating i).modBay i fun b => { b with admission := false, recon := .none }).reports =
      Function.update s.reports i { s.reports i with recon := .none } := by
    have same : ((s.dropBolt i).stopSeating i).reports = s.reports := reports_of_ground (by simp)
    rw [reports_modBay, ← same]
    rfl
  unfold State.decide
  dsimp only
  rw [reports_of_ground (ground_compareLamp ..)]
  generalize State.modBay _ i _ = u at begun ⊢
  split
  · exact (reports_of_ground (ground_decideWarm ..)).trans begun
  · exact (reports_of_ground (ground_decideCold ..)).trans begun

theorem reports_reconReport (s : State) (i : BayIx) : ∃ r,
    (s.reconReport i).reports = Function.update s.reports i { s.reports i with recon := r } := by
  have same : Function.update s.reports i { s.reports i with recon := (s.reports i).recon } = s.reports :=
    Function.update_eq_self i s.reports
  unfold State.reconReport
  dsimp only
  split
  · split
    · refine ⟨(s.reports i).recon, ?_⟩
      rw [same, reports_of_ground (ground_place ..)]
      exact reports_modBay_same _ _ _ rfl
    · exact ⟨_, same.symm⟩
  · exact ⟨_, reports_decide ..⟩

/-- The presence and the bolt position of a report stored (R56). -/
def Seen.shown (x : Seen) (k : Block) : Seen := { x with presence := some k.presence, bolt := some k.bolt }

theorem reports_custodyReport (s : State) (i : BayIx) (k : Block) : ∃ r,
    (s.custodyReport i k).reports = Function.update s.reports i { (s.reports i).shown k with recon := r } := by
  have stored := reports_modBay s i fun b =>
    { b with presence := some k.presence, bolt := some k.bolt, gone := b.gone && !k.presence }
  unfold State.custodyReport
  dsimp only
  generalize s.modBay i _ = u at stored ⊢
  have stored : u.reports = Function.update s.reports i ((s.reports i).shown k) := stored
  split
  · rw [reports_of_ground (ground_buttonPress ..), reports_of_ground (ground_judge ..), stored]
    exact ⟨((s.reports i).shown k).recon, rfl⟩
  · obtain ⟨r, e⟩ := reports_reconReport u i
    refine ⟨r, ?_⟩
    rw [e, stored, Function.update_idem, Function.update_self]

theorem reports_distribute (s : State) (i : BayIx) (k : Block) : ∃ r y,
    (s.distribute i k).reports = Function.update s.reports i y ∧
      Seen.Charged { (s.reports i).shown k with recon := r } y k s.retained.seconds := by
  obtain ⟨r, shown⟩ := reports_custodyReport s i k
  have kept := kept_custodyReport s i k
  unfold State.distribute
  rw [reports_of_ground (ground_compareLamp ..)]
  generalize s.custodyReport i k = u at shown kept ⊢
  obtain ⟨y, charged, spec⟩ := reports_applyCharge u i k
  rw [shown, Function.update_self, retained_of_kept kept] at spec
  exact ⟨r, y, by rw [charged, shown, Function.update_idem], spec⟩

/-! ### The clients told -/

/-- A STATUS answered leaves all but the bay's mark of reconciliation (R103, R144, R160). -/
theorem reports_told_status {t : Txn} (op : t.opCode = 0x04) (bay : t.bay? = some i) (s : State) (stale : Bool) (a : Answer) :
    ∃ r, (s.told t stale (.answer a)).reports = Function.update s.reports i { s.reports i with recon := r } := by
  have same : Function.update s.reports i { s.reports i with recon := (s.reports i).recon } = s.reports :=
    Function.update_eq_self i s.reports
  cases t with
  | verify k j => exact ⟨_, (reports_of_ground (ground_verifyTold ..)).trans same.symm⟩
  | scan j => exact ⟨_, same.symm⟩
  | recon j =>
    cases bay
    show ∃ r, (s.reconTold i (.answer a)).reports = _
    unfold State.reconTold
    split
    · exact ⟨_, same.symm⟩
    · exact ⟨_, same.symm⟩
    · dsimp only
      split
      · exact ⟨_, same.symm⟩
      · split
        · rw [reports_of_ground (ground_place ..), reports_modBay]
          exact ⟨_, rfl⟩
        · rw [reports_modBay]
          exact ⟨_, rfl⟩
  | _ => simp [Txn.opCode] at op

/-- An ending without an answer leaves all but what a LAMP of the bay has shown (R76). -/
theorem reports_told_noAnswer {t : Txn} (bay : t.bay? = some i) (s : State) (stale : Bool) :
    ∃ c, (s.told t stale .noAnswer).reports = Function.update s.reports i { s.reports i with lampShown := c } := by
  have same : Function.update s.reports i { s.reports i with lampShown := (s.reports i).lampShown } = s.reports :=
    Function.update_eq_self i s.reports
  have kept : ∀ {u : State}, u.ground = s.ground →
      ∃ c, u.reports = Function.update s.reports i { s.reports i with lampShown := c } := fun h =>
    ⟨_, (reports_of_ground h).trans same.symm⟩
  cases t with
  | lock k j d ms => exact kept (ground_lockTold ..)
  | verify k j => exact kept (ground_verifyTold ..)
  | grant k j w => exact kept ((ground_grantEnded ..).trans (ground_clearOutstanding ..))
  | tag j recon =>
    refine kept ?_
    unfold State.told State.tagTold
    dsimp only
    split_ifs
    · rfl
    · exact ground_place ..
    · rfl
  | scan j => exact ⟨_, same.symm⟩
  | recon j =>
    refine kept ?_
    show (s.reconTold j .noAnswer).ground = _
    unfold State.reconTold
    split
    · rfl
    · rfl
    · dsimp only
      split
      · exact ground_place ..
      · rfl
  | lamp j c =>
    cases bay
    exact ⟨none, reports_modBay ..⟩
  | _ => cases bay

end

end Sys2Proof.Machine


/-! What the work of custody, of the sessions and of the links leaves of the grants (O23 to O26): what is commanded, the
GRANTs that wait, the round, the transaction on the loop; and no bay enters the ready set. One lemma for each operation. -/

namespace Sys2Proof.Machine

section
variable {s t u : State} {i : BayIx}

/-- The grants, the round and the GRANTs that wait are left, the transaction on the loop too, and no bay enters the ready
set. -/
structure State.Spares (s t : State) : Prop where
  grants : t.grants = s.grants
  line : t.line = s.line
  ready : t.cust.readySet ⊆ s.cust.readySet
  unsent : ∀ y : Txn, y.client = .allocator → (y ∈ t.loop.unsent ↔ y ∈ s.loop.unsent)

theorem State.Spares.refl (s : State) : s.Spares s := ⟨rfl, rfl, fun _ h => h, fun _ _ => .rfl⟩

theorem State.Spares.trans (h : s.Spares t) (k : t.Spares u) : s.Spares u :=
  ⟨k.grants.trans h.grants, k.line.trans h.line, fun _ m => h.ready (k.ready m),
    fun y c => (k.unsent y c).trans (h.unsent y c)⟩

theorem State.Spares.ite {p : Prop} [Decidable p] (yes : s.Spares t) (no : s.Spares u) :
    s.Spares (if p then t else u) := by
  split
  · exact yes
  · exact no

theorem State.Spares.foldl {α : Type} (f : State → α → State) (h : ∀ (s : State) a, s.Spares (f s a)) (l : List α)
    (s : State) : s.Spares (l.foldl f s) := by
  induction l generalizing s with
  | nil => exact .refl s
  | cons a l ih => exact (h s a).trans (ih _)

/-- A step that leaves the loop and the ready set. -/
theorem State.Spares.of_loop (grants : t.grants = s.grants) (loop : t.loop = s.loop)
    (ready : t.cust.readySet ⊆ s.cust.readySet) : s.Spares t :=
  ⟨grants, by unfold State.line; rw [loop], ready, fun _ _ => by rw [loop]⟩

/-! ### Updates -/

theorem spares_modBay (s : State) (i : BayIx) (f : Bay → Bay) (c : (f (s.bay i)).commanded = (s.bay i).commanded)
    (o : (f (s.bay i)).outstanding = (s.bay i).outstanding) : s.Spares (s.modBay i f) :=
  .of_loop (grants_modBay s i f c o) rfl fun _ h => h

theorem spares_raise (s : State) (n : NoticeKind) (bay : Option BayIx) (asset : Option AssetId)
    (session : Option Nat) (value : Option Nat) (reason : Option Reason) :
    s.Spares (s.raise n bay asset session value reason) := by
  have grants := grants_raise s n bay asset session value reason
  obtain ⟨m, e, -⟩ := raise_spec s n bay asset session value reason
  rw [e] at grants ⊢
  exact .of_loop grants rfl fun _ h => h

theorem spares_mapRoster (s : State) (f : Entry → Entry) : s.Spares (s.mapRoster f) := .of_loop rfl rfl fun _ h => h

theorem spares_setSlot (s : State) (k : PulseSlot) (p : Option Pulse) : s.Spares (s.setSlot k p) :=
  .of_loop (grants_setSlot ..) (setSlot_loop ..) fun _ h => by rwa [setSlot_cust] at h

/-- A placement of another client replaces no GRANT and is none. -/
theorem replaces_allocator {t y : Txn} (own : y.client = .allocator) (other : t.client ≠ .allocator) :
    t.replaces? y = none := by
  cases t with
  | grant k i w => exact absurd rfl other
  | lamp i c =>
    cases y with
    | lamp j d => cases own
    | _ => rfl
  | _ => cases y <;> rfl

theorem spares_place (s : State) {t : Txn} (other : t.client ≠ .allocator) : s.Spares (s.place t) where
  grants := rfl
  line := line_of_hold (hold_place s t)
  ready _ h := h
  unsent y own := by
    refine ⟨fun m => State.NoNewGrants.place s other y m own, fun m => ?_⟩
    exact mem_put_of_mem (fun z r => by rw [replaces_allocator own other] at r; cases r) m

/-- Placements withdrawn that are no GRANTs. -/
theorem spares_withdraw (s : State) (p : Txn → Bool) (other : ∀ y : Txn, y.client = .allocator → p y = false) :
    s.Spares (s.withdraw p) where
  grants := rfl
  line := line_of_hold (hold_withdraw s p)
  ready _ h := h
  unsent y own := by
    refine (mem_drop_unsent s.loop p y).trans ⟨And.left, fun m => ⟨m, other y own⟩⟩

theorem spares_shared (h : s.Shared t) (grants : t.grants = s.grants) : s.Spares t := by
  obtain ⟨sess, round, bays, e, -⟩ := h
  exact .of_loop grants (by rw [e]) (by rw [e]; exact fun _ h => h)

theorem spares_dispatch (s : State) : s.Spares s.dispatch := spares_shared (shared_dispatch s) (grants_dispatch s)

theorem spares_refreshShare (s : State) (i : BayIx) : s.Spares (s.refreshShare i) :=
  spares_shared (shared_refreshShare s i) (grants_refreshShare s i)

theorem spares_compareLamp (s : State) (i : BayIx) : s.Spares (s.compareLamp i) := by
  unfold State.compareLamp
  dsimp only
  have lamp : ∀ c, s.Spares (s.place (.lamp i c)) := fun c => spares_place s (by simp [Txn.client])
  exact .ite (.refl s) (.ite (lamp _) (.ite (lamp _) (.refl s)))

theorem spares_grantSlot (s : State) : s.Spares s.grantSlot := by
  unfold State.grantSlot
  refine .ite ?_ (.refl s)
  split
  · exact .refl s
  · next e _ =>
    dsimp only
    unfold State.startAttempt
    have taken : s.Spares { s with arb := { s.arb with queue := s.arb.queue.filter fun x => x.1 ≠ e.1 } } :=
      .of_loop rfl rfl fun _ h => h
    exact taken.trans ((spares_setSlot ..).trans (spares_place _ (by simp [Txn.client])))

theorem spares_grantSlots (s : State) : s.Spares s.grantSlots := (spares_grantSlot s).trans (spares_grantSlot _)

/-! ### The ready set and the pulses -/

theorem spares_leaveReady (s : State) (i : BayIx) (why : Option Reason) : s.Spares (s.leaveReady i why) := by
  have grants := grants_leaveReady s i why
  obtain ⟨loop, -, -, cust, -⟩ := leaveReady_rest s i why
  exact .of_loop grants loop (by rw [cust]; exact List.filter_subset_self _)

theorem leaveReady_out (s : State) (i : BayIx) (why : Option Reason) : i ∉ (s.leaveReady i why).cust.readySet := by
  obtain ⟨-, -, -, cust, -⟩ := leaveReady_rest s i why
  rw [cust]
  simp

theorem spares_askBolt (s : State) (i : BayIx) (d : Dir) : s.Spares (s.askBolt i d) := by
  unfold State.askBolt
  split
  · exact .of_loop rfl rfl fun _ h => h
  · exact .ite (.refl s) (.of_loop rfl rfl fun _ h => h)
  · exact .refl s

theorem spares_dropBolt (s : State) (i : BayIx) : s.Spares (s.dropBolt i) := by
  unfold State.dropBolt
  split
  · exact .of_loop rfl rfl fun _ h => h
  · exact .refl s
  · exact .refl s

theorem spares_engageBay (s : State) (i : BayIx) : s.Spares (s.engageBay i) := by
  unfold State.engageBay
  split
  · exact (spares_dropBolt s i).trans (spares_askBolt ..)
  · exact spares_askBolt ..

/-! ### Custody reached -/

theorem spares_dropTag (s : State) (i : BayIx) : s.Spares (s.dropTag i) := by
  have withdrawn : s.Spares (s.withdraw fun t => match t with | .tag j _ => i = j | _ => false) :=
    spares_withdraw s _ fun y own => by
      cases y with
      | tag j recon => cases own
      | _ => rfl
  unfold State.dropTag
  dsimp only
  generalize s.withdraw _ = u at withdrawn ⊢
  split
  · next o on =>
    split
    · refine .ite (withdrawn.trans ⟨rfl, ?_, fun _ h => h, fun _ _ => .rfl⟩) withdrawn
      simp [State.line, on]
    · exact withdrawn
  · exact withdrawn

theorem spares_stopSeating (s : State) (i : BayIx) : s.Spares (s.stopSeating i) := by
  unfold State.stopSeating
  exact (spares_dropTag s i).trans (spares_modBay _ i _ rfl rfl)

theorem spares_become (s : State) (i : BayIx) (c : Custody) : s.Spares (s.become i c) := by
  unfold State.become
  dsimp only
  have left : s.Spares (if c = .locked then s else s.leaveReady i (some .custody)) := .ite (.refl s) (spares_leaveReady ..)
  generalize (if c = .locked then s else s.leaveReady i (some .custody)) = a at left ⊢
  have stopped := left.trans (spares_stopSeating a i)
  generalize a.stopSeating i = b at stopped ⊢
  have set : b.Spares (b.modBay i fun x =>
    { x with
      custody := c
      admission := x.admission && !clearsAdmit c
      gone := x.gone && keepsGone c
      release := if clearsRelease c then none else x.release
      assetId := if c = .vacant then none else x.assetId
      standing := if c = .vacant then none else x.standing
      seatDue := if c = .seating then some (b.now + b.cfg .seatSettle * 1000) else none }) :=
    spares_modBay b i _ rfl rfl
  have reached := stopped.trans set
  generalize b.modBay i _ = d at reached ⊢
  have sent : ∀ (w : State) (p : Prop) [Decidable p], w.Spares (if p then w.dispatch else w) := fun w p _ =>
    .ite (spares_dispatch w) (.refl w)
  cases c with
  | jammed _ _ => exact (reached.trans (spares_modBay d i _ rfl rfl)).trans (sent _ _)
  | _ => exact reached.trans (sent _ _)

theorem spares_clearBay (s : State) (i : BayIx) : s.Spares (s.clearBay i) :=
  (spares_become s i _).trans (spares_askBolt ..)

theorem spares_secureBay (s : State) (i : BayIx) : s.Spares (s.secureBay i) :=
  (spares_become s i _).trans (spares_engageBay ..)

/-! ### Sessions ended -/

theorem spares_endSessionAs (s : State) (id : Nat) (o : SessOutcome) (asset : Option AssetId) :
    s.Spares (s.endSessionAs id o asset) := by
  unfold State.endSessionAs
  split
  · exact .refl s
  · next x _ =>
    have left : s.Spares (s.leaveQueue x) := by
      unfold State.leaveQueue
      split <;> exact .of_loop rfl rfl fun _ h => h
    have freed : ∀ u : State, u.Spares (u.channelFreed x) := fun u => by
      unfold State.channelFreed
      split
      · exact .ite (spares_dispatch u) (.refl u)
      · exact .refl u
    dsimp only
    refine State.Spares.trans ?_ (freed _)
    have told := (left.trans (spares_modBay _ x.bay (fun b => { b with lastOutcome := some (o, id) }) rfl rfl)).trans
      (spares_raise _ .sessionEnded (some x.bay) asset (some id)
        (some (match x.channel with | some c => c.1 + 1 | none => 0)) (some (.outcome o)))
    generalize State.raise _ _ _ _ _ _ _ = u at told ⊢
    exact .ite told (told.trans (spares_refreshShare ..))

theorem spares_endSession (s : State) (id : Nat) (o : SessOutcome) : s.Spares (s.endSession id o) := by
  unfold State.endSession
  split
  · exact spares_endSessionAs ..
  · exact .refl s

theorem spares_tellRemoval (s : State) (i : BayIx) (asset : Option AssetId) : s.Spares (s.tellRemoval i asset) := by
  unfold State.tellRemoval
  split
  · exact .ite (.refl s) (spares_endSessionAs ..)
  · exact .refl s

theorem spares_sessionMeetsRelease (s : State) (i : BayIx) : s.Spares (s.sessionMeetsRelease i) := by
  unfold State.sessionMeetsRelease
  split
  · exact spares_endSession ..
  · exact .refl s

/-! ### A report met by the custody state (R56 to R69) -/

theorem spares_setAsset (s : State) (i : BayIx) (a : Option AssetId) (st : Option Standing) :
    s.Spares (s.setAsset i a st) := spares_modBay s i _ rfl rfl

theorem spares_dropRelease (s : State) (i : BayIx) : s.Spares (s.dropRelease i) := spares_modBay s i _ rfl rfl

theorem spares_markGone (s : State) (i : BayIx) : s.Spares (s.markGone i) := spares_modBay s i _ rfl rfl

theorem spares_dockedMissing (s : State) (i : BayIx) : s.Spares (s.dockedMissing i) := spares_mapRoster s _

theorem spares_takeTablet (s : State) (i : BayIx) (holder : Option Badge) (why : Reason) (value : Nat) :
    s.Spares (s.takeTablet i holder why value) := by
  unfold State.takeTablet
  dsimp only
  exact (spares_mapRoster s _).trans ((spares_raise ..).trans ((spares_setAsset ..).trans (spares_dropRelease ..)))

theorem spares_mendBolt (s : State) (i : BayIx) (bolt : Bolt) : s.Spares (s.mendBolt i bolt) :=
  .ite (spares_askBolt ..) (.refl s)

theorem spares_judgeVacant (s : State) (i : BayIx) (presence : Bool) (bolt : Bolt) :
    s.Spares (s.judgeVacant i presence bolt) :=
  .ite (.ite (spares_clearBay ..) (spares_become ..)) (spares_mendBolt ..)

theorem spares_judgeSeating (s : State) (i : BayIx) (presence : Bool) : s.Spares (s.judgeSeating i presence) :=
  .ite (spares_become ..) (.ite (spares_become ..) (.refl s))

theorem spares_judgeSecuring (s : State) (i : BayIx) : s.Spares (s.judgeSecuring i) := by
  unfold State.judgeSecuring
  dsimp only
  have taken : s.Spares
      (if (s.bay i).gone then s
      else if (s.bay i).late then s.takeTablet i (s.bay i).holder .late 0
      else s.takeTablet i none .unlocked 0) := .ite (.refl s) (.ite (spares_takeTablet ..) (spares_takeTablet ..))
  generalize (if (s.bay i).gone then s
      else if (s.bay i).late then s.takeTablet i (s.bay i).holder .late 0
      else s.takeTablet i none .unlocked 0) = u at taken ⊢
  refine State.Spares.trans (.ite (taken.trans (spares_markGone ..)) ?_) (spares_tellRemoval ..)
  split
  · exact taken.trans ((spares_askBolt ..).trans (spares_become ..))
  · exact taken.trans (spares_become ..)

theorem spares_judgeLocked (s : State) (i : BayIx) (presence : Bool) (bolt : Bolt) :
    s.Spares (s.judgeLocked i presence bolt) := by
  unfold State.judgeLocked State.sayTamper
  dsimp only
  refine .ite ?_ (.ite ((spares_raise ..).trans (spares_secureBay ..)) (.refl s))
  refine State.Spares.trans ?_ (spares_tellRemoval ..)
  have lost := (spares_raise s .tamper (some i) (s.bay i).assetId none none (some .removed)).trans
    ((spares_dockedMissing _ i).trans (spares_setAsset _ i none none))
  exact .ite (lost.trans (spares_clearBay ..)) (lost.trans (spares_become ..))

theorem spares_judgeReleasing (s : State) (i : BayIx) : s.Spares (s.judgeReleasing i) :=
  (spares_takeTablet s i _ _ _).trans (spares_become ..)

theorem spares_judgeReleased (s : State) (i : BayIx) (presence : Bool) (bolt : Bolt) :
    s.Spares (s.judgeReleased i presence bolt) :=
  .ite (spares_mendBolt ..) ((spares_takeTablet s i _ _ _).trans ((spares_become ..).trans (spares_mendBolt ..)))

theorem spares_removeHeld (s : State) (i : BayIx) : s.Spares (s.removeHeld i) :=
  (spares_mapRoster s _).trans ((spares_become ..).trans (spares_tellRemoval ..))

theorem spares_loseJammed (s : State) (i : BayIx) : s.Spares (s.loseJammed i) := by
  unfold State.loseJammed State.sayTamper
  exact .ite ((spares_raise ..).trans ((spares_dockedMissing ..).trans ((spares_setAsset ..).trans ((spares_markGone ..).trans
    (spares_tellRemoval ..))))) (.refl s)

theorem spares_judge (s : State) (i : BayIx) (presence : Bool) (bolt : Bolt) : s.Spares (s.judge i presence bolt) := by
  unfold State.judge
  split
  case h_1 => exact spares_judgeVacant ..
  case h_2 => exact spares_judgeSeating ..
  case h_3 => exact .ite (.refl s) (spares_judgeSecuring ..)
  case h_4 => exact spares_judgeLocked ..
  case h_5 => exact .ite (.refl s) (spares_judgeReleasing ..)
  case h_6 => exact spares_judgeReleased ..
  case h_7 => exact .refl s
  case h_8 => exact State.Spares.trans (.ite (.refl s) (spares_removeHeld ..)) (spares_mendBolt ..)
  case h_9 => exact .ite (.refl s) (spares_loseJammed ..)

/-! ### Releases (R82, R94, R95, R155) -/

theorem spares_sayCancelled (s : State) (i : BayIx) (why : Reason) : s.Spares (s.sayCancelled i why) := spares_raise ..

theorem spares_drainMind (s : State) (i : BayIx) : s.Spares (s.drainMind i) := by
  have releasing : ∀ why, s.Spares (s.drainReleasing i why) := fun why => by
    unfold State.drainReleasing
    split
    · exact (spares_dropBolt s i).trans ((spares_become ..).trans (spares_sayCancelled ..))
    · exact .refl s
    · exact .refl s
  have released : ∀ why, s.Spares (s.drainReleased i why) := fun why =>
    .ite ((spares_modBay s i _ rfl rfl).trans ((spares_secureBay ..).trans (spares_sayCancelled ..)))
      (spares_modBay s i _ rfl rfl)
  unfold State.drainMind
  split
  · exact .refl s
  · split
    · exact releasing _
    · exact released _
    · exact .refl s

theorem spares_openWindow (s : State) (i : BayIx) : s.Spares (s.openWindow i) :=
  (spares_become s i _).trans (spares_modBay _ i _ rfl rfl)

theorem spares_acceptRelease (s : State) (i : BayIx) (seconds : Nat) (holder : Option Badge) (origin : ReleaseOrigin) :
    s.Spares (s.acceptRelease i seconds holder origin) := by
  unfold State.acceptRelease
  dsimp only
  have begun := (spares_sessionMeetsRelease s i).trans ((spares_leaveReady _ i none).trans
    (spares_modBay _ i (fun b =>
      { b with
        release := some
          { length := seconds, window := .notStarted, holder, origin, cancel := false, late := false } }) rfl rfl))
  generalize State.modBay _ i _ = u at begun ⊢
  split
  · exact begun.trans ((spares_become ..).trans (spares_askBolt ..))
  · exact begun.trans (spares_openWindow ..)

theorem spares_buttonPress (s : State) (i : BayIx) (latch : Bool) : s.Spares (s.buttonPress i latch) := by
  unfold State.buttonPress
  refine .ite ?_ (.refl s)
  split
  · exact spares_modBay s i _ rfl rfl
  · exact (spares_acceptRelease ..).trans ((spares_raise ..).trans (spares_drainMind ..))

/-! ### Reconciliation decisions (R161 to R164) -/

theorem spares_leaveEmpty (s : State) (i : BayIx) (bolt : Bolt) : s.Spares (s.leaveEmpty i bolt) :=
  .ite (spares_become ..) (spares_clearBay ..)

theorem spares_mendHeld (s : State) (i : BayIx) (bolt : Bolt) : s.Spares (s.mendHeld i bolt) :=
  .ite (.refl s) (spares_askBolt ..)

theorem spares_mismatch (s : State) (i : BayIx) (why : Reason) : s.Spares (s.mismatch i why) :=
  (spares_raise s _ _ _ _ _ _).trans (spares_mapRoster ..)

theorem spares_foundGone (s : State) (i : BayIx) (bolt : Bolt) : s.Spares (s.foundGone i bolt) :=
  (spares_mismatch s i _).trans ((spares_setAsset ..).trans ((spares_leaveEmpty ..).trans (spares_tellRemoval ..)))

theorem spares_foundSwapped (s : State) (i : BayIx) (bolt : Bolt) (r : HeldReason) (read : Option AssetId) :
    s.Spares (s.foundSwapped i bolt r read) :=
  (spares_mismatch s i _).trans ((spares_become ..).trans ((spares_setAsset ..).trans ((spares_dropRelease ..).trans
    ((spares_mendHeld ..).trans (spares_tellRemoval ..)))))

theorem spares_foundTaken (s : State) (i : BayIx) (bolt : Bolt) : s.Spares (s.foundTaken i bolt) :=
  (spares_takeTablet s i _ _ _).trans (spares_leaveEmpty ..)

theorem spares_decideEmpty (s : State) (i : BayIx) (presence : Bool) (bolt : Bolt) :
    s.Spares (s.decideEmpty i presence bolt) :=
  .ite (.ite (spares_become ..) (spares_clearBay ..))
    (.ite (spares_become ..) ((spares_become s i _).trans (spares_askBolt ..)))

theorem spares_decideWarm (s : State) (i : BayIx) (presence : Bool) (bolt : Bolt) (read : Option AssetId) :
    s.Spares (s.decideWarm i presence bolt read) := by
  have kept : s.Spares (s.decideKept i presence bolt read) := by
    unfold State.decideKept
    dsimp only
    exact .ite (.ite (.ite (spares_become ..) (spares_secureBay ..)) (spares_foundSwapped ..))
      (.ite (spares_foundTaken ..) (spares_foundGone ..))
  have opened : s.Spares (s.decideOpen i presence bolt) :=
    .ite ((spares_dropRelease ..).trans ((spares_secureBay ..).trans (spares_sayCancelled ..))) (spares_foundTaken ..)
  unfold State.decideWarm
  split
  case h_1 => exact kept
  case h_2 => exact kept
  case h_3 => exact .ite (.ite (spares_mendHeld ..) (spares_foundSwapped ..)) (spares_removeHeld ..)
  case h_4 => exact spares_decideEmpty ..
  case h_5 => exact spares_decideEmpty ..
  case h_6 => exact spares_decideEmpty ..
  case h_7 => exact opened
  case h_8 => exact opened
  case h_9 => exact .ite (.refl s) (spares_loseJammed ..)

theorem spares_decide (s : State) (i : BayIx) (read : Option AssetId) : s.Spares (s.decide i read) := by
  unfold State.decide
  dsimp only
  refine State.Spares.trans ?_ (spares_compareLamp ..)
  have begun := (spares_dropBolt s i).trans ((spares_stopSeating _ i).trans
    (spares_modBay _ i (fun b => { b with admission := false, recon := .none }) rfl rfl))
  generalize State.modBay _ i _ = u at begun ⊢
  split
  · exact begun.trans (spares_decideWarm ..)
  · exact begun.trans (.ite (.ite (spares_become ..) (spares_clearBay ..)) (spares_leaveEmpty ..))

theorem spares_reconReport (s : State) (i : BayIx) : s.Spares (s.reconReport i) :=
  .ite (.ite ((spares_modBay s i _ rfl rfl).trans (spares_place _ (by simp [Txn.client]))) (.refl s)) (spares_decide ..)

theorem spares_custodyReport (s : State) (i : BayIx) (k : Block) : s.Spares (s.custodyReport i k) := by
  unfold State.custodyReport
  dsimp only
  have stored := spares_modBay s i (fun b =>
    { b with presence := some k.presence, bolt := some k.bolt, gone := b.gone && !k.presence }) rfl rfl
  generalize s.modBay i _ = u at stored ⊢
  exact .ite (stored.trans ((spares_judge ..).trans (spares_buttonPress ..))) (stored.trans (spares_reconReport ..))

/-! ### The end of a pulse (R63, R66, R69, R85, R105) -/

theorem spares_pulseReport (s : State) (i : BayIx) (d : Dir) (ok : Bool) : s.Spares (s.pulseReport i d ok) := by
  have engaged : s.Spares (s.engageDone i) := by
    unfold State.engageDone
    split
    · exact .ite (spares_clearBay ..) (.ite ((spares_become s i _).trans (spares_raise ..)) (spares_become ..))
    · exact spares_askBolt ..
    · exact spares_askBolt ..
    · exact .refl s
  have retracted : s.Spares (s.retractDone i) := by
    unfold State.retractDone
    split
    · exact .ite ((spares_become s i _).trans ((spares_dropRelease ..).trans (spares_secureBay ..)))
        (.ite ((spares_become s i _).trans (spares_drainMind ..)) (spares_openWindow ..))
    · exact .ite (spares_become ..) (spares_become ..)
    · exact spares_askBolt ..
    · exact .refl s
  unfold State.pulseReport
  refine .ite ?_ (spares_become ..)
  cases d with
  | engage => exact engaged
  | retract => exact retracted

theorem spares_endPulse (s : State) (k : PulseSlot) (p : Pulse) (ok : Bool) : s.Spares (s.endPulse k p ok) :=
  (spares_setSlot s k none).trans (spares_pulseReport ..)

theorem spares_attemptFailed (s : State) (k : PulseSlot) (p : Pulse) : s.Spares (s.attemptFailed k p) :=
  .ite (spares_setSlot ..) ((spares_raise s _ _ _ _ _ _).trans (spares_endPulse ..))

theorem spares_verifyTold (s : State) (k : PulseSlot) (e : Ending) : s.Spares (s.verifyTold k e) := by
  unfold State.verifyTold
  split
  · exact .refl s
  · split
    · exact .ite (spares_endPulse ..) (spares_attemptFailed ..)
    · exact spares_attemptFailed ..
    · exact spares_attemptFailed ..

/-! ### The link (R140, R141) -/

theorem spares_heard (s : State) (i : BayIx) : s.Spares (s.heard i) := by
  unfold State.heard State.relink
  exact .ite ((spares_modBay s i _ rfl rfl).trans ((spares_dispatch _).trans (spares_grantSlots _)))
    (spares_modBay s i _ rfl rfl)

theorem spares_linkLost (s : State) (i : BayIx) : s.Spares (s.linkLost i) := by
  unfold State.linkLost
  dsimp only
  exact (spares_modBay s i _ rfl rfl).trans ((spares_raise ..).trans ((spares_stopSeating ..).trans (spares_leaveReady ..)))

theorem spares_missed (s : State) (i : BayIx) : s.Spares (s.missed i) := by
  unfold State.missed
  dsimp only
  have counted := spares_modBay s i (fun b => { b with miss := b.miss + 1 }) rfl rfl
  exact .ite (.ite (counted.trans (spares_linkLost ..)) counted) (.refl s)

end

end Sys2Proof.Machine


/-! A STATUS answered, from the link to the client that placed it (O24, O25). -/

namespace Sys2Proof.Machine

section
variable {s t u : State} {i : BayIx}

/-! ### The link at an ending (R140) -/

theorem linkOf_answer {y : Txn} (bay : y.bay? = some i) (s : State) (a : Answer) : s.linkOf y (.answer a) = s.heard i := by
  unfold State.linkOf
  rw [bay]

theorem linkOf_noAnswer {y : Txn} (bay : y.bay? = some i) (s : State) : s.linkOf y .noAnswer = s.missed i := by
  unfold State.linkOf
  rw [bay]

theorem spares_linkOf (s : State) (y : Txn) (e : Ending) : s.Spares (s.linkOf y e) := by
  unfold State.linkOf
  split
  · exact .refl s
  · split
    · exact spares_heard ..
    · exact spares_missed ..
    · exact .refl s

/-! ### What the clients leave of the grants -/

theorem spares_scanTold (s : State) : s.Spares s.scanTold := ⟨rfl, rfl, fun _ h => h, fun _ _ => .rfl⟩

theorem spares_reconTold (s : State) (i : BayIx) (e : Ending) : s.Spares (s.reconTold i e) := by
  have again : ∀ u : State, u.Spares (u.place (.recon i)) := fun u => spares_place u (by simp [Txn.client])
  unfold State.reconTold
  split
  · exact .refl s
  · exact .refl s
  · cases e with
    | answer a =>
      exact .ite (.refl s) (.ite ((spares_modBay s i _ rfl rfl).trans (again _)) (spares_modBay s i _ rfl rfl))
    | noAnswer => exact .ite (again s) (.refl s)
    | dropped => exact .refl s

/-- A STATUS is a verification read, the scan's or reconciliation's (R143). -/
theorem spares_told_status {y : Txn} (op : y.opCode = 0x04) (s : State) (stale : Bool) (e : Ending) :
    s.Spares (s.told y stale e) := by
  cases y with
  | verify k j => exact spares_verifyTold ..
  | scan j => exact spares_scanTold s
  | recon j => exact spares_reconTold ..
  | _ => simp [Txn.opCode] at op

/-! ### The report stored -/

theorem Seen.Charged.marked {x y : Seen} {k : Block} {now : Secs} {r : ReconMark}
    (h : Seen.Charged { x with recon := r } y k now) (m : ReconMark) : x.Charged { y with recon := m } k now :=
  { h with }

theorem shareOut_status {y : Txn} (op : y.opCode = 0x04) (bay : y.bay? = some i) (s : State) (a : Answer) :
    s.shareOut y (.answer a) = if a.result = .ok then s.distribute i a.block else s := by
  unfold State.shareOut
  simp [bay, op]

/-- What a STATUS answered makes of what is known of its bay (R24, R140, R143). -/
structure Seen.Answered (x y : Seen) (a : Answer) (now : Secs) : Prop where
  ok : a.result = .ok → Seen.Charged (x.heard.shown a.block) y a.block now
  fault : a.result ≠ .ok → ∃ r, y = { x.heard with recon := r }

/-- A STATUS answered stores its report, of its bay alone. -/
theorem reports_ended_status {y : Txn} (op : y.opCode = 0x04) (bay : y.bay? = some i) (s : State) (stale : Bool)
    (a : Answer) : ∃ x, (s.ended y stale (.answer a)).reports = Function.update s.reports i x ∧
      (s.reports i).Answered x a s.retained.seconds := by
  have heard := reports_heard s i
  have kept : (s.heard i).kept = s.kept := kept_heard s i
  unfold State.ended
  rw [linkOf_answer bay, shareOut_status op bay]
  generalize s.heard i = t at heard kept ⊢
  by_cases ok : a.result = .ok
  · rw [if_pos ok]
    obtain ⟨r, x, shared, charged⟩ := reports_distribute t i a.block
    obtain ⟨m, told⟩ := reports_told_status op bay (t.distribute i a.block) stale a
    refine ⟨{ x with recon := m }, ?_, fun _ => ?_, absurd ok⟩
    · rw [told, shared, heard, Function.update_idem, Function.update_idem, Function.update_self]
    · rw [heard, Function.update_self, retained_of_kept kept] at charged
      exact charged.marked m
  · rw [if_neg ok]
    obtain ⟨m, told⟩ := reports_told_status op bay t stale a
    refine ⟨_, ?_, fun h => absurd h ok, fun _ => ⟨m, rfl⟩⟩
    rw [told, heard, Function.update_idem, Function.update_self]

theorem line_ended_status {y : Txn} (op : y.opCode = 0x04) (bay : y.bay? = some i) (s : State) (stale : Bool)
    (a : Answer) : (s.ended y stale (.answer a)).line = s.line := by
  have shared : ∀ u : State, (u.distribute i a.block).line = u.line := fun u =>
    (spares_compareLamp _ i).line.trans ((line_of_course (course_applyCharge _ i _)).trans (spares_custodyReport u i _).line)
  unfold State.ended
  rw [linkOf_answer bay, shareOut_status op bay, (spares_told_status op _ stale _).line]
  split
  · rw [shared, (spares_heard s i).line]
  · exact (spares_heard s i).line

theorem onLoop_of_line (h : t.line = s.line) (free : s.loop.onLoop = none) : t.loop.onLoop = none := by
  unfold State.line at h
  rw [free] at h
  exact Option.map_eq_none_iff.1 h

theorem heard_link (x : Seen) : x.heard.link = if x.link = .lost then .linked else x.link := by
  unfold Seen.heard
  split <;> rfl

theorem heard_miss (x : Seen) : x.heard.miss = 0 := by
  unfold Seen.heard
  split <;> rfl

theorem heard_lostAt {x : Seen} (lost : x.link = .lost) : x.heard.lostAt = none := by
  unfold Seen.heard
  rw [if_pos lost]

/-- An answer changes the link and the miss count alone. -/
theorem heard_eq (x : Seen) :
    x.heard = { x with link := x.heard.link, miss := 0, lostAt := x.heard.lostAt, resync := x.heard.resync } := by
  unfold Seen.heard
  split <;> rfl

theorem Seen.Answered.link {x y : Seen} {a : Answer} {now : Secs} (h : x.Answered y a now) :
    y.link = x.heard.link ∧ y.miss = 0 ∧ y.lostAt = x.heard.lostAt := by
  by_cases ok : a.result = .ok
  · have c := h.ok ok
    exact ⟨c.link, c.miss.trans (heard_miss x), c.lostAt⟩
  · obtain ⟨r, rfl⟩ := h.fault ok
    exact ⟨rfl, heard_miss x, rfl⟩

theorem calm_idled (key : Bool) (calm : s.Calm) : (s.idled key).Calm := ⟨calm.1, calm.2⟩

end

/-- Settles O24: the report told to the link, to custody and to the charge part, and no other bay. -/
theorem statusStoresTheReport : Obligations.StatusStoresTheReport := by
  intro key s awake calm o onLoop op i bay resp a valid
  obtain ⟨x, reports, stored⟩ := reports_ended_status op bay (s.idled key) o.stale a
  have line := line_ended_status op bay (s.idled key) o.stale a
  have kept := kept_ended (s.idled key) o.txn o.stale (.answer a)
  have works := works_ended (s.idled key) bay o.stale (.answer a)
  rw [status_eq awake onLoop bay op valid key]
  generalize (s.idled key).ended o.txn o.stale (.answer a) = t at reports line kept works
  have calm := calm_of_works works (calm_idled key calm)
  have settled := reports_of_ground (ground_settle calm)
  have free := (onLoop_of_still (still_settle t calm)).trans (onLoop_of_line line rfl)
  have keyed := (kept_settle t).trans kept
  generalize t.settle = u at settled free keyed
  obtain ⟨own, others⟩ := seen_of_update (settled.trans reports)
  have field : ∀ {α : Type} (f : Seen → α), f (u.bay i).seen = f x := fun f => congrArg f own
  obtain ⟨link, miss, lostAt⟩ := stored.link
  refine ⟨u, rfl, free, congrArg Kept.keyswitch keyed, (field Seen.link).trans (link.trans (heard_link _)),
    (field Seen.miss).trans miss, fun lost => (field Seen.lostAt).trans (lostAt.trans (heard_lostAt lost)), others,
    fun ok => ?_, fun fault => ?_⟩
  · have c := stored.ok ok
    exact ⟨(field Seen.presence).trans c.presence, (field Seen.bolt).trans c.bolt, (field Seen.applied).trans c.applied,
      (field Seen.soc).trans c.soc, (field Seen.pneg).trans c.pneg, (field Seen.measured).trans c.measured,
      (field Seen.overTemp).trans c.overTemp, (field Seen.short).trans c.short,
      fun hot => ⟨(field Seen.hot).trans (c.hot hot).1, (field Seen.hotTime).trans (c.hot hot).2⟩,
      fun short => (field Seen.overdraw).trans (c.shorted short)⟩
  · obtain ⟨r, rfl⟩ := stored.fault fault
    have same := heard_eq ((s.idled key).reports i)
    have left : ∀ {α : Type} (f : Seen → α), f (u.bay i).seen = f { ((s.idled key).reports i).heard with recon := r } := field
    rw [same] at left
    exact ⟨left Seen.presence, left Seen.bolt, left Seen.applied, left Seen.soc, left Seen.measured, left Seen.overdraw,
      left Seen.hot⟩

end Sys2Proof.Machine


/-! A GRANT ended, and what the end of its event makes of the round that waited for it (O26). -/

namespace Sys2Proof.Machine

section
variable {s t u : State} {i : BayIx}

/-! ### The phases of a round at the end of an event (R38, R40, R41) -/

theorem roundOn_raising (state : s.round.state = .raising) (waits : s.round.raising ≠ []) : s.roundOn = s := by
  rw [roundOn_of_not_lowering (by rw [state]; simp), if_neg fun e => waits e.2]

theorem roundOn_raised (state : s.round.state = .raising) (empty : s.round.raising = []) : s.roundOn = s.endRound := by
  rw [roundOn_of_not_lowering (by rw [state]; simp), if_pos ⟨state, empty⟩]

theorem roundOn_lowered (state : s.round.state = .lowering) (empty : s.round.lowering = []) (whole : s.round.cut = false) :
    s.roundOn = if s.beginRaising.round.raising = [] then s.beginRaising.endRound else s.beginRaising := by
  obtain ⟨-, -, raising⟩ := fits_beginRaising s
  have begun : (if s.round.state = .lowering ∧ s.round.lowering = [] then
      if s.round.cut then s.endRound else s.beginRaising else s) = s.beginRaising := by
    rw [if_pos ⟨state, empty⟩, if_neg (by simp [whole])]
  unfold State.roundOn
  rw [begun]
  simp only [raising, true_and]

/-- The raise phase has every raise of the round decided. -/
theorem beginRaising_toRaise (s : State) : s.beginRaising.round.toRaise = [] := by
  have one : ∀ (u : State) j, (u.raiseBay j).round.toRaise = u.round.toRaise := fun u j => by
    have issued : ∀ w, (u.issueGrant .raise j w).round.toRaise = u.round.toRaise := fun w => by
      obtain ⟨⟨n, e⟩, -⟩ := issueGrant_rest u .raise j w
      rw [e]
    have either : ∀ (p : Prop) [Decidable p] {v w : State}, v.round.toRaise = u.round.toRaise →
        w.round.toRaise = u.round.toRaise → (if p then v else w).round.toRaise = u.round.toRaise := fun p _ v w yes no => by
      split
      · exact yes
      · exact no
    exact either _ rfl (either _ rfl (either _ rfl (issued _)))
  have all : ∀ (l : List BayIx) (u : State), (l.foldl State.raiseBay u).round.toRaise = u.round.toRaise := fun l => by
    induction l with
    | nil => exact fun _ => rfl
    | cons j l ih => exact fun u => (ih _).trans (one u j)
  exact all _ _

/-- A round without bays to raise raises none. -/
theorem beginRaising_none (none : s.round.toRaise = []) : s.beginRaising.round.raising = s.round.raising := by
  unfold State.beginRaising
  rw [none]
  rfl

theorem settle_lowering_waits (calm : u.Calm) (state : u.round.state = .lowering) (waits : u.round.lowering ≠ []) :
    u.settle.round.state = .lowering ∧ u.settle.round.lowering = u.round.lowering :=
  settle_of_roundOn calm (P := fun r _ _ => r.state = .lowering ∧ r.lowering = u.round.lowering) (fun _ _ _ _ e => e)
    fun w r _ _ _ _ => by
      rw [roundOn_lowering (by rw [r]; exact state) (by rw [r]; exact waits), r]
      exact ⟨state, rfl⟩

theorem settle_raising_waits (calm : u.Calm) (state : u.round.state = .raising) (waits : u.round.raising ≠ []) :
    u.settle.round.state = .raising ∧ u.settle.round.raising = u.round.raising :=
  settle_of_roundOn calm (P := fun r _ _ => r.state = .raising ∧ r.raising = u.round.raising) (fun _ _ _ _ e => e)
    fun w r _ _ _ _ => by
      rw [roundOn_raising (by rw [r]; exact state) (by rw [r]; exact waits), r]
      exact ⟨state, rfl⟩

/-- A round cut short in Lowering ends with its last GRANT (R41). -/
theorem settle_lowering_cut (calm : u.Calm) (state : u.round.state = .lowering) (empty : u.round.lowering = [])
    (cut : u.round.cut = true) : u.settle.round.state = .idle ∧ u.settle.round.lastEnd = some u.now :=
  settle_of_roundOn calm (P := fun r _ _ => r.state = .idle ∧ r.lastEnd = some u.now) (fun _ _ _ _ e => e)
    fun w r _ _ _ now => by
      rw [roundOn_of_cut (by rw [r]; exact cut), if_pos (.inl ⟨by rw [r]; exact state, by rw [r]; exact empty⟩),
        endRound_lastEnd, now]
      exact ⟨rfl, rfl⟩

/-- What follows the last GRANT of Lowering: the raises in the pool in force, or the end of the round (R38, R40). -/
structure Round.Raises (r : Round) (toRaise : List BayIx) (now counted inForce : Nat) : Prop where
  decided : r.toRaise = []
  empty : r.raising = [] → r.state = .idle ∧ r.lastEnd = some now
  waits : r.raising ≠ [] → r.state = .raising ∧ counted ≤ inForce
  none : toRaise = [] → r.raising = []

theorem roundOn_raises {w : State} (state : w.round.state = .lowering) (empty : w.round.lowering = [])
    (whole : w.round.cut = false) (clear : w.round.raising = []) :
    w.roundOn.round.Raises w.round.toRaise w.now w.roundOn.countedSum w.pool.inForce := by
  obtain ⟨fits, ⟨pool, -⟩, raising⟩ := fits_beginRaising w
  have now := now_of_kept (kept_beginRaising w)
  have decided := beginRaising_toRaise w
  have none := fun e => (beginRaising_none (s := w) e).trans clear
  rw [roundOn_lowered state empty whole]
  by_cases ended : w.beginRaising.round.raising = []
  · rw [if_pos ended]
    exact ⟨rfl, fun _ => ⟨rfl, by rw [endRound_lastEnd, now]⟩, absurd rfl, fun _ => rfl⟩
  · rw [if_neg ended, ← pool]
    exact ⟨decided, fun e => absurd e ended, fun e => ⟨raising, fits clear e⟩, none⟩

theorem settle_lowered (calm : u.Calm) (state : u.round.state = .lowering) (empty : u.round.lowering = [])
    (whole : u.round.cut = false) (clear : u.round.raising = []) :
    u.settle.round.Raises u.round.toRaise u.now u.settle.countedSum u.settle.pool.inForce := by
  rw [pool_of_still (still_settle u calm)]
  refine settle_of_roundOn calm (P := fun r _ n => r.Raises u.round.toRaise u.now n u.pool.inForce)
    (fun _ _ _ _ h => { h with }) fun w r pool _ _ now => ?_
  rw [← r, ← now, ← pool]
  exact roundOn_raises (by rw [r]; exact state) (by rw [r]; exact empty) (by rw [r]; exact whole) (by rw [r]; exact clear)

/-- A round in Raising ends with its last GRANT, with recompute pending where it left something (R38, R40). -/
theorem settle_raised (calm : u.Calm) (state : u.round.state = .raising) (empty : u.round.raising = []) :
    u.settle.round.state = .idle ∧ u.settle.round.lastEnd = some u.now ∧
      (u.round.backlog ≠ 0 ∨ u.round.raiseUnsent = true → u.settle.round.pending = true) := by
  obtain ⟨⟨p, round, marked⟩, -⟩ := settle_round calm
  have r := round_grantSlots u
  have now := now_of_kept (kept_grantSlots u)
  have ended := roundOn_raised (s := u.grantSlots) (by rw [r]; exact state) (by rw [r]; exact empty)
  rw [ended] at round marked
  rw [round]
  refine ⟨rfl, congrArg some now, fun left => marked ?_⟩
  rw [← r] at left
  unfold State.endRound
  simpa [or_assoc] using Or.inr left

/-- Outside a round the end of a calm event commands nothing (R36). -/
theorem grants_settle_still (calm : u.Calm) (rests : u.round.state = .idle ∨ u.round.state = .holdoff) :
    u.settle.grants = u.grants := by
  obtain ⟨-, grants, -⟩ := settle_round calm
  have round := round_grantSlots u
  rw [grants, roundOn_of_still (by rw [round]; rcases rests with e | e <;> rw [e] <;> simp)
    (by rw [round]; rcases rests with e | e <;> rw [e] <;> simp), grants_grantSlots]

/-- An ending that is no STATUS distributes nothing (R143). -/
theorem ended_grant (s : State) (k : GrantKind) (i : BayIx) (w : Nat) (stale : Bool) (e : Ending) :
    s.ended (.grant k i w) stale e = (s.linkOf (.grant k i w) e).grantTold k i e := by
  have shared : ∀ u : State, u.shareOut (.grant k i w) e = u := fun u => by
    unfold State.shareOut
    cases e <;> rfl
  unfold State.ended
  rw [shared]
  rfl

/-! ### A GRANT told (R29, R39) -/

/-- The applied grant that an ending reports. -/
def Ending.applied (e : Ending) (old : Nat) : Nat :=
  match e with
  | .answer a => if a.result = .ok then (a.byteAt 0).toNat else old
  | .noAnswer | .dropped => old

theorem setGrants_same (s : State) (i : BayIx) : s.setGrants i (s.bay i).applied (s.bay i).commanded = s := by
  unfold State.setGrants
  exact if_pos ⟨rfl, rfl⟩

theorem grantTold_eq (s : State) (k : GrantKind) (i : BayIx) (e : Ending) : s.grantTold k i e =
    ((s.setGrants i (e.applied (s.bay i).applied) (s.bay i).commanded).clearOutstanding i).grantEnded k i := by
  unfold State.grantTold Ending.applied
  cases e with
  | answer a =>
    dsimp only
    split
    · rfl
    · rw [setGrants_same]
  | noAnswer => dsimp only; rw [setGrants_same]
  | dropped => dsimp only; rw [setGrants_same]

/-- The end of a GRANT of the round (R39). -/
theorem grantEnded_own {k : GrantKind} (own : k ≠ .fault false) (s : State) (i : BayIx) : s.grantEnded k i =
    if s.loop.unsent.any (Txn.isRoundsFor i) then s
    else { s with
      round := { s.round with
        lowering := s.round.lowering.filter (· ≠ i)
        raising := s.round.raising.filter (· ≠ i) } } := by
  cases k with
  | lower => rfl
  | raise => rfl
  | fault rounds =>
    cases rounds with
    | false => exact absurd rfl own
    | true => rfl

/-- What waits for a GRANT changes at its end, and nothing else. -/
theorem grantEnded_spec (s : State) (k : GrantKind) (i : BayIx) :
    ∃ l r, s.grantEnded k i = { s with round := { s.round with lowering := l, raising := r } } := by
  by_cases own : k = .fault false
  · subst own
    exact ⟨s.round.lowering, s.round.raising, rfl⟩
  · rw [grantEnded_own own]
    split
    · exact ⟨s.round.lowering, s.round.raising, rfl⟩
    · exact ⟨_, _, rfl⟩

theorem bay_grantEnded (s : State) (k : GrantKind) (i j : BayIx) : (s.grantEnded k i).bay j = s.bay j := by
  obtain ⟨l, r, e⟩ := grantEnded_spec s k i
  rw [e]
  rfl

theorem grantEnded_loop (s : State) (k : GrantKind) (i : BayIx) : (s.grantEnded k i).loop = s.loop := by
  obtain ⟨l, r, e⟩ := grantEnded_spec s k i
  rw [e]

theorem grantEnded_state (s : State) (k : GrantKind) (i : BayIx) : (s.grantEnded k i).round.state = s.round.state := by
  obtain ⟨l, r, e⟩ := grantEnded_spec s k i
  rw [e]

theorem bay_clearOutstanding (s : State) (i j : BayIx) : (s.clearOutstanding i).bay j =
    if j = i then { s.bay j with outstanding := if s.unsentGrant i then (s.bay j).outstanding else none } else s.bay j := by
  unfold State.clearOutstanding
  by_cases waits : s.unsentGrant i = true
  · simp [waits]
  · simp [waits, bay_modBay]

theorem clearOutstanding_rest (s : State) (i : BayIx) :
    (s.clearOutstanding i).loop = s.loop ∧ (s.clearOutstanding i).round = s.round := by
  unfold State.clearOutstanding
  split <;> exact ⟨rfl, rfl⟩

theorem bay_grantTold (s : State) (k : GrantKind) (i j : BayIx) (e : Ending) : (s.grantTold k i e).bay j =
    if j = i then
      { s.bay j with
        applied := e.applied (s.bay i).applied
        outstanding := if s.unsentGrant i then (s.bay j).outstanding else none }
    else s.bay j := by
  have unsent : ∀ a c, (s.setGrants i a c).unsentGrant i = s.unsentGrant i := fun a c => by
    unfold State.unsentGrant
    rw [setGrants_loop]
  rw [grantTold_eq, bay_grantEnded, bay_clearOutstanding, bay_setGrants, unsent]
  by_cases own : j = i
  · subst own; simp
  · simp [own]

theorem line_grantTold (s : State) (k : GrantKind) (i : BayIx) (e : Ending) : (s.grantTold k i e).line = s.line := by
  unfold State.line
  rw [grantTold_eq, grantEnded_loop, (clearOutstanding_rest ..).1, setGrants_loop]

theorem grantTold_state (s : State) (k : GrantKind) (i : BayIx) (e : Ending) :
    (s.grantTold k i e).round.state = s.round.state := by
  rw [grantTold_eq, grantEnded_state, (clearOutstanding_rest ..).2, setGrants_round]

/-- The round waits no more for a GRANT of its own that has ended, where no later one waits (R39). -/
structure State.Awaits (s : State) (i : BayIx) (u : State) : Prop where
  state : u.round.state = s.round.state
  lowering : u.round.lowering = s.round.lowering.filter (· ≠ i)
  raising : u.round.raising = s.round.raising.filter (· ≠ i)
  toRaise : u.round.toRaise = s.round.toRaise
  cut : u.round.cut = s.round.cut
  backlog : u.round.backlog = s.round.backlog
  raiseUnsent : u.round.raiseUnsent = s.round.raiseUnsent

theorem awaits_grantTold {k : GrantKind} (own : k ≠ .fault false) (none : s.loop.unsent.any (Txn.isRoundsFor i) = false)
    (e : Ending) : s.Awaits i (s.grantTold k i e) := by
  have ended : ∀ u : State, u.loop.unsent.any (Txn.isRoundsFor i) = false → (u.grantEnded k i).round =
      { u.round with lowering := u.round.lowering.filter (· ≠ i), raising := u.round.raising.filter (· ≠ i) } :=
    fun u clear => by rw [grantEnded_own own, if_neg (by simp [clear])]
  obtain ⟨loop, round⟩ := clearOutstanding_rest (s.setGrants i (e.applied (s.bay i).applied) (s.bay i).commanded) i
  have done := ended _ (by rw [loop, setGrants_loop]; exact none)
  rw [round, setGrants_round] at done
  rw [grantTold_eq]
  exact ⟨(congrArg Round.state done :), (congrArg Round.lowering done :), (congrArg Round.raising done :),
    (congrArg Round.toRaise done :), (congrArg Round.cut done :), (congrArg Round.backlog done :),
    (congrArg Round.raiseUnsent done :)⟩

theorem isRoundsFor_client {y : Txn} (h : y.isRoundsFor i = true) : y.client = .allocator := by
  cases y with
  | grant k j w => rfl
  | _ => cases h

theorem isGrantFor_client {y : Txn} (h : y.isGrantFor i = true) : y.client = .allocator := by
  cases y with
  | grant k j w => rfl
  | _ => cases h

theorem State.Spares.any {p : Txn → Bool} (h : s.Spares t) (own : ∀ y : Txn, p y = true → y.client = .allocator) :
    t.loop.unsent.any p = s.loop.unsent.any p := by
  refine Bool.eq_iff_iff.2 ?_
  simp only [List.any_eq_true]
  exact exists_congr fun y => and_congr_left fun e => h.unsent y (own y e)

theorem State.Spares.unsentGrant (h : s.Spares t) (i : BayIx) : t.unsentGrant i = s.unsentGrant i :=
  h.any fun _ => isGrantFor_client

theorem awaits_ended {k : GrantKind} (own : k ≠ .fault false) (none : s.loop.unsent.any (Txn.isRoundsFor i) = false)
    (w : Nat) (stale : Bool) (e : Ending) : s.Awaits i (s.ended (.grant k i w) stale e) := by
  have linked := spares_linkOf s (.grant k i w) e
  rw [ended_grant]
  generalize s.linkOf (.grant k i w) e = u at linked ⊢
  have empty := awaits_grantTold (s := u) own ((linked.any fun _ => isRoundsFor_client).trans none) e
  have field : ∀ {α : Type} (f : Round → α), f { u.round with pending := false } = f { s.round with pending := false } :=
    fun f => congrArg f (round_of_grants linked.grants)
  exact ⟨empty.state.trans (field Round.state), by rw [empty.lowering]; exact congrArg _ (field Round.lowering),
    by rw [empty.raising]; exact congrArg _ (field Round.raising), empty.toRaise.trans (field Round.toRaise),
    empty.cut.trans (field Round.cut), empty.backlog.trans (field Round.backlog),
    empty.raiseUnsent.trans (field Round.raiseUnsent)⟩

/-! ### What holds of a round after one of its GRANTs -/

/-- What the obligation says of the round at the end of the event. -/
structure State.RoundMoved (s : State) (i : BayIx) (t : State) : Prop where
  lowers : s.round.state = .lowering → (∃ j ∈ s.round.lowering, j ≠ i) →
    t.round.state = .lowering ∧ t.round.lowering = s.round.lowering.filter (· ≠ i)
  raises : s.round.state = .raising → (∃ j ∈ s.round.raising, j ≠ i) →
    t.round.state = .raising ∧ t.round.raising = s.round.raising.filter (· ≠ i)
  lowered : s.round.state = .lowering → (∀ j ∈ s.round.lowering, j = i) →
    (s.round.cut = true ∨ s.round.toRaise = [] ∧ s.round.raising = [] →
      t.round.state = .idle ∧ t.round.lastEnd = some t.now) ∧
    (s.round.cut = false → s.round.raising = [] → t.round.toRaise = [] ∧
      (t.round.raising = [] → t.round.state = .idle ∧ t.round.lastEnd = some t.now) ∧
      (t.round.raising ≠ [] → t.round.state = .raising ∧ t.countedSum ≤ t.pool.inForce))
  raised : s.round.state = .raising → (∀ j ∈ s.round.raising, j = i) →
    t.round.state = .idle ∧ t.round.lastEnd = some t.now ∧
    (s.round.backlog ≠ 0 ∨ s.round.raiseUnsent = true → t.round.pending = true)

theorem filter_ne_some {l : List BayIx} (h : ∃ j ∈ l, j ≠ i) : l.filter (· ≠ i) ≠ [] := by
  obtain ⟨j, mem, ne⟩ := h
  exact List.ne_nil_of_mem (List.mem_filter.2 ⟨mem, by simp [ne]⟩)

theorem filter_ne_none {l : List BayIx} (h : ∀ j ∈ l, j = i) : l.filter (· ≠ i) = [] :=
  List.filter_eq_nil_iff.2 fun j mem => by simp [h j mem]

theorem roundMoved_settle (h : s.Awaits i u) (calm : u.Calm) : s.RoundMoved i u.settle := by
  have now := now_of_kept (kept_settle u)
  refine ⟨fun state some => ?_, fun state some => ?_, fun state last => ?_, fun state last => ?_⟩
  · rw [← h.lowering]
    exact settle_lowering_waits calm (h.state.trans state) (by rw [h.lowering]; exact filter_ne_some some)
  · rw [← h.raising]
    exact settle_raising_waits calm (h.state.trans state) (by rw [h.raising]; exact filter_ne_some some)
  · have empty := h.lowering.trans (filter_ne_none last)
    have raises := fun (cut : s.round.cut = false) (clear : s.round.raising = []) =>
      settle_lowered calm (h.state.trans state) empty (h.cut.trans cut) (by rw [h.raising, clear]; rfl)
    rw [now]
    refine ⟨fun ends => ?_, fun whole clear => ?_⟩
    · by_cases cut : s.round.cut = true
      · exact settle_lowering_cut calm (h.state.trans state) empty (h.cut.trans cut)
      · obtain ⟨none, clear⟩ := ends.resolve_left cut
        have done := raises (Bool.eq_false_iff.2 cut) clear
        exact done.empty (done.none (h.toRaise.trans none))
    · have done := raises whole clear
      exact ⟨done.decided, done.empty, done.waits⟩
  · rw [now, ← h.backlog, ← h.raiseUnsent]
    exact settle_raised calm (h.state.trans state) (h.raising.trans (filter_ne_none last))

/-! ### The events (R136, R139) -/

/-- A transaction addressed to a bay waits for its answer (R136). -/
theorem awaited_of_bay {o : OnLoop} (onLoop : s.loop.onLoop = some o) (bay : o.txn.bay? = some i) : s.awaited = some o := by
  unfold State.awaited
  rw [onLoop]
  simp [Option.filter, address_of_bay bay]

/-- An answer to a GRANT. -/
theorem grant_eq (awake : s.resetHeld = false) {o : OnLoop} (onLoop : s.loop.onLoop = some o)
    (bay : o.txn.bay? = some i) (op : o.txn.opCode = 0x06) {resp : List Byte} {a : Answer}
    (valid : answer? o.txn resp = some a) :
    exec (.grant resp) s = .next (s.idleLoop.ended o.txn o.stale (.answer a)).settle := by
  refine (live_awake awake _).trans ?_
  rw [← op, onAnswer_eq onLoop bay valid]

/-- The third attempt that ends without an answer. -/
theorem third_eq (awake : s.resetHeld = false) {o : OnLoop} (awaited : s.awaited = some o) (third : o.attempt = 3) :
    exec .responseWaitExpiry s = .next ((s.reach o.waitDue).idleLoop.ended o.txn o.stale .noAnswer).settle := by
  show live s _ = _
  rw [live_awake awake, awaited]
  have failed : ∀ u : State, u.failedAttempt o = (u.idleLoop.ended o.txn o.stale .noAnswer).settle := fun u =>
    if_neg (by omega)
  dsimp only
  rw [failed]

theorem grant_of_opCode {y : Txn} (op : y.opCode = 0x06) (bay : y.bay? = some i) : ∃ k w, y = .grant k i w := by
  cases y with
  | grant k j w =>
    cases bay
    exact ⟨k, w, rfl⟩
  | _ => simp [Txn.opCode] at op

/-- What an answer to a GRANT makes of its bay and of the others. -/
structure State.GrantStored (s : State) (i : BayIx) (a : Answer) (t : State) : Prop where
  own : (t.bay i).seen =
    { (s.bay i).seen.heard with applied := if a.result = .ok then (a.byteAt 0).toNat else (s.bay i).applied }
  others : ∀ j, j ≠ i → (t.bay j).seen = (s.bay j).seen
  commanded : ∀ j, (t.bay j).commanded = (s.bay j).commanded
  outstanding : (t.bay i).outstanding = if s.unsentGrant i then (s.bay i).outstanding else none
  line : t.line = s.line
  state : t.round.state = s.round.state

theorem heard_applied (x : Seen) : x.heard.applied = x.applied := by
  unfold Seen.heard
  split <;> rfl

theorem grantStored_ended (s : State) (k : GrantKind) (i : BayIx) (w : Nat) (stale : Bool) (a : Answer) :
    s.GrantStored i a (s.ended (.grant k i w) stale (.answer a)) := by
  obtain ⟨heard, rest⟩ := seen_of_update (reports_heard s i)
  have spares := spares_heard s i
  rw [ended_grant, linkOf_answer rfl]
  generalize s.heard i = u at heard rest spares ⊢
  have bay := fun j => bay_grantTold u k i j (.answer a)
  have commanded := commanded_of_grants spares.grants
  have applied : (u.bay i).applied = (s.bay i).applied := (congrArg Seen.applied heard).trans (heard_applied _)
  refine ⟨?_, fun j ne => ?_, fun j => ?_, ?_, (line_grantTold ..).trans spares.line,
    (grantTold_state ..).trans (phase_of_grants spares.grants)⟩
  · have stored := congrArg Bay.seen (bay i)
    rw [if_pos rfl, applied] at stored
    exact stored.trans (congrArg (fun x : Seen => { x with applied := Ending.applied (.answer a) (s.bay i).applied }) heard)
  · rw [bay, if_neg ne, rest j ne]
  · rw [bay]
    split <;> exact commanded j
  · rw [bay, if_pos rfl, ← spares.unsentGrant, ← outstanding_of_grants spares.grants]

end

/-- Settles O26: the answer stored outside a round, and the round that waited for the GRANT moved on. -/
theorem grantAnswerSetsTheAppliedGrant : Obligations.GrantAnswerSetsTheAppliedGrant := by
  refine ⟨fun s awake calm rests o onLoop op i bay resp a valid => ?_,
    fun s awake calm o onLoop k i w txn own none => ?_⟩
  · obtain ⟨k, w, txn⟩ := grant_of_opCode op bay
    have stored := grantStored_ended s.idleLoop k i w o.stale a
    have kept := kept_ended s.idleLoop (.grant k i w) o.stale (.answer a)
    have works := works_ended s.idleLoop (t := .grant k i w) (i := i) rfl o.stale (.answer a)
    rw [grant_eq awake onLoop bay op valid, txn]
    generalize s.idleLoop.ended (.grant k i w) o.stale (.answer a) = u at stored kept works
    have calm := calm_of_works works (t := u) (s := s.idleLoop) ⟨calm.1, calm.2⟩
    have seen := seen_of_ground (ground_settle calm)
    have grants := grants_settle_still calm (by rw [stored.state]; exact rests)
    have free := (onLoop_of_still (still_settle u calm)).trans (onLoop_of_line stored.line rfl)
    have kept := (kept_settle u).trans kept
    generalize u.settle = t at seen grants free kept
    have field : ∀ {α : Type} (f : Seen → α), f (t.bay i).seen = _ := fun f => congrArg f ((seen i).trans stored.own)
    have heard := heard_eq (s.bay i).seen
    have commanded := fun j => (commanded_of_grants grants j).trans (stored.commanded j)
    rw [show (s.idleLoop.bay i) = s.bay i from rfl, heard] at field
    exact ⟨t, rfl, free, kept, field Seen.applied, commanded i,
      (outstanding_of_grants grants i).trans stored.outstanding, field Seen.miss,
      (field Seen.link).trans (heard_link _), field Seen.soc, field Seen.presence,
      fun j ne => ⟨(seen j).trans (stored.others j ne), commanded j⟩⟩
  · have bay : o.txn.bay? = some i := by rw [txn]; rfl
    have moved : ∀ u : State, u.Calm → u.loop.unsent = s.loop.unsent → u.round = s.round → ∀ e,
        s.RoundMoved i (u.ended o.txn o.stale e).settle := fun u calm unsent round e => by
      have awaits := awaits_ended (s := u) (i := i) own (by rw [unsent]; exact none) w o.stale e
      rw [← txn] at awaits
      have moved := roundMoved_settle awaits (calm_of_works (works_ended u bay o.stale e) calm)
      obtain ⟨lowers, raises, lowered, raised⟩ := moved
      rw [round] at lowers raises lowered raised
      exact ⟨lowers, raises, lowered, raised⟩
    dsimp only
    refine ⟨fun resp a valid => ?_, fun third => ?_⟩
    · obtain ⟨lowers, raises, lowered, raised⟩ := moved s.idleLoop ⟨calm.1, calm.2⟩ rfl rfl (.answer a)
      exact ⟨_, grant_eq awake onLoop bay (by rw [txn]; rfl) valid, lowers, raises, lowered, raised⟩
    · obtain ⟨lowers, raises, lowered, raised⟩ := moved (s.reach o.waitDue).idleLoop ⟨calm.1, calm.2⟩ rfl rfl .noAnswer
      exact ⟨_, third_eq awake (awaited_of_bay onLoop bay) third, lowers, raises, lowered, raised⟩

end Sys2Proof.Machine


/-! The third report over the bound (O25): the bay stands down. -/

namespace Sys2Proof.Machine

section
variable {s t u : State} {i : BayIx}

/-! ### A bay stood down (R47) -/

/-- The loop is powered, and no rebuild holds it. -/
def State.Powered (s : State) : Prop := s.loop.power = true ∧ s.loopHeld = false

theorem powered_of_works (h : t.works = s.works) (on : t.Powered) : s.Powered := by
  have power : t.loop.power = s.loop.power := congrArg Works.loopPower h
  have rebuild : t.loop.rebuild = s.loop.rebuild := congrArg Works.rebuild h
  obtain ⟨live, free⟩ := on
  unfold State.loopHeld at free
  rw [rebuild] at free
  exact ⟨power.symm.trans live, free⟩

/-- The bay is out of the ready set, and commanded 0 where the loop can be told so. -/
structure State.StoodDown (s : State) (i : BayIx) : Prop where
  out : i ∉ s.cust.readySet
  off : s.Powered → (s.bay i).commanded = 0

theorem State.StoodDown.spares (h : s.StoodDown i) (spares : s.Spares t) (works : t.works = s.works) : t.StoodDown i :=
  ⟨fun m => h.out (spares.ready m),
    fun on => (commanded_of_grants spares.grants i).trans (h.off (powered_of_works works on))⟩

/-- A fault on a loop that is powered and not held commands the bay 0 (R47). -/
theorem commanded_faultGrant (on : s.Powered) (i : BayIx) : ((s.faultGrant i).bay i).commanded = 0 := by
  obtain ⟨live, free⟩ := on
  have issued : ∀ u : State, ((if (u.bay i).commanded = 0 ∧ (u.bay i).applied = 0 then u
      else u.issueGrant (.fault false) i 0).bay i).commanded = 0 := fun u => by
    split
    · next none => exact none.1
    · obtain ⟨o, e⟩ := bay_issueGrant u (.fault false) i i 0
      rw [e, if_pos rfl]
  unfold State.faultGrant
  rw [if_pos (by simp [live, free])]
  exact issued _

theorem spares_faulted (s : State) (i : BayIx) (n : NoticeKind) (value : Option Nat) (why : Option Reason) :
    s.Spares ((s.raise n (bay := some i) (value := value) (reason := why)).leaveReady i (some .fault)) :=
  (spares_raise ..).trans (spares_leaveReady ..)

/-- A fault told: the bay is commanded 0 and leaves the ready set. -/
theorem stoodDown_fault (s : State) (i : BayIx) (n : NoticeKind) (value : Option Nat) (why : Option Reason) :
    (((s.faultGrant i).raise n (bay := some i) (value := value) (reason := why)).leaveReady i (some .fault)).StoodDown i where
  out := leaveReady_out _ i _
  off on := by
    have works : (((s.faultGrant i).raise n (bay := some i) (value := value) (reason := why)).leaveReady i
      (some .fault)).works = s.works := by simp
    rw [commanded_of_grants (spares_faulted (s.faultGrant i) i n value why).grants]
    exact commanded_faultGrant (powered_of_works works on) i

theorem stoodDown_takeOverdraw (s : State) (i : BayIx) (why : Reason) : (s.takeOverdraw i why).StoodDown i :=
  stoodDown_fault _ i .bayOverdraw _ _

theorem stoodDown_takeHot (s : State) (i : BayIx) : (s.takeHot i).StoodDown i := stoodDown_fault _ i .bayHot _ _

theorem stoodDown_testShort (h : s.StoodDown i) : (s.testShort i).StoodDown i := by
  unfold State.testShort
  split
  · exact stoodDown_takeOverdraw ..
  · exact h

theorem stoodDown_testHot (h : s.StoodDown i) : (s.testHot i).StoodDown i := by
  unfold State.testHot
  dsimp only
  split
  · split
    · exact h.spares (spares_modBay s i _ rfl rfl) rfl
    · exact stoodDown_takeHot ..
  · split
    · exact h.spares ((spares_modBay s i _ rfl rfl).trans (.of_loop rfl rfl fun _ m => m)) rfl
    · exact h

/-! ### The third report (R44) -/

/-- The next report of the bay over the bound is its third in a row. -/
structure State.Due (s : State) (i : BayIx) : Prop where
  sound : (s.bay i).overdraw = false
  count : (s.bay i).overdrawCount = 2

/-- A report under way changes neither the fault nor its count before the charge part. -/
theorem due_custodyReport (h : s.Due i) (k : Block) : ((s.heard i).custodyReport i k).Due i := by
  obtain ⟨r, told⟩ := reports_custodyReport (s.heard i) i k
  obtain ⟨own, -⟩ := seen_of_update told
  rw [reports_heard, Function.update_self, heard_eq] at own
  exact ⟨(congrArg Seen.overdraw own).trans h.sound, (congrArg Seen.overdrawCount own).trans h.count⟩

theorem stoodDown_testOverdraw {k : Block} (h : s.Due i) (high : overBound k.limit < min k.measured 60) :
    ((s.storeCharge i k).testOverdraw i).StoodDown i := by
  obtain ⟨own, -⟩ := seen_of_update (reports_storeCharge s i k)
  generalize s.storeCharge i k = u at own ⊢
  have sound : (u.bay i).overdraw = false := (congrArg Seen.overdraw own).trans h.sound
  have count : (u.bay i).overdrawCount = 2 := (congrArg Seen.overdrawCount own).trans h.count
  have applied : (u.bay i).applied = k.limit := congrArg Seen.applied own
  have measured : (u.bay i).measured = min k.measured 60 := congrArg Seen.measured own
  have taken : u.testOverdraw i = u.takeOverdraw i .overdraw := by
    unfold State.testOverdraw
    dsimp only
    rw [if_neg (by simp [sound]), applied, measured, if_pos high, if_pos (by omega)]
  rw [taken]
  exact stoodDown_takeOverdraw ..

theorem stoodDown_applyCharge {k : Block} (h : s.Due i) (high : overBound k.limit < min k.measured 60) :
    (s.applyCharge i k).StoodDown i := by
  have tested := stoodDown_testHot (stoodDown_testShort (stoodDown_testOverdraw h high))
  unfold State.applyCharge
  dsimp only
  generalize (((s.storeCharge i k).testOverdraw i).testShort i).testHot i = u at tested ⊢
  have shared := tested.spares (spares_refreshShare u i) (works_refreshShare u i)
  split
  · exact shared.spares (spares_dispatch _) (works_dispatch _)
  · exact shared

theorem works_told_status {y : Txn} (op : y.opCode = 0x04) (s : State) (stale : Bool) (e : Ending) :
    (s.told y stale e).works = s.works := by
  cases y with
  | verify k j => exact works_of_ground (ground_verifyTold ..)
  | scan j => rfl
  | recon j => exact works_reconTold ..
  | _ => simp [Txn.opCode] at op

theorem ended_status_ok {y : Txn} (op : y.opCode = 0x04) (bay : y.bay? = some i) (s : State) (stale : Bool) {a : Answer}
    (ok : a.result = .ok) : s.ended y stale (.answer a) =
      ((((s.heard i).custodyReport i a.block).applyCharge i a.block).compareLamp i).told y stale (.answer a) := by
  unfold State.ended
  rw [linkOf_answer bay, shareOut_status op bay, if_pos ok]
  rfl

theorem stoodDown_ended {y : Txn} (op : y.opCode = 0x04) (bay : y.bay? = some i) (h : s.Due i) (stale : Bool) {a : Answer}
    (ok : a.result = .ok) (high : overBound a.block.limit < min a.block.measured 60) :
    (s.ended y stale (.answer a)).StoodDown i := by
  rw [ended_status_ok op bay s stale ok]
  have charged := stoodDown_applyCharge (due_custodyReport h a.block) high
  exact (charged.spares (spares_compareLamp _ i) (works_compareLamp _ i)).spares (spares_told_status op _ stale _)
    (works_told_status op _ stale _)

/-- A STATUS moves no phase of a round (R37). -/
theorem phase_ended_status {y : Txn} (op : y.opCode = 0x04) (bay : y.bay? = some i) (s : State) (stale : Bool) {a : Answer}
    (ok : a.result = .ok) : (s.ended y stale (.answer a)).round.state = s.round.state := by
  rw [ended_status_ok op bay s stale ok, phase_of_grants (spares_told_status op _ stale _).grants,
    phase_of_grants (grants_compareLamp _ i), (stays_applyCharge _ i a.block).phase,
    phase_of_grants (spares_custodyReport _ i _).grants, phase_of_grants (spares_heard s i).grants]

/-- OVERDRAW_FAULT is the STATUS that brings the third report (R44, L3). -/
theorem overdrawFault_eq {key : Bool} {o : OnLoop} (onLoop : s.loop.onLoop = some o) (bay : o.txn.bay? = some i)
    (op : o.txn.opCode = 0x04) (h : s.Due i) {resp : List Byte} {a : Answer} (valid : answer? o.txn resp = some a)
    (ok : a.result = .ok) (high : overBound a.block.limit < min a.block.measured 60) :
    exec (.overdrawFault resp key) s = exec (.status resp key) s := by
  have awaited := awaited_of_bay onLoop bay
  have would : s.wouldOverdraw resp = true := by
    unfold State.wouldOverdraw
    rw [awaited]
    dsimp only
    rw [bay, valid]
    simp [op, ok, h.sound, h.count, high]
  show live s _ = live s _
  rw [if_pos would]

end

/-- Settles O25: the fault taken in the charge part, and kept to the end of the event. -/
theorem thirdReportOverTheBoundIsAFault : Obligations.ThirdReportOverTheBoundIsAFault := by
  intro key s awake calm o onLoop op i bay sound count resp a valid ok high
  have due : (s.idled key).Due i := ⟨sound, count⟩
  have down := stoodDown_ended op bay due o.stale ok high
  have phase := phase_ended_status op bay (s.idled key) o.stale ok
  have works := works_ended (s.idled key) bay o.stale (.answer a)
  obtain ⟨x, reports, stored⟩ := reports_ended_status op bay (s.idled key) o.stale a
  rw [overdrawFault_eq onLoop bay op ⟨sound, count⟩ valid ok high, status_eq awake onLoop bay op valid key]
  generalize (s.idled key).ended o.txn o.stale (.answer a) = u at down phase works reports
  have calm := calm_of_works works (calm_idled key calm)
  obtain ⟨own, -⟩ := seen_of_update ((reports_of_ground (ground_settle calm)).trans reports)
  have cust := cust_of_still (still_settle u calm)
  have grants := fun rests => grants_settle_still calm (u := u) rests
  have charged := stored.ok ok
  obtain ⟨fault, zero⟩ := charged.third (by
    show Seen.overdraw (Seen.heard _) = false
    rw [heard_eq]; exact sound) (by
    show Seen.overdrawCount (Seen.heard _) = 2
    rw [heard_eq]; exact count) high
  generalize u.settle = t at own cust grants
  have overdraw : (t.bay i).overdraw = true := (congrArg Seen.overdraw own).trans fault
  refine ⟨t, rfl, rfl, overdraw, (congrArg Seen.overdrawCount own).trans zero, by simp [eligibleNow, overdraw],
    (congrArg Seen.applied own).trans charged.applied, (congrArg Seen.measured own).trans charged.measured,
    by rw [cust]; exact down.out, fun on free rests => ?_⟩
  rw [commanded_of_grants (grants (by rw [phase]; exact rests))]
  exact down.off (powered_of_works works.symm ⟨on, free⟩)

end Sys2Proof.Machine


/-! The third attempt that fails (O23): the miss, the link that it loses, and the client that asked. -/

namespace Sys2Proof.Machine

section
variable {s t u : State} {i : BayIx}

/-! ### Seat-settle timers -/

/-- No seat-settle timer is started. -/
structure State.StartsNoSeating (s t : State) : Prop where
  off : ∀ i, (s.bay i).seatDue = none → (t.bay i).seatDue = none

theorem State.StartsNoSeating.refl (s : State) : s.StartsNoSeating s := ⟨fun _ => id⟩

theorem State.StartsNoSeating.trans (h : s.StartsNoSeating t) (k : t.StartsNoSeating u) : s.StartsNoSeating u :=
  ⟨fun i none => k.off i (h.off i none)⟩

theorem startsNoSeating_docket (h : t.docket = s.docket) : s.StartsNoSeating t :=
  ⟨fun i none => (congrArg Case.seatDue (case_of_docket h i)).trans none⟩

theorem startsNoSeating_bays (h : t.bays = s.bays) : s.StartsNoSeating t :=
  ⟨fun i none => by unfold State.bay at *; rw [h]; exact none⟩

theorem startsNoSeating_modBay (s : State) (i : BayIx) (f : Bay → Bay)
    (h : (s.bay i).seatDue = none → (f (s.bay i)).seatDue = none) : s.StartsNoSeating (s.modBay i f) := by
  refine ⟨fun j none => ?_⟩
  rw [bay_modBay]
  by_cases e : j = i
  · subst e
    rw [if_pos rfl]
    exact h none
  · rw [if_neg e]
    exact none

theorem startsNoSeating_setSlot (s : State) (k : PulseSlot) (p : Option Pulse) : s.StartsNoSeating (s.setSlot k p) :=
  startsNoSeating_bays (setSlot_bays s k p)

theorem startsNoSeating_stopSeating (s : State) (i : BayIx) : s.StartsNoSeating (s.stopSeating i) :=
  (startsNoSeating_docket (docket_dropTag s i)).trans (startsNoSeating_modBay _ i _ fun _ => rfl)

theorem startsNoSeating_stopWindow (s : State) (i : BayIx) : s.StartsNoSeating (s.stopWindow i) :=
  startsNoSeating_modBay s i _ id

/-- Only Seating starts a seat-settle timer (R57). -/
theorem startsNoSeating_jammed (s : State) (i : BayIx) (d : Dir) (o : JamOrigin) :
    s.StartsNoSeating (s.become i (.jammed d o)) := by
  have sent : ∀ (u : State) (p : Prop) [Decidable p], u.StartsNoSeating (if p then u.dispatch else u) := fun u p _ => by
    split
    · exact startsNoSeating_docket (docket_dispatch u)
    · exact .refl u
  have left : ∀ (p : Prop) [Decidable p], s.StartsNoSeating (if p then s else s.leaveReady i (some .custody)) :=
    fun p _ => by
      split
      · exact .refl s
      · exact startsNoSeating_docket (docket_leaveReady ..)
  unfold State.become
  dsimp only
  exact (left _).trans ((startsNoSeating_stopSeating _ i).trans
    ((startsNoSeating_modBay _ i _ fun _ => rfl).trans
      ((startsNoSeating_stopWindow _ i).trans (sent _ _))))

theorem startsNoSeating_attemptFailed (s : State) (k : PulseSlot) (p : Pulse) :
    s.StartsNoSeating (s.attemptFailed k p) := by
  unfold State.attemptFailed
  split
  · exact startsNoSeating_setSlot ..
  · exact (startsNoSeating_docket (docket_raise ..)).trans
      ((startsNoSeating_setSlot _ k none).trans (startsNoSeating_jammed ..))

/-! ### A client told of no answer -/

/-- A pulse whose LOCK or verification read has no answer fails its attempt (R102, R103). -/
theorem lockTold_noAnswer (s : State) (k : PulseSlot) (ms : Nat) :
    s.lockTold k ms .noAnswer = s ∨ ∃ p, s.lockTold k ms .noAnswer = s.attemptFailed k p := by
  unfold State.lockTold
  split
  · exact .inl rfl
  · exact .inr ⟨_, rfl⟩

theorem verifyTold_noAnswer (s : State) (k : PulseSlot) :
    s.verifyTold k .noAnswer = s ∨ ∃ p, s.verifyTold k .noAnswer = s.attemptFailed k p := by
  unfold State.verifyTold
  split
  · exact .inl rfl
  · exact .inr ⟨_, rfl⟩

/-- What a client told of no answer leaves, but for the GRANTs. -/
structure State.Unheard (s t : State) : Prop where
  spares : s.Spares t
  seats : s.StartsNoSeating t

theorem State.Unheard.refl (s : State) : s.Unheard s := ⟨.refl s, .refl s⟩

theorem unheard_attemptFailed (h : t = s ∨ ∃ k p, t = s.attemptFailed k p) : s.Unheard t := by
  obtain rfl | ⟨k, p, rfl⟩ := h
  · exact .refl _
  · exact ⟨spares_attemptFailed .., startsNoSeating_attemptFailed ..⟩

theorem unheard_place (s : State) {y : Txn} (other : y.client ≠ .allocator) : s.Unheard (s.place y) :=
  ⟨spares_place s other, startsNoSeating_docket (docket_place s y)⟩

theorem tagTold_noAnswer (s : State) (i : BayIx) (recon stale : Bool) : s.told (.tag i recon) stale .noAnswer =
    if s.tagUnwanted i recon stale = false ∧ (s.bay i).link = .linked then s.place (.tag i recon) else s := by
  show (if s.tagUnwanted i recon stale then s
    else if (s.bay i).link = .linked then s.place (.tag i recon) else s) = _
  cases s.tagUnwanted i recon stale <;> simp

theorem unheard_told {y : Txn} (bay : y.bay? = some i) (other : y.client ≠ .allocator) (s : State) (stale : Bool) :
    s.Unheard (s.told y stale .noAnswer) := by
  cases y with
  | lock k j d ms => exact unheard_attemptFailed ((lockTold_noAnswer s k ms).imp id fun h => ⟨k, h⟩)
  | verify k j => exact unheard_attemptFailed ((verifyTold_noAnswer s k).imp id fun h => ⟨k, h⟩)
  | grant k j w => exact absurd rfl other
  | tag j recon =>
    rw [tagTold_noAnswer]
    split
    · exact unheard_place s other
    · exact .refl s
  | scan j => exact ⟨spares_scanTold s, startsNoSeating_bays rfl⟩
  | recon j =>
    refine ⟨spares_reconTold s j .noAnswer, ?_⟩
    show s.StartsNoSeating (s.reconTold j .noAnswer)
    unfold State.reconTold
    split
    · exact .refl s
    · exact .refl s
    · dsimp only
      split
      · exact startsNoSeating_docket (docket_place ..)
      · exact .refl s
  | lamp j c =>
    show s.Unheard (s.modBay j fun b => { b with lampShown := none })
    exact ⟨spares_modBay s j _ rfl rfl, startsNoSeating_modBay s j _ id⟩
  | _ => cases bay

theorem grant_of_allocator {y : Txn} (bay : y.bay? = some i) (own : y.client = .allocator) : ∃ k w, y = .grant k i w := by
  cases y with
  | grant k j w =>
    cases bay
    exact ⟨k, w, rfl⟩
  | shed => cases bay
  | _ => simp [Txn.client] at own

theorem cust_grantTold (s : State) (k : GrantKind) (i : BayIx) (e : Ending) : (s.grantTold k i e).cust = s.cust := by
  obtain ⟨l, r, ended⟩ := grantEnded_spec
    ((s.setGrants i (e.applied (s.bay i).applied) (s.bay i).commanded).clearOutstanding i) k i
  have cleared : ∀ u : State, (u.clearOutstanding i).cust = u.cust := fun u => by
    unfold State.clearOutstanding
    split <;> rfl
  rw [grantTold_eq, ended]
  exact (cleared _).trans (setGrants_cust ..)

/-- What every client told of no answer leaves. -/
structure State.Untold (s t : State) : Prop where
  line : t.line = s.line
  ready : t.cust.readySet ⊆ s.cust.readySet
  seats : s.StartsNoSeating t

theorem untold_told {y : Txn} (bay : y.bay? = some i) (s : State) (stale : Bool) : s.Untold (s.told y stale .noAnswer) := by
  by_cases own : y.client = .allocator
  · obtain ⟨k, w, rfl⟩ := grant_of_allocator bay own
    show s.Untold (s.grantTold k i .noAnswer)
    refine ⟨line_grantTold .., by rw [cust_grantTold]; exact fun _ m => m, ⟨fun j none => ?_⟩⟩
    rw [bay_grantTold]
    split <;> exact none
  · obtain ⟨spares, seats⟩ := unheard_told bay own s stale
    exact ⟨spares.line, spares.ready, seats⟩

/-! ### The miss (R140) -/

/-- The next miss of the bay loses its link. -/
def State.Loses (s : State) (i : BayIx) : Prop := (s.bay i).miss = 2 ∧ (s.bay i).link = .linked

theorem docket_missed (on : ¬ s.Loses i) : (s.missed i).docket = s.docket := by
  have counted := docket_modBay_same s i (fun b => { b with miss := b.miss + 1 }) rfl
  unfold State.missed
  dsimp only
  split
  · rw [if_neg (show ¬((s.bay i).miss = 2 ∧ (s.bay i).link = .linked) from on)]
    exact counted
  · rfl

theorem missed_lost (h : s.Loses i) : i ∉ (s.missed i).cust.readySet := by
  unfold State.missed State.linkLost
  dsimp only
  rw [if_pos (by rw [h.1]; decide), if_pos (show (s.bay i).miss = 2 ∧ (s.bay i).link = .linked from h)]
  exact leaveReady_out _ i _

/-- What is known of the bay afterwards. -/
structure State.MissCounted (s : State) (i : BayIx) (t : State) : Prop where
  miss : (t.bay i).miss = if (s.bay i).miss < 3 then (s.bay i).miss + 1 else (s.bay i).miss
  lost : s.Loses i → (t.bay i).link = .lost ∧ (t.bay i).lostAt = some s.retained.seconds
  on : ¬ s.Loses i → (t.bay i).link = (s.bay i).link ∧ (t.bay i).lostAt = (s.bay i).lostAt
  soc : (t.bay i).soc = (s.bay i).soc
  applied : (t.bay i).applied = (s.bay i).applied
  presence : (t.bay i).presence = (s.bay i).presence
  bolt : (t.bay i).bolt = (s.bay i).bolt
  others : ∀ j, j ≠ i → (t.bay j).seen = (s.bay j).seen

theorem missed_miss (x : Seen) (now : Secs) : (x.missed now).miss = if x.miss < 3 then x.miss + 1 else x.miss := by
  unfold Seen.missed
  split
  · split <;> rfl
  · rfl

theorem missed_lose {x : Seen} (now : Secs) (h : x.miss = 2 ∧ x.link = .linked) :
    (x.missed now).link = .lost ∧ (x.missed now).lostAt = some now := by
  unfold Seen.missed
  rw [if_pos (by omega), if_pos h]
  exact ⟨rfl, rfl⟩

theorem missed_hold {x : Seen} (now : Secs) (h : ¬(x.miss = 2 ∧ x.link = .linked)) :
    (x.missed now).link = x.link ∧ (x.missed now).lostAt = x.lostAt := by
  unfold Seen.missed
  rw [if_neg h]
  split <;> exact ⟨rfl, rfl⟩

/-- A miss changes the link, the miss count and the mark of reconciliation alone. -/
theorem missed_eq (x : Seen) (now : Secs) : x.missed now =
    { x with
      link := (x.missed now).link, miss := (x.missed now).miss, lostAt := (x.missed now).lostAt
      recon := (x.missed now).recon } := by
  unfold Seen.missed
  split_ifs <;> rfl

theorem missCounted_of {c : Option Colour} (h : t.reports = Function.update s.reports i
    { (s.reports i).missed s.retained.seconds with lampShown := c }) : s.MissCounted i t := by
  obtain ⟨own, others⟩ := seen_of_update h
  have miss := missed_miss (s.reports i) s.retained.seconds
  have lose := missed_lose (x := s.reports i) s.retained.seconds
  have hold := missed_hold (x := s.reports i) s.retained.seconds
  rw [missed_eq] at own
  have field : ∀ {α : Type} (f : Seen → α), f (t.bay i).seen = _ := fun f => congrArg f own
  exact ⟨(field Seen.miss).trans miss,
    fun h => ⟨(field Seen.link).trans (lose h).1, (field Seen.lostAt).trans (lose h).2⟩,
    fun h => ⟨(field Seen.link).trans (hold h).1, (field Seen.lostAt).trans (hold h).2⟩,
    field Seen.soc, field Seen.applied, field Seen.presence, field Seen.bolt, others⟩

/-! ### The transaction ended NoAnswer -/

theorem ended_noAnswer {y : Txn} (bay : y.bay? = some i) (s : State) (stale : Bool) :
    s.ended y stale .noAnswer = (s.missed i).told y stale .noAnswer := by
  have shared : ∀ u : State, u.shareOut y .noAnswer = u := fun u => by
    unfold State.shareOut
    rw [bay]
  unfold State.ended
  rw [linkOf_noAnswer bay, shared]

theorem reports_ended_noAnswer {y : Txn} (bay : y.bay? = some i) (s : State) (stale : Bool) :
    ∃ c, (s.ended y stale .noAnswer).reports = Function.update s.reports i
      { (s.reports i).missed s.retained.seconds with lampShown := c } := by
  obtain ⟨c, told⟩ := reports_told_noAnswer bay (s.missed i) stale
  rw [reports_missed, Function.update_idem, Function.update_self] at told
  exact ⟨c, by rw [ended_noAnswer bay]; exact told⟩

theorem untold_ended {y : Txn} (bay : y.bay? = some i) (s : State) (stale : Bool) :
    (s.missed i).Untold (s.ended y stale .noAnswer) := by
  rw [ended_noAnswer bay]
  exact untold_told bay _ stale

/-- A bay whose link is lost stops its seating. -/
theorem missed_seatDue (h : s.Loses i) : ((s.missed i).bay i).seatDue = none := by
  obtain ⟨docket, -⟩ := missed_last h.1 h.2
  exact congrArg Case.seatDue (case_of_put docket)

/-! ### A TAG and a GRANT that end so (R39, R60) -/

/-- What becomes of a Seating bay's read. -/
structure State.ReadAgain (s : State) (i : BayIx) (t : State) : Prop where
  custody : (t.bay i).custody = .seating
  lost : s.Loses i → (t.bay i).tagTries = 0 ∧ (t.bay i).tagRetryDue = none
  again : ¬ s.Loses i → (s.bay i).link = .linked →
    (t.bay i).tagTries = (s.bay i).tagTries ∧ .tag i false ∈ t.loop.unsent

theorem readAgain_ended (seating : (s.bay i).custody = .seating) (tries : (s.bay i).tagTries ≠ 0) :
    s.ReadAgain i (s.ended (.tag i false) false .noAnswer) := by
  have told := tagTold_noAnswer (s.missed i) i false false
  have docket : ((s.missed i).told (.tag i false) false .noAnswer).docket = (s.missed i).docket := by
    rw [told]
    split
    · exact docket_place ..
    · rfl
  rw [ended_noAnswer rfl]
  by_cases loses : s.Loses i
  · obtain ⟨lost, -⟩ := missed_last loses.1 loses.2
    have own := case_of_put (docket.trans lost)
    exact ⟨(congrArg Case.custody own).trans seating,
      fun _ => ⟨congrArg Case.tagTries own, congrArg Case.tagRetryDue own⟩, absurd loses⟩
  · have same := docket_missed loses
    have before := case_of_docket same i
    have own := case_of_docket (docket.trans same) i
    refine ⟨(congrArg Case.custody own).trans seating, fun h => absurd h loses,
      fun _ linked => ⟨congrArg Case.tagTries own, ?_⟩⟩
    have custody : ((s.missed i).bay i).custody = .seating := (congrArg Case.custody before).trans seating
    have count : ((s.missed i).bay i).tagTries ≠ 0 := fun e => tries ((congrArg Case.tagTries before).symm.trans e)
    have up : ((s.missed i).bay i).link = .linked := (congrArg Case.link before).trans linked
    rw [told, if_pos ⟨by simp [State.tagUnwanted, custody, count], up⟩]
    exact mem_place_self _ (by simp [Txn.client])

theorem readAgain_settle (h : s.ReadAgain i u) (calm : u.Calm) : s.ReadAgain i u.settle := by
  have own := case_of_docket (docket_of_still (still_settle u calm)) i
  have shows := shows_settle calm.2 (.inl calm.1)
  generalize u.settle = t at own shows ⊢
  refine ⟨(congrArg Case.custody own).trans h.custody, fun loses => ?_, fun on linked => ?_⟩
  · obtain ⟨tries, retry⟩ := h.lost loses
    exact ⟨(congrArg Case.tagTries own).trans tries, (congrArg Case.tagRetryDue own).trans retry⟩
  · obtain ⟨tries, waits⟩ := h.again on linked
    exact ⟨(congrArg Case.tagTries own).trans tries, shows.mem _ waits rfl fun j c e => by cases e⟩

/-- What becomes of the grants of a bay whose GRANT has ended. -/
structure State.GrantLeft (s : State) (i : BayIx) (t : State) : Prop where
  commanded : (t.bay i).commanded = (s.bay i).commanded
  outstanding : (t.bay i).outstanding = if s.unsentGrant i then (s.bay i).outstanding else none

theorem grantLeft_ended (s : State) (k : GrantKind) (i : BayIx) (w : Nat) (stale : Bool) :
    s.GrantLeft i (s.ended (.grant k i w) stale .noAnswer) ∧
      (s.ended (.grant k i w) stale .noAnswer).round.state = s.round.state := by
  have spares := spares_missed s i
  rw [ended_grant, linkOf_noAnswer rfl]
  generalize s.missed i = u at spares ⊢
  have own := bay_grantTold u k i i .noAnswer
  rw [if_pos rfl, spares.unsentGrant] at own
  refine ⟨⟨?_, ?_⟩, (grantTold_state ..).trans (phase_of_grants spares.grants)⟩
  · rw [own]
    exact commanded_of_grants spares.grants i
  · rw [own, ← outstanding_of_grants spares.grants]

/-! ### The event -/

/-- What the obligation says of the third failed attempt. -/
structure State.MissTaken (s : State) (o : OnLoop) (i : BayIx) (t : State) : Prop where
  counted : s.MissCounted i t
  free : t.loop.onLoop = none
  lost : s.Loses i → (t.bay i).seatDue = none ∧ i ∉ t.cust.readySet
  tag : o.txn = .tag i false → o.stale = false → (s.bay i).custody = .seating → (s.bay i).tagTries ≠ 0 →
    s.ReadAgain i t
  grant : ∀ k w, o.txn = .grant k i w → s.round.state = .idle ∨ s.round.state = .holdoff → s.GrantLeft i t

theorem missTaken (calm : s.Calm) (free : s.loop.onLoop = none) {o : OnLoop} (bay : o.txn.bay? = some i) :
    s.MissTaken o i (s.ended o.txn o.stale .noAnswer).settle := by
  obtain ⟨c, reports⟩ := reports_ended_noAnswer bay s o.stale
  obtain ⟨line, ready, seats⟩ := untold_ended bay s o.stale
  have calm := calm_of_works (works_ended s bay o.stale .noAnswer) calm
  have still := still_settle (s.ended o.txn o.stale .noAnswer) calm
  refine ⟨missCounted_of ((reports_of_ground (ground_settle calm)).trans reports),
    (onLoop_of_still still).trans (onLoop_of_line (line.trans (spares_missed s i).line) free), fun loses => ?_,
    fun txn fresh seating tries => ?_, fun k w txn rests => ?_⟩
  · rw [cust_of_still still]
    exact ⟨(seatDue_of_core (core_of_still still i)).trans (seats.off i (missed_seatDue loses)),
      fun m => missed_lost loses (ready m)⟩
  · rw [txn, fresh] at calm ⊢
    exact readAgain_settle (readAgain_ended seating tries) calm
  · rw [txn] at calm ⊢
    obtain ⟨left, phase⟩ := grantLeft_ended s k i w o.stale
    have grants := grants_settle_still calm (by rw [phase]; exact rests)
    exact ⟨(commanded_of_grants grants i).trans left.commanded, (outstanding_of_grants grants i).trans left.outstanding⟩

/-- The loop idle, at a moment. -/
def State.idledAt (s : State) (n : Nat) : State := { s with now := n, loop := { s.loop with onLoop := none } }

theorem State.Calm.idledAt {n : Nat} (calm : s.Calm) : (s.idledAt n).Calm := ⟨calm.1, calm.2⟩

/-- What the obligation says does not read the transaction that has left the loop, nor the clock. -/
theorem State.MissTaken.idled {n : Nat} {o : OnLoop} (h : (s.idledAt n).MissTaken o i t) : s.MissTaken o i t where
  counted := { h.counted with }
  free := h.free
  lost := h.lost
  tag txn fresh seating tries := { h.tag txn fresh seating tries with }
  grant k w txn rests := { h.grant k w txn rests with }

/-- A response to the third attempt that is no answer (R136, R139). -/
theorem notValid_eq (awake : s.resetHeld = false) {o : OnLoop} (onLoop : s.loop.onLoop = some o)
    (bay : o.txn.bay? = some i) (third : o.attempt = 3) {resp : List Byte} (none : answer? o.txn resp = none) :
    exec (.responseNotValid resp) s = .next (s.idleLoop.ended o.txn o.stale .noAnswer).settle := by
  have awaited := awaited_of_bay onLoop bay
  have failed : s.failedAttempt o = (s.idleLoop.ended o.txn o.stale .noAnswer).settle := if_neg (by omega)
  show live s _ = _
  rw [live_awake awake, awaited]
  dsimp only
  rw [none, Option.isNone_none, if_pos rfl, failed]

/-- LINK_LOST is the end of the wait that loses the link (R140, L3). -/
theorem linkLost_eq {o : OnLoop} (onLoop : s.loop.onLoop = some o) (bay : o.txn.bay? = some i) (third : o.attempt = 3)
    (loses : s.Loses i) : exec .linkLost s = exec .responseWaitExpiry s := by
  obtain ⟨two, linked⟩ := loses
  have awaited := awaited_of_bay onLoop bay
  have would : s.wouldLose o = true := by
    unfold State.wouldLose
    rw [bay]
    simp [third, two, linked]
  show live s _ = live s _
  rw [awaited]
  dsimp only
  rw [if_pos would]

end

/-- Settles O23: the miss counted, the client told, and the rest of the event. -/
theorem thirdFailedAttemptIsAMiss : Obligations.ThirdFailedAttemptIsAMiss := by
  intro s awake calm o onLoop third i bay ends
  have now : ∀ u : State, (u.ended o.txn o.stale .noAnswer).settle.now = u.now := fun u =>
    now_of_kept ((kept_settle _).trans (kept_ended ..))
  have said : ∀ {t : State}, s.MissTaken o i t → ends (.next t) t.now := fun {t} taken => by
    obtain ⟨counted, free, lost, tag, grant⟩ := taken
    obtain ⟨miss, gone, on, soc, applied, presence, bolt, others⟩ := counted
    refine ⟨t, rfl, rfl, free, miss, fun l => ?_, on, soc, applied, presence, bolt, others,
      fun txn fresh seating tries => ?_, fun k w txn rests => ?_⟩
    · exact ⟨(gone l).1, (gone l).2, (lost l).1, (lost l).2⟩
    · obtain ⟨custody, lose, again⟩ := tag txn fresh seating tries
      exact ⟨custody, lose, again⟩
    · obtain ⟨commanded, outstanding⟩ := grant k w txn rests
      exact ⟨commanded, outstanding⟩
  refine ⟨?_, fun two linked => linkLost_eq onLoop bay third ⟨two, linked⟩, fun resp none => ?_⟩
  · have time : _ = max s.now o.waitDue := now (s.reach o.waitDue).idleLoop
    rw [third_eq awake (awaited_of_bay onLoop bay) third, ← time]
    exact said (missTaken (s := s.idledAt (max s.now o.waitDue)) calm.idledAt rfl bay).idled
  · have time : _ = s.now := now s.idleLoop
    rw [notValid_eq awake onLoop bay third none, ← time]
    exact said (missTaken (s := s.idledAt s.now) calm.idledAt rfl bay).idled

end Sys2Proof.Machine


/-! What the end of an event leaves while reconciliation begins (O32): the scan, the rebuild, what the nodes last said, the
grants, and the STATUS placements that wait. -/

namespace Sys2Proof.Machine

section
variable {s t u : State} {i : BayIx}

/-! ### Placements that nothing replaces -/

/-- No placement takes this one's place (R142). -/
def Txn.Firm (y : Txn) : Prop := ∀ z : Txn, z.replaces? y = none

theorem firm_scan (i : BayIx) : (Txn.scan i).Firm := fun z => by cases z <;> rfl

theorem firm_recon (i : BayIx) : (Txn.recon i).Firm := fun z => by cases z <;> rfl

/-- The firm placements that wait go on waiting. -/
structure State.Holds (s t : State) : Prop where
  mem : ∀ y : Txn, y.Firm → y ∈ s.loop.unsent → y ∈ t.loop.unsent

theorem State.Holds.refl (s : State) : s.Holds s := ⟨fun _ _ m => m⟩

theorem State.Holds.trans (h : s.Holds t) (k : t.Holds u) : s.Holds u := ⟨fun y f m => k.mem y f (h.mem y f m)⟩

theorem State.Holds.of_loop (h : t.loop = s.loop) : s.Holds t := ⟨fun _ _ m => h ▸ m⟩

theorem State.Holds.ite {p : Prop} [Decidable p] (yes : s.Holds t) (no : s.Holds u) : s.Holds (if p then t else u) := by
  split
  · exact yes
  · exact no

theorem State.Holds.foldl {α : Type} (f : State → α → State) (h : ∀ (s : State) a, s.Holds (f s a)) (l : List α)
    (s : State) : s.Holds (l.foldl f s) := by
  induction l generalizing s with
  | nil => exact .refl s
  | cons a l ih => exact (h s a).trans (ih _)

theorem holds_place (s : State) (t : Txn) : s.Holds (s.place t) :=
  ⟨fun y firm m => mem_put_of_mem (fun z r => by rw [firm t] at r; cases r) m⟩

theorem holds_grantSlots (s : State) : s.Holds s.grantSlots := by
  have one : ∀ u : State, u.Holds u.grantSlot := fun u => by
    unfold State.grantSlot
    refine .ite ?_ (.refl u)
    split
    · exact .refl u
    · next e _ =>
      dsimp only
      unfold State.startAttempt
      have taken : u.Holds { u with arb := { u.arb with queue := u.arb.queue.filter fun x => x.1 ≠ e.1 } } := .of_loop rfl
      exact taken.trans ((State.Holds.of_loop (setSlot_loop ..)).trans (holds_place ..))
  exact (one s).trans (one _)

theorem holds_compareLamp (s : State) (i : BayIx) : s.Holds (s.compareLamp i) := by
  unfold State.compareLamp
  dsimp only
  exact .ite (.refl s) (.ite (holds_place ..) (.ite (holds_place ..) (.refl s)))

theorem holds_deriveLamps (s : State) : s.Holds s.deriveLamps := by
  refine .foldl _ (fun u i => ?_) allBays s
  unfold State.deriveLamp
  dsimp only
  refine .ite (.refl u) (State.Holds.trans ?_ (holds_compareLamp ..))
  exact .of_loop rfl

theorem holds_judgeEligible (s : State) : s.Holds s.judgeEligible := by
  have judged : s.judgeEligible.loop = s.loop := by
    unfold State.judgeEligible
    dsimp only
    split
    · rw [markPending_loop, modBays_loop]
    · rw [modBays_loop]
  exact .of_loop judged

/-! ### What stands -/

/-- What the end of a rebuild reads at the end of its event. -/
structure State.Stands (s t : State) : Prop where
  scan : t.loop.scan = s.loop.scan
  rebuild : t.loop.rebuild = s.loop.rebuild
  line : t.line = s.line
  case : t.cust.reconCase = s.cust.reconCase
  cause : t.cust.reconCause = s.cust.reconCause
  cold : t.cust.coldNext = s.cust.coldNext
  drain : t.power.drain = s.power.drain
  now : t.now = s.now
  phase : t.round.state = s.round.state
  seen : ∀ i, (t.bay i).seen = (s.bay i).seen
  custody : ∀ i, (t.bay i).custody = (s.bay i).custody
  commanded : ∀ i, (t.bay i).commanded = (s.bay i).commanded
  outstanding : ∀ i, (t.bay i).outstanding = (s.bay i).outstanding
  holds : s.Holds t

theorem State.Stands.refl (s : State) : s.Stands s :=
  ⟨rfl, rfl, rfl, rfl, rfl, rfl, rfl, rfl, rfl, fun _ => rfl, fun _ => rfl, fun _ => rfl, fun _ => rfl, .refl s⟩

theorem State.Stands.trans (h : s.Stands t) (k : t.Stands u) : s.Stands u :=
  ⟨k.scan.trans h.scan, k.rebuild.trans h.rebuild, k.line.trans h.line, k.case.trans h.case, k.cause.trans h.cause,
    k.cold.trans h.cold, k.drain.trans h.drain, k.now.trans h.now, k.phase.trans h.phase,
    fun i => (k.seen i).trans (h.seen i), fun i => (k.custody i).trans (h.custody i),
    fun i => (k.commanded i).trans (h.commanded i), fun i => (k.outstanding i).trans (h.outstanding i),
    h.holds.trans k.holds⟩

theorem State.Stands.foldl {α : Type} (f : State → α → State) (h : ∀ (s : State) a, s.Stands (f s a)) (l : List α)
    (s : State) : s.Stands (l.foldl f s) := by
  induction l generalizing s with
  | nil => exact .refl s
  | cons a l ih => exact (h s a).trans (ih _)

theorem State.Stands.of_ground (ground : t.ground = s.ground) (kept : t.kept = s.kept) (docket : t.docket = s.docket)
    (grants : t.grants = s.grants) (line : t.line = s.line) (holds : s.Holds t) : s.Stands t where
  scan := congrArg Ground.scan ground
  rebuild := congrArg Ground.rebuild ground
  line := line
  case := congrArg Ground.reconCase ground
  cause := congrArg Ground.reconCause ground
  cold := congrArg Ground.coldNext ground
  drain := congrArg (fun g => (Ground.power g).drain) ground
  now := now_of_kept kept
  phase := phase_of_grants grants
  seen := seen_of_ground ground
  custody i := congrArg Case.custody (case_of_docket docket i)
  commanded := commanded_of_grants grants
  outstanding := outstanding_of_grants grants
  holds := holds

theorem stands_dispatch (s : State) : s.Stands s.dispatch := by
  obtain ⟨sess, round, bays, e, -⟩ := shared_dispatch s
  exact .of_ground (ground_dispatch s) (kept_dispatch s) (docket_dispatch s) (grants_dispatch s)
    (line_of_hold (hold_dispatch s)) (.of_loop (by rw [e]))

theorem stands_raise (s : State) (k : NoticeKind) (bay : Option BayIx) (asset : Option AssetId) (session : Option Nat)
    (value : Option Nat) (reason : Option Reason) : s.Stands (s.raise k bay asset session value reason) := by
  obtain ⟨n, e, -⟩ := raise_spec s k bay asset session value reason
  rw [e]
  exact ⟨rfl, rfl, rfl, rfl, rfl, rfl, rfl, rfl, rfl, fun _ => rfl, fun _ => rfl, fun _ => rfl, fun _ => rfl,
    .of_loop rfl⟩

theorem stands_leaveReady (s : State) (i : BayIx) (why : Option Reason) : s.Stands (s.leaveReady i why) := by
  obtain ⟨loop, -⟩ := leaveReady_rest s i why
  exact .of_ground (ground_leaveReady s i why) (kept_leaveReady s i why) (docket_leaveReady s i why)
    (grants_leaveReady s i why) (line_of_hold (hold_leaveReady s i why)) (.of_loop loop)

theorem stands_compareLamp (s : State) (i : BayIx) : s.Stands (s.compareLamp i) :=
  .of_ground (ground_compareLamp s i) (kept_compareLamp s i) (docket_of_aside (aside_compareLamp s i))
    (grants_compareLamp s i) (line_of_hold (hold_compareLamp s i)) (holds_compareLamp s i)

/-! ### The end of an event outside a round -/

/-- Outside a round no phase moves on (R37). -/
def State.Rests (s : State) : Prop := s.round.state = .idle ∨ s.round.state = .holdoff

theorem State.Rests.roundOn (h : s.Rests) : s.roundOn = s := by
  rcases h with e | e <;> exact roundOn_of_still (by rw [e]; simp) (by rw [e]; simp)

theorem State.Rests.cutRound (h : s.Rests) : s.cutRound = s := by
  refine if_neg fun runs => ?_
  rcases h with e | e <;> rw [e] at runs <;> simp at runs

theorem State.Rests.stands (h : s.Rests) (k : s.Stands t) : t.Rests := by
  unfold State.Rests
  rw [k.phase]
  exact h

/-- The pool recomputed outside a round marks the round, and no more (R7). -/
theorem recomputePool_rests (h : s.Rests) : ∃ pending atOnce, s.recomputePool =
    { s with
      pool := { s.pool with inForce := s.poolNow }
      round := { s.round with pending := pending, atOnce := atOnce } } := by
  by_cases below : s.poolNow < s.countedSum
  · have rests : s.pooled.markAtOnce.Rests := h
    rw [recomputePool_below below, rests.cutRound]
    exact ⟨true, true, rfl⟩
  · rw [recomputePool_above below]
    split
    · exact ⟨true, s.round.atOnce, rfl⟩
    · exact ⟨s.round.pending, s.round.atOnce, rfl⟩

theorem stands_recomputePool (h : s.Rests) : s.Stands s.recomputePool := by
  obtain ⟨pending, atOnce, e⟩ := recomputePool_rests h
  rw [e]
  exact ⟨rfl, rfl, rfl, rfl, rfl, rfl, rfl, rfl, rfl, fun _ => rfl, fun _ => rfl, fun _ => rfl, fun _ => rfl,
    .of_loop rfl⟩

theorem stands_leaveTransit (h : s.Rests) : s.Stands s.leaveTransit := by
  have served : s.Stands { s with power := { s.power with state := .serving } } :=
    ⟨rfl, rfl, rfl, rfl, rfl, rfl, rfl, rfl, rfl, fun _ => rfl, fun _ => rfl, fun _ => rfl, fun _ => rfl, .of_loop rfl⟩
  have said := served.trans (stands_raise _ .transitLeft none none none none none)
  have ended := said.trans (stands_recomputePool (h.stands said))
  unfold State.leaveTransit
  split
  · exact ended
  · exact ended
  · exact .refl s
  · exact .refl s

theorem stands_released (s : State) : s.Stands s.released :=
  ⟨rfl, rfl, rfl, rfl, rfl, rfl, rfl, rfl, rfl, fun _ => rfl, fun _ => rfl, fun _ => rfl, fun _ => rfl, .of_loop rfl⟩

/-- The end of reconciliation, with no link Lost and outside a round (R165). -/
theorem stands_endRecon (h : s.Rests) (back : ∀ j, (s.bay j).link ≠ .lost) : s.Stands s.endRecon := by
  have released := stands_released s
  have transit := released.trans (stands_leaveTransit (h.stands released))
  rw [endRecon_eq back]
  exact transit.trans ((stands_dispatch _).trans (.foldl _ stands_compareLamp allBays _))

theorem endRecon_active (back : ∀ j, (s.bay j).link ≠ .lost) : s.endRecon.cust.reconActive = false := by
  have transit : ∀ u : State, u.leaveTransit.cust = u.cust := fun u => by
    have said : ∀ v : State, (State.raise v .transitLeft).recomputePool.cust = v.cust := fun v => by
      obtain ⟨n, e, -⟩ := raise_spec v .transitLeft none none none none none
      rw [cust_of_aside (aside_recomputePool _), e]
    unfold State.leaveTransit
    split
    · exact said _
    · exact said _
    · rfl
    · rfl
  have sent : ∀ u : State, u.dispatch.cust = u.cust := fun u => by
    obtain ⟨sess, round, bays, e, -⟩ := shared_dispatch u
    rw [e]
  rw [endRecon_eq back, cust_of_aside (aside_foldl _ _ _ aside_compareLamp), sent, transit]
  rfl

/-- The part of an event's end after reconciliation, with no drain in progress. -/
theorem still_tail (drain : s.power.drain = none) :
    s.grantSlots.drainCheck.roundOn.judgeEligible.deriveLamps.lines.still = s.still := by
  have idle : s.grantSlots.drainCheck = s.grantSlots :=
    if_neg (by rw [power_of_still (still_grantSlots s), drain]; simp)
  rw [idle]
  simp

theorem stands_tail (drain : s.power.drain = none) (h : s.Rests) :
    s.Stands s.grantSlots.drainCheck.roundOn.judgeEligible.deriveLamps.lines := by
  have still := still_tail drain
  have granted := grants_grantSlots s
  have holds := holds_grantSlots s
  have idle : s.grantSlots.drainCheck = s.grantSlots :=
    if_neg (by rw [power_of_still (still_grantSlots s), drain]; simp)
  have rests : s.grantSlots.Rests := by
    unfold State.Rests
    rw [phase_of_grants granted]
    exact h
  rw [idle, rests.roundOn] at still ⊢
  have kept : s.grantSlots.judgeEligible.deriveLamps.lines.kept = s.kept := by simp
  generalize s.grantSlots = v at still kept granted holds ⊢
  have lined : ∀ w : State, w.Holds w.lines := fun _ => .of_loop rfl
  refine .of_ground (ground_of_still still) kept (docket_of_still still) ?_ ?_ ?_
  · rw [grants_lines, grants_deriveLamps, grants_judgeEligible, granted]
  · unfold State.line
    rw [onLoop_of_still still]
  · exact holds.trans ((holds_judgeEligible v).trans ((holds_deriveLamps _).trans (lined _)))

/-- The end of an event as reconciliation begins, outside a round and with no link Lost. -/
theorem stands_settle (drain : s.power.drain = none) (h : s.Rests) (back : ∀ j, (s.bay j).link ≠ .lost) :
    s.Stands s.settle ∧ (s.GoesOn → s.settle.cust.reconActive = s.cust.reconActive) ∧
      (¬ s.GoesOn → s.settle.cust.reconActive = false) := by
  have tail : ∀ u : State, s.Stands u → s.Stands u.grantSlots.drainCheck.roundOn.judgeEligible.deriveLamps.lines ∧
      u.grantSlots.drainCheck.roundOn.judgeEligible.deriveLamps.lines.cust.reconActive = u.cust.reconActive :=
    fun u stands => by
      have idle := stands.drain.trans drain
      have active : ∀ w : State, w.still = u.still → w.cust.reconActive = u.cust.reconActive := fun w same =>
        congrArg CustodyUnit.reconActive (cust_of_still same)
      exact ⟨stands.trans (stands_tail idle (h.stands stands)), active _ (still_tail idle)⟩
  unfold State.settle
  by_cases on : s.GoesOn
  · rw [reconCheck_goesOn on]
    obtain ⟨stands, active⟩ := tail s (.refl s)
    exact ⟨stands, fun _ => active, absurd on⟩
  · have ends : s.reconCheck = s.endRecon := by
      unfold State.GoesOn at on
      simp only [not_or, Bool.not_eq_false, not_exists, Bool.not_eq_true] at on
      exact if_pos (by simp [on.1, on.2])
    obtain ⟨stands, active⟩ := tail s.endRecon (stands_endRecon h back)
    rw [ends]
    exact ⟨stands, fun goes => absurd goes on, fun _ => active.trans (endRecon_active back)⟩

end

end Sys2Proof.Machine


/-! The end of a rebuild (O32): the links, the fresh pass of the scan, and the beginning of reconciliation. -/

namespace Sys2Proof.Machine

section
variable {s t u : State} {i j : BayIx} {m : Nat}

/-! ### A pass of the scan begun (R144) -/

/-- The scan at the beginning of a pass of the first so many bays. -/
structure Scan.Begun (c : Scan) (m now period : Nat) : Prop where
  active : c.passActive = true
  start : c.passStart = now
  interval : c.interval = period / m
  position : c.position = some 0
  outstanding : c.outstanding = true
  left : c.left = (allBays.take m).tail

/-- What the beginning of a pass leaves, and what the beginning of reconciliation does. -/
structure State.Begins (s t : State) : Prop where
  rebuild : t.loop.rebuild = s.loop.rebuild
  running : t.loop.scan.running = s.loop.scan.running
  line : t.line = s.line
  cust : t.cust = s.cust
  power : t.power = s.power
  round : t.round = s.round
  now : t.now = s.now
  holds : s.Holds t

theorem State.Begins.refl (s : State) : s.Begins s := ⟨rfl, rfl, rfl, rfl, rfl, rfl, rfl, .refl s⟩

theorem State.Begins.trans (h : s.Begins t) (k : t.Begins u) : s.Begins u :=
  ⟨k.rebuild.trans h.rebuild, k.running.trans h.running, k.line.trans h.line, k.cust.trans h.cust,
    k.power.trans h.power, k.round.trans h.round, k.now.trans h.now, h.holds.trans k.holds⟩

theorem begins_place (s : State) (y : Txn) : s.Begins (s.place y) where
  rebuild := congrArg Ground.rebuild (ground_place s y)
  running := congrArg (fun g => (Ground.scan g).running) (ground_place s y)
  line := line_of_hold (hold_place s y)
  cust := rfl
  power := rfl
  round := rfl
  now := rfl
  holds := holds_place s y

theorem scan_place (s : State) (y : Txn) : (s.place y).loop.scan = s.loop.scan := congrArg Ground.scan (ground_place s y)

/-- The scan as a pass begins, before its first STATUS. -/
def State.passing (s : State) : State :=
  { s with
    loop := { s.loop with
      scan := { s.loop.scan with
        passActive := true, passStart := s.now, period := s.cfg .scanPeriod
        interval := s.cfg .scanPeriod / s.scanned.length, left := s.scanned, position := none } } }

theorem startPass_none (none : s.scanned = []) : s.startPass =
    { s.passing with
      loop := { s.passing.loop with
        scan := { s.passing.loop.scan with
          passActive := false, lastDuration := 0, nextStart := s.now + s.cfg .scanPeriod } } } := by
  unfold State.startPass State.passing
  dsimp only
  rw [none]

theorem startPass_some {rest : List BayIx} (some : s.scanned = i :: rest) :
    s.startPass = s.passing.scanPlace i rest := by
  unfold State.startPass State.passing
  dsimp only
  rw [some]

theorem begins_startPass (s : State) : s.Begins s.startPass ∧ s.startPass.bays = s.bays := by
  cases scanned : s.scanned with
  | nil =>
    rw [startPass_none scanned]
    exact ⟨⟨rfl, rfl, rfl, rfl, rfl, rfl, rfl, ⟨fun _ _ m => m⟩⟩, rfl⟩
  | cons i rest =>
    rw [startPass_some scanned]
    unfold State.scanPlace
    refine ⟨State.Begins.trans ?_ (begins_place ..), rfl⟩
    exact ⟨rfl, rfl, rfl, rfl, rfl, rfl, rfl, ⟨fun _ _ m => m⟩⟩

theorem startPass_idle (none : s.scanned = []) : s.startPass.loop.scan.passActive = false := by
  rw [startPass_none none]

theorem startPass_begun {rest : List BayIx} (some : s.scanned = 0 :: rest) (first : allBays.take m = 0 :: rest) (small : m ≤ 36) :
    s.startPass.loop.scan.Begun m s.now (s.cfg .scanPeriod) ∧ .scan 0 ∈ s.startPass.loop.unsent := by
  have length : (0 :: rest).length = m := by
    rw [← first, List.length_take]
    exact min_eq_left small
  rw [startPass_some some]
  unfold State.scanPlace
  refine ⟨?_, mem_place_self _ (by simp [Txn.client])⟩
  rw [scan_place]
  refine ⟨rfl, rfl, ?_, rfl, rfl, ?_⟩
  · show s.cfg .scanPeriod / s.scanned.length = _
    rw [some, length]
  · rw [first]
    rfl

theorem take_allBays : ∀ m : Fin 37, (allBays.filter fun i => i.1 < m.1) = allBays.take m.1 := by decide

/-- With the first so many bays Linked and the others Absent a pass takes those. -/
theorem scanned_found (small : m ≤ 36) (link : ∀ i, (s.bay i).link = if i.1 < m then .linked else .absent) :
    s.scanned = allBays.take m := by
  rw [← take_allBays ⟨m, by omega⟩]
  refine List.filter_congr fun i _ => ?_
  rw [link]
  by_cases e : i.1 < m <;> simp [e]

/-! ### The beginning of reconciliation (R160) -/

theorem reconBay_linked (count : Nat) (linked : (s.bay i).link = .linked) :
    s.reconBay count i = (s.modBay i fun b => { b with recon := .pending 0 }).place (.recon i) := by
  unfold State.reconBay
  rw [linked]

/-- A bay that is not Linked may have a notice. -/
theorem reconBay_other (count : Nat) (other : (s.bay i).link ≠ .linked) :
    ∃ n, s.reconBay count i = { s with notices := n } := by
  unfold State.reconBay
  split
  · split
    · obtain ⟨n, raised, -⟩ := raise_spec s .bayLost (some i) (s.bay i).assetId none none (some .absent)
      exact ⟨n, raised⟩
    · exact ⟨s.notices, rfl⟩
  · next linked => exact absurd linked other
  · exact ⟨s.notices, rfl⟩
  · exact ⟨s.notices, rfl⟩

theorem bay_reconBay (s : State) (count : Nat) (i j : BayIx) : (s.reconBay count i).bay j =
    if j = i ∧ (s.bay j).link = .linked then { s.bay j with recon := .pending 0 } else s.bay j := by
  have placed : ∀ (u : State) y, (u.place y).bay j = u.bay j := fun _ _ => rfl
  by_cases linked : (s.bay i).link = .linked
  · rw [reconBay_linked count linked, placed, bay_modBay]
    by_cases own : j = i
    · subst own
      rw [if_pos rfl, if_pos ⟨rfl, linked⟩]
    · rw [if_neg own, if_neg fun h => own h.1]
  · obtain ⟨n, e⟩ := reconBay_other count linked
    rw [e, if_neg (by rintro ⟨rfl, on⟩; exact linked on)]
    rfl

theorem begins_reconBay (s : State) (count : Nat) (i : BayIx) :
    s.Begins (s.reconBay count i) ∧ (s.reconBay count i).loop.scan = s.loop.scan := by
  by_cases linked : (s.bay i).link = .linked
  · have marked : s.Begins (s.modBay i fun b => { b with recon := .pending 0 }) :=
      ⟨rfl, rfl, rfl, rfl, rfl, rfl, rfl, .of_loop rfl⟩
    rw [reconBay_linked count linked]
    exact ⟨marked.trans (begins_place ..), scan_place ..⟩
  · obtain ⟨n, e⟩ := reconBay_other count linked
    rw [e]
    exact ⟨⟨rfl, rfl, rfl, rfl, rfl, rfl, rfl, .of_loop rfl⟩, rfl⟩

theorem begins_reconBays (count : Nat) (l : List BayIx) (s : State) :
    s.Begins (l.foldl (fun s i => s.reconBay count i) s) ∧
      (l.foldl (fun s i => s.reconBay count i) s).loop.scan = s.loop.scan := by
  induction l generalizing s with
  | nil => exact ⟨.refl s, rfl⟩
  | cons i l ih =>
    obtain ⟨one, scan⟩ := begins_reconBay s count i
    obtain ⟨rest, scan'⟩ := ih (s.reconBay count i)
    exact ⟨one.trans rest, scan'.trans scan⟩

theorem link_reconBay (s : State) (count : Nat) (i j : BayIx) : ((s.reconBay count i).bay j).link = (s.bay j).link := by
  rw [bay_reconBay]
  split <;> rfl

/-- Every Linked bay is marked. -/
theorem bay_reconBays (count : Nat) (l : List BayIx) (s : State) (j : BayIx) :
    (l.foldl (fun s i => s.reconBay count i) s).bay j =
      if j ∈ l ∧ (s.bay j).link = .linked then { s.bay j with recon := .pending 0 } else s.bay j := by
  induction l generalizing s with
  | nil => simp
  | cons i l ih =>
    rw [List.foldl_cons, ih, link_reconBay, bay_reconBay]
    by_cases own : j = i
    · subst own
      by_cases linked : (s.bay j).link = .linked <;> simp [linked]
    · simp [own]

/-- Every Linked bay has a STATUS of its own placed. -/
theorem recon_reconBays (count : Nat) (l : List BayIx) (s : State) (linked : (s.bay j).link = .linked) (mem : j ∈ l) :
    .recon j ∈ (l.foldl (fun s i => s.reconBay count i) s).loop.unsent := by
  induction l generalizing s with
  | nil => cases mem
  | cons i l ih =>
    obtain rfl | later := List.mem_cons.1 mem
    · have placed : .recon j ∈ (s.reconBay count j).loop.unsent := by
        rw [reconBay_linked count linked]
        exact mem_place_self _ (by simp [Txn.client])
      exact (begins_reconBays count l _).1.holds.mem _ (firm_recon j) placed
    · exact ih (s.reconBay count i) ((link_reconBay ..).trans linked) later

/-! ### The end of the rebuild (R149) -/

/-- What the end of a rebuild at a position makes of a state. -/
structure State.Found (s : State) (r : Rebuild) (m : Nat) (u : State) : Prop where
  link : ∀ i, (u.bay i).link = if i.1 < m then .linked else .absent
  lostAt : ∀ i, (u.bay i).lostAt = none
  custody : ∀ i, (u.bay i).custody = (s.bay i).custody
  bare : ∀ i, m ≤ i.1 → (u.bay i).applied = 0 ∧ (u.bay i).commanded = 0 ∧ (u.bay i).outstanding = none
  marked : ∀ i, i.1 < m → (u.bay i).recon = .pending 0 ∧ .recon i ∈ u.loop.unsent
  left : ∀ i, m ≤ i.1 → (u.bay i).recon = (s.bay i).recon
  rebuild : u.loop.rebuild = none
  running : u.loop.scan.running = true
  line : u.line = s.line
  case : u.cust.reconCase = if s.cust.coldNext then .cold else .warm
  cold : u.cust.coldNext = false
  cause : u.cust.reconCause = r.cause
  drain : u.power.drain = s.power.drain
  now : u.now = s.now
  phase : u.round.state = s.round.state
  idle : m = 0 → u.loop.scan.passActive = false
  begun : 0 < m → u.loop.scan.Begun m s.now (s.cfg .scanPeriod) ∧ .scan 0 ∈ u.loop.unsent

theorem State.Found.stands {r : Rebuild} (h : s.Found r m u) (k : u.Stands t) : s.Found r m t := by
  have field : ∀ {α : Type} (f : Seen → α) i, f (t.bay i).seen = f (u.bay i).seen := fun f i => congrArg f (k.seen i)
  refine ⟨fun i => (field Seen.link i).trans (h.link i), fun i => (field Seen.lostAt i).trans (h.lostAt i),
    fun i => (k.custody i).trans (h.custody i), fun i gone => ?_, fun i found => ?_,
    fun i gone => (field Seen.recon i).trans (h.left i gone), k.rebuild.trans h.rebuild,
    (congrArg Scan.running k.scan).trans h.running, k.line.trans h.line, k.case.trans h.case, k.cold.trans h.cold,
    k.cause.trans h.cause, k.drain.trans h.drain, k.now.trans h.now, k.phase.trans h.phase,
    fun none => (congrArg Scan.passActive k.scan).trans (h.idle none), fun some => ?_⟩
  · obtain ⟨applied, commanded, outstanding⟩ := h.bare i gone
    exact ⟨(field Seen.applied i).trans applied, (k.commanded i).trans commanded, (k.outstanding i).trans outstanding⟩
  · obtain ⟨pending, waits⟩ := h.marked i found
    exact ⟨(field Seen.recon i).trans pending, k.holds.mem _ (firm_recon i) waits⟩
  · obtain ⟨begun, waits⟩ := h.begun some
    exact ⟨by rw [k.scan]; exact begun, k.holds.mem _ (firm_scan 0) waits⟩

/-- The links as the rebuild found them, and the notice of its end. -/
def State.relinked (s : State) (r : Rebuild) (m : Nat) : State :=
  (allBays.foldl (fun s i => s.leaveBeyond m i) (s.modBays fun i b => b.rediscovered (i.1 < m))).dispatch.raise
    .loopRebuilt (bay := if r.surplus then bayOf? r.bayCount else none)
    (value := some (m * 256 + (r.bayCount - m))) (reason := some (.cause r.cause))

theorem endRebuild_eq {r : Rebuild} (rebuild : s.loop.rebuild = some r) (m : Nat) :
    s.endRebuild m = (s.relinked r m).freshPass.beginRecon r.cause r.bayCount := by
  unfold State.endRebuild
  rw [rebuild]
  rfl

theorem stands_relinked (s : State) (r : Rebuild) (m : Nat) :
    (s.modBays fun i b => b.rediscovered (i.1 < m)).Stands (s.relinked r m) := by
  have beyond : ∀ (u : State) i, u.Stands (u.leaveBeyond m i) := fun u i => by
    unfold State.leaveBeyond
    split
    · exact stands_leaveReady ..
    · exact .refl u
  exact (State.Stands.foldl _ beyond allBays _).trans ((stands_dispatch _).trans (stands_raise ..))

/-- The links as the rebuild found them: Linked up to the position, Absent and without grants beyond. -/
structure State.Relinked (s : State) (m : Nat) (v : State) : Prop where
  link : ∀ i, (v.bay i).link = if i.1 < m then .linked else .absent
  lostAt : ∀ i, (v.bay i).lostAt = none
  custody : ∀ i, (v.bay i).custody = (s.bay i).custody
  bare : ∀ i, m ≤ i.1 → (v.bay i).applied = 0 ∧ (v.bay i).commanded = 0 ∧ (v.bay i).outstanding = none
  recon : ∀ i, (v.bay i).recon = (s.bay i).recon
  line : v.line = s.line
  cold : v.cust.coldNext = s.cust.coldNext
  drain : v.power.drain = s.power.drain
  phase : v.round.state = s.round.state
  kept : v.kept = s.kept

theorem relinked_relinked (s : State) (r : Rebuild) (m : Nat) : s.Relinked m (s.relinked r m) := by
  have stands := stands_relinked s r m
  have kept : (s.relinked r m).kept = s.kept := by
    unfold State.relinked
    simp
  have bay := fun i => bay_modBays s (fun i b => b.rediscovered (i.1 < m)) i
  have line := line_of_hold (hold_modBays s fun i b => b.rediscovered (i.1 < m))
  generalize s.relinked r m = v at stands kept
  have seen : ∀ {α : Type} (f : Seen → α) i, f (v.bay i).seen = f ((s.bay i).rediscovered (i.1 < m)).seen :=
    fun f i => by rw [stands.seen, bay]
  have found : ∀ (b : Bay) (p : Bool), (b.rediscovered p).link = (if p then .linked else .absent) ∧
      (b.rediscovered p).lostAt = none ∧ (b.rediscovered p).custody = b.custody ∧ (b.rediscovered p).recon = b.recon :=
    fun b p => by cases p <;> exact ⟨rfl, rfl, rfl, rfl⟩
  refine ⟨fun i => ?_, fun i => ?_, fun i => ?_, fun i gone => ?_, fun i => ?_, stands.line.trans line,
    stands.cold.trans (by rw [modBays_cust]), stands.drain.trans (by rw [modBays_power]),
    stands.phase.trans (by rw [modBays_round]), kept⟩
  · obtain ⟨link, -⟩ := found (s.bay i) (i.1 < m)
    refine (seen Seen.link i).trans (link.trans ?_)
    simp
  · obtain ⟨-, lostAt, -⟩ := found (s.bay i) (i.1 < m)
    exact (seen Seen.lostAt i).trans lostAt
  · obtain ⟨-, -, custody, -⟩ := found (s.bay i) (i.1 < m)
    rw [stands.custody, bay]
    exact custody
  · have absent : (s.bay i).rediscovered (i.1 < m) = (s.bay i).rediscovered false := by
      rw [decide_eq_false (by omega)]
    refine ⟨(seen Seen.applied i).trans ?_, ?_, ?_⟩
    · rw [absent]
      rfl
    · rw [stands.commanded, bay, absent]
      rfl
    · rw [stands.outstanding, bay, absent]
      rfl
  · obtain ⟨-, -, -, recon⟩ := found (s.bay i) (i.1 < m)
    exact (seen Seen.recon i).trans recon

/-- The loop freed of its rebuild, the scanner running. -/
def State.freed (s : State) : State :=
  { s with loop := { s.loop with rebuild := none, scan := { s.loop.scan with running := true, outstanding := false } } }

theorem begins_freshPass (s : State) : s.freed.Begins s.freshPass ∧ s.freshPass.bays = s.bays :=
  begins_startPass s.freed

/-- A fresh pass takes the bays found. -/
theorem scan_freshPass (small : m ≤ 36) (link : ∀ i, (s.bay i).link = if i.1 < m then .linked else .absent) :
    (m = 0 → s.freshPass.loop.scan.passActive = false) ∧
    (0 < m → s.freshPass.loop.scan.Begun m s.now (s.cfg .scanPeriod) ∧ .scan 0 ∈ s.freshPass.loop.unsent) := by
  have taken : s.freed.scanned = allBays.take m := scanned_found small link
  refine ⟨fun none => ?_, fun some => ?_⟩
  · rw [none] at taken
    exact startPass_idle taken
  · obtain ⟨n, rfl⟩ : ∃ n, m = n + 1 := ⟨m - 1, by omega⟩
    have first : allBays.take (n + 1) = 0 :: allBays.tail.take n := rfl
    exact startPass_begun (taken.trans first) first small

/-- The course of reconciliation as it begins (R160). -/
def State.reconciling (s : State) (c : RebuildCause) : State :=
  { s with
    cust := { s.cust with
      reconActive := true
      reconCase := if s.cust.coldNext then .cold else .warm
      reconCause := c
      coldNext := false } }

/-- What the beginning of reconciliation makes of a state with no link Lost. -/
theorem begins_beginRecon (s : State) (c : RebuildCause) (count : Nat) :
    (s.reconciling c).Begins (s.beginRecon c count) ∧ (s.beginRecon c count).loop.scan = s.loop.scan ∧
    (∀ i, (s.beginRecon c count).bay i =
      if (s.bay i).link = .linked then { s.bay i with recon := .pending 0 } else s.bay i) ∧
    ∀ i, (s.bay i).link = .linked → .recon i ∈ (s.beginRecon c count).loop.unsent := by
  obtain ⟨begins, scan⟩ := begins_reconBays count allBays (s.reconciling c)
  have each : s.beginRecon c count = allBays.foldl (fun s i => s.reconBay count i) (s.reconciling c) := by
    unfold State.beginRecon State.reconciling
    rfl
  rw [each]
  refine ⟨begins, scan, fun i => ?_, fun i linked =>
    recon_reconBays count allBays (s.reconciling c) linked (mem_allBays i)⟩
  have marked := bay_reconBays count allBays (s.reconciling c) i
  simp only [mem_allBays, true_and] at marked
  exact marked

/-- The rebuild's end, from the state of its links to the beginning of reconciliation. -/
theorem found_endRebuild {r : Rebuild} (rebuild : s.loop.rebuild = some r) (small : m ≤ 36) :
    s.Found r m (s.endRebuild m) ∧ (s.endRebuild m).cust.reconActive = true := by
  have linked := relinked_relinked s r m
  rw [endRebuild_eq rebuild]
  generalize s.relinked r m = v at linked ⊢
  obtain ⟨pass, bays⟩ := begins_freshPass v
  obtain ⟨none, some⟩ := scan_freshPass small linked.link
  have bay : ∀ i, v.freshPass.bay i = v.bay i := fun i => by unfold State.bay; rw [bays]
  generalize v.freshPass = w at pass none some bay ⊢
  obtain ⟨begins, scan, marked, waits⟩ := begins_beginRecon w r.cause r.bayCount
  generalize w.beginRecon r.cause r.bayCount = u at begins scan marked waits ⊢
  have cold : w.cust.coldNext = s.cust.coldNext := by rw [pass.cust]; exact linked.cold
  have found : ∀ i, i.1 < m → u.bay i = { v.bay i with recon := .pending 0 } := fun i on => by
    rw [marked, bay, if_pos (by rw [linked.link, if_pos on])]
  have gone : ∀ i, m ≤ i.1 → u.bay i = v.bay i := fun i off => by
    rw [marked, bay, if_neg (by rw [linked.link, if_neg (by omega)]; simp)]
  have left : ∀ {α : Type} (f : Bay → α), (∀ b : Bay, f { b with recon := .pending 0 } = f b) →
      ∀ i, f (u.bay i) = f (v.bay i) := fun f same i => by
    by_cases on : i.1 < m
    · rw [found i on, same]
    · rw [gone i (by omega)]
  refine ⟨⟨fun i => (left Bay.link (fun _ => rfl) i).trans (linked.link i),
    fun i => (left Bay.lostAt (fun _ => rfl) i).trans (linked.lostAt i),
    fun i => (left Bay.custody (fun _ => rfl) i).trans (linked.custody i), fun i off => ?_, fun i on => ?_,
    fun i off => ?_, begins.rebuild.trans pass.rebuild, begins.running.trans pass.running,
    begins.line.trans (pass.line.trans linked.line), ?_, ?_, ?_, ?_, ?_, ?_, fun zero => ?_, fun more => ?_⟩, ?_⟩
  · rw [gone i off]
    exact linked.bare i off
  · rw [found i on]
    exact ⟨rfl, waits i (by rw [bay, linked.link, if_pos on])⟩
  · rw [gone i off]
    exact linked.recon i
  · rw [begins.cust, ← cold]
    rfl
  · rw [begins.cust]
    rfl
  · rw [begins.cust]
    rfl
  · rw [begins.power]
    exact (congrArg Power.drain pass.power).trans linked.drain
  · exact begins.now.trans (pass.now.trans (now_of_kept linked.kept))
  · rw [begins.round]
    exact (congrArg Round.state pass.round).trans linked.phase
  · rw [scan]
    exact none zero
  · obtain ⟨begun, first⟩ := some more
    rw [now_of_kept linked.kept, cfg_of_kept linked.kept] at begun
    exact ⟨by rw [scan]; exact begun, begins.holds.mem _ (firm_scan 0) first⟩
  · rw [begins.cust]
    rfl

/-! ### The event -/

/-- What the obligation says of the end of the event. -/
structure State.Rebuilt (s : State) (r : Rebuild) (m : Nat) (t : State) : Prop where
  found : s.Found r m t
  ended : m = 0 → (∀ i, (s.bay i).isPending = false) → t.cust.reconActive = false
  active : 0 < m → t.cust.reconActive = true

theorem rebuilt_settle {r : Rebuild} (drain : s.power.drain = none) (rests : s.Rests) (rebuild : s.loop.rebuild = some r)
    (small : m ≤ 36) : s.Rebuilt r m (s.endRebuild m).settle := by
  obtain ⟨found, active⟩ := found_endRebuild rebuild small
  have still : (s.endRebuild m).Rests := by
    unfold State.Rests
    rw [found.phase]
    exact rests
  have back : ∀ j, ((s.endRebuild m).bay j).link ≠ .lost := fun j => by
    rw [found.link]
    split <;> simp
  obtain ⟨stands, goes, ends⟩ := stands_settle (found.drain.trans drain) still back
  refine ⟨found.stands stands, fun zero none => ends ?_, fun more => (goes ?_).trans active⟩
  · rintro (idle | ⟨j, pending⟩)
    · rw [active] at idle
      cases idle
    · have same := found.left j (by omega)
      have off := none j
      unfold Bay.isPending at pending off
      rw [same, off] at pending
      cases pending
  · obtain ⟨marked, -⟩ := found.marked 0 more
    exact .inr ⟨0, by unfold Bay.isPending; rw [marked]⟩

end

end Sys2Proof.Machine


/-! The endings at which a rebuild ends (O32). -/

namespace Sys2Proof.Machine

section
variable {s : State} {m : Nat}

/-- The transaction's client ends the rebuild in progress at this position. -/
def Txn.EndsAt (y : Txn) (e : Ending) (m : Nat) : Prop :=
  ∀ (u : State) (r : Rebuild) (stale : Bool), u.loop.rebuild = some r → u.told y stale e = u.endRebuild m

/-- Discovery's IDENTIFY refused or not answered (R147). -/
theorem endsAt_discIdentify (p : BayIx) {e : Ending} (failed : e.ok = false) : (Txn.discIdentify p).EndsAt e p.1 :=
  fun u r stale _ => by
    cases e with
    | answer a =>
      have refused : a.result ≠ .ok := by simpa [Ending.ok] using failed
      show u.discIdentified p (if a.result = .ok then some a.serial else none) = _
      rw [if_neg refused]
      rfl
    | noAnswer => rfl
    | dropped => rfl

/-- Discovery's PASS close refused or not answered (R147, R148). -/
theorem endsAt_discPass (p : BayIx) {e : Ending} (failed : e.ok = false) : (Txn.discPass p).EndsAt e (p.1 + 1) :=
  fun u r stale rebuild => by
    show u.discPassed p e.ok = _
    unfold State.discPassed
    rw [rebuild, failed]
    rfl

theorem endsAt_discReset (p : BayIx) (e : Ending) : (Txn.discReset p).EndsAt e p.1 := fun _ _ _ _ => rfl

theorem endsAt_probePass (p : BayIx) (e : Ending) : (Txn.probePass p).EndsAt e (p.1 + 1) := fun _ _ _ _ => rfl

/-- A transaction of the Loop Master's own changes no link and distributes nothing (R140). -/
theorem ended_master {y : Txn} (own : y.bay? = none) (s : State) (stale : Bool) (e : Ending) :
    s.ended y stale e = s.told y stale e := by
  have linked : s.linkOf y e = s := by
    unfold State.linkOf
    rw [own]
  have shared : s.shareOut y e = s := by
    unfold State.shareOut
    rw [own]
  unfold State.ended
  rw [linked, shared]

/-- A broadcast has no answer (R136). -/
theorem address_of_answer {y : Txn} {resp : List Byte} {a : Answer} (valid : answer? y resp = some a) : y.address ≠ 63 := by
  intro broadcast
  unfold answer? at valid
  split at valid
  · rw [if_pos broadcast] at valid
    cases valid
  · cases valid

theorem awaited_of_address {o : OnLoop} (onLoop : s.loop.onLoop = some o) (address : o.txn.address ≠ 63) :
    s.awaited = some o := by
  unfold State.awaited
  rw [onLoop]
  simp [Option.filter, address]

theorem address_of_position (p : BayIx) : (Txn.discIdentify p).address ≠ 63 ∧ (Txn.discReset p).address ≠ 63 ∧
    (Txn.discPass p).address ≠ 63 ∧ (Txn.probePass p).address ≠ 63 := by
  have small : ∀ j : BayIx, bayNumber j ≠ 63 := by decide
  exact ⟨Nat.zero_ne_add_one 62, small p, small p, small p⟩

/-- An answer that ends the rebuild. -/
theorem rebuildAnswered_eq (awake : s.resetHeld = false) {o : OnLoop} (onLoop : s.loop.onLoop = some o)
    (own : o.txn.bay? = none) {r : Rebuild} (rebuild : s.loop.rebuild = some r) {resp : List Byte} {a : Answer}
    (valid : answer? o.txn resp = some a) (ends : o.txn.EndsAt (.answer a) m) :
    live s (s.onAnswer o.txn.opCode resp) = .next ((s.idledAt s.now).endRebuild m).settle := by
  have answered : s.onAnswer o.txn.opCode resp = (s.idleLoop.ended o.txn o.stale (.answer a)).settle := by
    unfold State.onAnswer
    rw [awaited_of_address onLoop (address_of_answer valid)]
    dsimp only
    rw [if_pos rfl, valid]
    rfl
  rw [live_awake awake, answered, ended_master own, ends s.idleLoop r o.stale rebuild]
  rfl

/-- A third attempt without an answer that ends the rebuild. -/
theorem rebuildUnanswered_eq (awake : s.resetHeld = false) {o : OnLoop} (onLoop : s.loop.onLoop = some o)
    (own : o.txn.bay? = none) (address : o.txn.address ≠ 63) (third : o.attempt = 3) {r : Rebuild}
    (rebuild : s.loop.rebuild = some r) (ends : o.txn.EndsAt .noAnswer m) :
    exec .responseWaitExpiry s = .next ((s.idledAt (max s.now o.waitDue)).endRebuild m).settle := by
  rw [third_eq awake (awaited_of_address onLoop address) third, ended_master own,
    ends (s.reach o.waitDue).idleLoop r o.stale rebuild]
  rfl

end

/-- Settles O32: every such ending ends the rebuild at its position, and the rest of the event leaves what that brings. -/
theorem rebuildEndsAtThePositionReached : Obligations.RebuildEndsAtThePositionReached := by
  intro s awake calm rests o onLoop r rebuild phase done
  have said : ∀ (n : Nat) {m : Nat}, m ≤ 36 → done (.next ((s.idledAt n).endRebuild m).settle) m := fun n m small => by
    have rests : (s.idledAt n).Rests := rests
    obtain ⟨found, ended, active⟩ := rebuilt_settle (s := s.idledAt n) calm.idledAt.2 rests rebuild small
    generalize ((s.idledAt n).endRebuild m).settle = t at found ended active
    refine ⟨t, rfl, by rw [found.rebuild]; rfl, fun i => ⟨found.link i, found.lostAt i, found.custody i, found.bare i,
      found.marked i⟩, found.running, onLoop_of_line found.line rfl, found.case, found.cold, found.cause,
      fun none => ⟨found.idle none, ended none⟩, fun some => ?_⟩
    obtain ⟨begun, waits⟩ := found.begun some
    exact ⟨active some, begun.active, begun.start.trans found.now.symm, begun.interval, begun.position,
      begun.outstanding, begun.left, waits⟩
  refine ⟨fun resp a valid => ?_, fun third => ?_⟩
  · have answered : ∀ {op m : Nat}, o.txn.opCode = op → o.txn.bay? = none → o.txn.EndsAt (.answer a) m → m ≤ 36 →
        done (live s (s.onAnswer op resp)) m := fun op own ends small => by
      rw [← op, rebuildAnswered_eq awake onLoop own rebuild valid ends]
      exact said _ small
    have refused : a.result ≠ .ok → (Ending.answer a).ok = false := fun no => by simpa [Ending.ok] using no
    refine ⟨fun p txn no => ?_, fun p txn no => ?_, fun p txn => ?_, fun p txn => ?_⟩
    · exact answered (by rw [txn]; rfl) (by rw [txn]; rfl) (by rw [txn]; exact endsAt_discIdentify p (refused no))
        (by omega)
    · exact answered (by rw [txn]; rfl) (by rw [txn]; rfl) (by rw [txn]; exact endsAt_discPass p (refused no)) p.2
    · exact answered (by rw [txn]; rfl) (by rw [txn]; rfl) (by rw [txn]; exact endsAt_discReset p _) (by omega)
    · exact answered (by rw [txn]; rfl) (by rw [txn]; rfl) (by rw [txn]; exact endsAt_probePass p _) p.2
  · have unanswered : ∀ {m : Nat}, o.txn.bay? = none → o.txn.address ≠ 63 → o.txn.EndsAt .noAnswer m → m ≤ 36 →
        done (exec .responseWaitExpiry s) m := fun own address ends small => by
      rw [rebuildUnanswered_eq awake onLoop own address third rebuild ends]
      exact said _ small
    refine ⟨fun p txn => ?_, fun p txn => ?_⟩
    · obtain ⟨identify, reset, -, -⟩ := address_of_position p
      rcases txn with txn | txn
      · exact unanswered (by rw [txn]; rfl) (by rw [txn]; exact identify)
          (by rw [txn]; exact endsAt_discIdentify p rfl) (by omega)
      · exact unanswered (by rw [txn]; rfl) (by rw [txn]; exact reset) (by rw [txn]; exact endsAt_discReset p _) (by omega)
    · obtain ⟨-, -, pass, probe⟩ := address_of_position p
      rcases txn with txn | txn
      · exact unanswered (by rw [txn]; rfl) (by rw [txn]; exact pass) (by rw [txn]; exact endsAt_discPass p rfl) p.2
      · exact unanswered (by rw [txn]; rfl) (by rw [txn]; exact probe) (by rw [txn]; exact endsAt_probePass p _) p.2

end Sys2Proof.Machine
